-- ==== Sys2Proof/Word.lean ====
section
/-! DEFINITION. Word.lean: the words, levels and index types of the OS-4612 model. -/

namespace Sys2Proof

/-- A byte of host memory. -/
abbrev Byte := BitVec 8
/-- A 16-bit field or result word. -/
abbrev Word16 := BitVec 16
/-- A register of the register window. -/
abbrev Word32 := BitVec 32
/-- A 64-bit bus address. -/
abbrev Addr := BitVec 64
/-- The 64 bytes of a group-ring slot as one number: the byte at offset `o` is bits `8o+7..8o`
(little-endian, Chapter 11). -/
abbrev Slot64 := BitVec 512
/-- The 32 bytes of an administrative slot or of a completion entry, numbered as `Slot64`. -/
abbrev Slot32 := BitVec 256

/-- One of the output groups G0..G3. -/
abbrev GroupId := Fin 4
/-- One of the output pairs 0..5. -/
abbrev PairId := Fin 6
/-- One of the trip lines TRIP0..TRIP3. -/
abbrev LineId := Fin 4
/-- One of the sixteen tokens. -/
abbrev TokenId := Fin 16

/-- The level of a pin. -/
inductive Level where
  | low
  | high
deriving DecidableEq, Repr, Inhabited

/-- The opposite level. -/
def Level.flip : Level → Level
  | .low => .high
  | .high => .low

/-- HIGH for a set bit, LOW for a clear one. -/
def Level.ofBool : Bool → Level
  | true => .high
  | false => .low

end Sys2Proof
end

