-- ==== Sys2Proof/Syntax.lean ====
section
/-! DEFINITION. Syntax.lean: the commands of the block, one constructor for each row of the table of
operations and events (spec/opcode_table.json). -/

namespace Sys2Proof

/-- The eleven registers of the register window (Table 10.1). -/
inductive RegName where
  | devid | ctrl | stat | evt | evtmask | post
  | admbaseLo | admbaseHi | cplbaseLo | cplbaseHi | ringcfg
deriving DecidableEq, Repr

/-- The bytes of a register that a read addresses (R173): the word, one half of it, or one byte. Which
reads narrower than 32 bits the target port can carry is not said (section 10.8): DESIGN CHOICE (log 31). -/
inductive ReadWidth where
  | word
  | half (upper : Bool)
  | byte (lane : Fin 4)
deriving DecidableEq, Repr

/-- One of the two outputs of a pair. -/
inductive Output where
  | p
  | n
deriving DecidableEq, Repr

/-- The commands. POWER_ON_RESET carries the level of RSTn after it: LOW where the reset pin stays asserted, HIGH,
which is also meant where no level is written, where it is released (R179; log 5). In an answer of the bus, `late` says that the answered transaction was issued before
the last reset (R150). An administrative command is the OK answer to the administrative processor's
read, with the 32 bytes of the slot (R138). -/
inductive Instr where
  -- resets and start
  | powerOnReset (rstn : Level := .high)
  | ctrlReset
  | ctrlStart
  -- events
  | evtWrite (value : Word32)
  | evtmaskWrite (value : Word32)
  -- POST
  | postGroupTail (g : GroupId) (index : Word16)
  | postAdminTail (index : Word16)
  | postCompletionRelease (index : Word16)
  -- ring bases and the other registers
  | admbaseLoWrite (value : Word32)
  | cplbaseLoWrite (value : Word32)
  | admbaseHiWrite (value : Word32)
  | cplbaseHiWrite (value : Word32)
  | admbaseHiRead (width : ReadWidth)
  | cplbaseHiRead (width : ReadWidth)
  | registerWrite (reg : RegName) (narrow : Bool) (value : Word32)
  -- fetching of segment records
  | groupFetchIssue (g : GroupId)
  | groupReadOk (late : Bool) (g : GroupId) (slot : Slot64)
  | groupReadError (late : Bool) (g : GroupId)
  -- group time and start sets
  | groupTick (g : GroupId)
  | periodBoundary (g : GroupId)
  | deadTimeExpiry (p : PairId) (o : Output)
  | starvedResume (g : GroupId)
  | startSetFire (g : GroupId)
  -- converter and result writer
  | converterTick (sample : BitVec 12)
  | conversionEnd
  | resultWriteIssue
  | resultWriteOk (late : Bool)
  | resultWriteError (late : Bool)
  -- leaving the window, notices
  | recordLeave (g : GroupId)
  | noticeQueue (g : GroupId)
  -- administrative fetch and completion writer
  | adminFetchIssue
  | adminReadError (late : Bool)
  | completionWriteIssue
  | completionWriteOk (late : Bool)
  | completionWriteError (late : Bool)
  -- trip unit
  | tripSample (pins : Vector Level 4)
  | filteredLevelChange (l : LineId)
  -- administrative commands
  | bindRing (late : Bool) (cmd : Slot32)
  | unbindRing (late : Bool) (cmd : Slot32)
  | setGroup (late : Bool) (cmd : Slot32)
  | setPair (late : Bool) (cmd : Slot32)
  | setConverter (late : Bool) (cmd : Slot32)
  | setTrip (late : Bool) (cmd : Slot32)
  | start (late : Bool) (cmd : Slot32)
  | stop (late : Bool) (cmd : Slot32)
  | abort (late : Bool) (cmd : Slot32)
  | setToken (late : Bool) (cmd : Slot32)
  | clearTrip (late : Bool) (cmd : Slot32)
  | queryGroup (late : Bool) (cmd : Slot32)
  | queryTokens (late : Bool) (cmd : Slot32)
  | queryTrips (late : Bool) (cmd : Slot32)
  | queryConverter (late : Bool) (cmd : Slot32)
  | unknown (late : Bool) (cmd : Slot32)
deriving DecidableEq, Repr

end Sys2Proof
end

