-- ==== Sys2Proof/Decode.lean ====
section
/-! DEFINITION. Decode.lean: the command that a word spells by the bits of spec/opcode_table.json. No row
of this table gives bits (its commands are register accesses, bus answers and happenings), so no word
spells a command (log 29). -/

namespace Sys2Proof

/-- The command a word of `nbits` bits spells by the table's bits. The table gives none of its rows
bits, so the answer is always `none`. -/
def decodeTableWord (_nbits _w : Nat) : Option Instr := none

end Sys2Proof
end

