-- ==== Sys2Proof/Machine/State.lean ====
section
/-! DEFINITION. Machine/State.lean: the state of the block as plain data, its reset, and the reasons a
step can stop. Every field is listed in INVENTORY.md with the rule that names it. -/

namespace Sys2Proof.Machine

/-! ## Names -/

/-- The controller states (Table 10.3). -/
inductive Ctrl where
  | off | running | halted
deriving DecidableEq, Repr

/-- STAT's halt cause (R182). -/
inductive HaltCause where
  | noCause | adminFetch | completionWrite
deriving DecidableEq, Repr

/-- The group states (Table 2.1). -/
inductive GroupState where
  | unbound | stopped | armed | running | starved | stopping | tripped | faulted
deriving DecidableEq, Repr

/-- The pending stop mode of a group (R21). -/
inductive PendingStop where
  | noStop | periodEnd | segmentEnd
deriving DecidableEq, Repr

/-- The counting mode of a group (R46). -/
inductive CountMode where
  | edge | centre
deriving DecidableEq, Repr

/-- The slope of a group counter (R49). -/
inductive Slope where
  | up | down
deriving DecidableEq, Repr

/-- The modes of a pair unit (Table 3.4). -/
inductive PairMode where
  | comp | compInv | same | pOnly
deriving DecidableEq, Repr

/-- The states of a window entry (Table 1.2). -/
inductive EntryState where
  | fetching | ready | bad | active | draining | retiring
deriving DecidableEq, Repr

/-- The statuses of a record (Table 1.3). -/
inductive SegStatus where
  | ok | cut | aborted | tripped | malformed | fetchError
deriving DecidableEq, Repr

/-- The statuses of an administrative command (Table 9.2). -/
inductive AdminStatus where
  | ok | badState | badParam | unknown | busy | tripActive | tripLatched
deriving DecidableEq, Repr

/-- The kinds of a notice (Table 2.2). -/
inductive NoticeKind where
  | started | starved | stopped | tripped | faulted | setBroken | tripCleared
deriving DecidableEq, Repr

/-- The converter states (Table 5.1). -/
inductive ConvState where
  | idle | converting | holding
deriving DecidableEq, Repr

/-- A fetch or write state of a requester: none, ASKING or ON_BUS (R102, R137, R141). -/
inductive BusState where
  | idle | asking | onBus
deriving DecidableEq, Repr

/-- The two sources of the result writer's jobs (Table 6.1). -/
inductive Source where
  | resultQueue | fillList
deriving DecidableEq, Repr

/-- The seven requesters of the bus master port (Table 8.6). -/
inductive Requester where
  | completionWriter
  | resultWriter
  | adminProcessor
  | fetcher (g : GroupId)
deriving DecidableEq, Repr

/-! ## Records and entries -/

/-- The levels of a pair's two outputs. -/
structure Levels where
  p : Level
  n : Level
deriving DecidableEq, Repr

/-- The flags of a record (Table 1.4). -/
structure SegFlags where
  extended : Bool := false
  captureLost : Bool := false
  resultTruncated : Bool := false
  resultFault : Bool := false
  resultIncomplete : Bool := false
  tokenSaturated : Bool := false
deriving DecidableEq, Repr

/-- The notice-pending set of a group (R21). -/
structure NoticeSet where
  started : Bool := false
  starved : Bool := false
  stopped : Bool := false
  tripped : Bool := false
  faulted : Bool := false
  setBroken : Bool := false
  tripCleared : Bool := false
deriving DecidableEq, Repr

/-- One entry of a group's segment window (R10 to R13, R102). -/
structure Entry where
  /-- The ring slot the record was fetched from (R11). It names the entry elsewhere. -/
  slot : Nat
  st : EntryState
  /-- The copy of the slot (R1); zero while FETCHING and after FETCH_ERROR (R9). -/
  copy : Slot64 := 0
  /-- The status, once fixed (R13). -/
  status : Option SegStatus := none
  flags : SegFlags := {}
  periodsRun : Nat := 0
  extensionPeriods : Nat := 0
  capturesLost : Nat := 0
  triggered : Nat := 0
  wordsWritten : Nat := 0
  crc : Word16 := 0xFFFF
  nextPos : Nat := 0
  faulted : Bool := false
deriving DecidableEq, Repr

/-- A window entry named from outside its window: its group and its slot. -/
structure EntryRef where
  group : GroupId
  slot : Nat
deriving DecidableEq, Repr

/-- A completion entry (Table 11.5), without the lap, which the writer adds. -/
inductive CplEntry where
  | segment (group : GroupId) (tag : Word16) (status : SegStatus) (notify : Bool) (flags : SegFlags)
      (retire wordsWritten : Nat) (crc : Word16) (capturesLost periodsRun extensionPeriods : Nat)
  | admin (opcode : Byte) (tag : Word16) (status : AdminStatus) (adminIndex : Nat) (value : BitVec 128)
  | notice (group : GroupId) (kinds : NoticeSet) (state : GroupState) (retire : Nat)
deriving DecidableEq, Repr

/-! ## Blocks -/

/-- The geometry and indices of a group ring (Table 8.2). -/
structure Ring where
  bound : Bool := false
  base : Addr := 0
  size : Nat := 4
  tail : Nat := 0
  fetch : Nat := 0
  retire : Nat := 0
  span : Nat := 0
deriving DecidableEq, Repr

/-- One output group: ring, sequencer, counter, window and holding queue. -/
structure Group where
  ring : Ring := {}
  state : GroupState := .unbound
  pendingStop : PendingStop := .noStop
  notices : NoticeSet := {}
  d : Nat := 0
  mode : CountMode := .edge
  presc : Nat := 0
  counter : Nat := 0
  slope : Slope := .up
  window : List Entry := []
  queue : List CplEntry := []
deriving DecidableEq, Repr

/-- The working state of one output of a pair in the complementary modes (Table 3.3). -/
structure OutState where
  timer : Nat := 0
  delayed : Bool := false
deriving DecidableEq, Repr

/-- A pair unit (Table 3.3), with the raw compare it holds between ticks (R51). -/
structure PairUnit where
  group : Option GroupId := none
  mode : PairMode := .comp
  dead : Nat := 0
  idle : Levels := ⟨.low, .low⟩
  safe : Levels := ⟨.low, .low⟩
  outP : OutState := {}
  outN : OutState := {}
  raw : Bool := false
  pins : Levels := ⟨.low, .low⟩
deriving DecidableEq, Repr

/-- A pending start set (R72): bit `g` of `members` names group `g`. `asked` is the model's mark that
the set has sent its request on this device clock (R75; log 17). -/
structure StartSet where
  members : BitVec 4
  asked : Bool := false
deriving DecidableEq, Repr

/-- A conversion request (R87). -/
structure Request where
  group : GroupId
  slot : Nat
  position : Nat
  input : Nat
  oversample : Nat
deriving DecidableEq, Repr

/-- A conversion result (R93). -/
structure ConvResult where
  group : GroupId
  slot : Nat
  position : Nat
  sum : Nat
deriving DecidableEq, Repr

/-- The converter (Table 5.1). -/
structure Converter where
  state : ConvState := .idle
  k : Nat := 4
  presc : Nat := 0
  current : Option Request := none
  step : Nat := 0
  done : Nat := 0
  sample : Nat := 0
  sum : Nat := 0
  held : Option ConvResult := none
deriving DecidableEq, Repr

/-- A job of the result writer (R104): a result, or the trailing fill of a record up to its target. -/
inductive Job where
  | result (r : ConvResult)
  | fill (ref : EntryRef) (target : Nat)
deriving DecidableEq, Repr

/-- The result write on the bus: whose it is and the word it carries. -/
structure WordOnBus where
  ref : EntryRef
  word : Word16
deriving DecidableEq, Repr

/-- The result writer (Table 6.1). -/
structure ResultWriter where
  queue : List ConvResult := []
  fill : List EntryRef := []
  job : Option Job := none
  write : BusState := .idle
  onBus : Option WordOnBus := none
  lastSource : Source := .fillList
deriving DecidableEq, Repr

/-- A trip line (Table 7.1). `sample` is the model's own: the level sampled on this sample tick whose
step FILTERED_LEVEL_CHANGE has still to carry out (log 8). -/
structure TripLine where
  active : Level := .high
  filterLen : Nat := 0
  mask : BitVec 4 := 0
  filtered : Bool := false
  run : Nat := 0
  latch : Bool := false
  sample : Option Level := none
deriving DecidableEq, Repr

/-- The administrative processor with its ring indices and holding queue (R130, R137, R140). -/
structure AdminProc where
  tail : Nat := 0
  fetch : Nat := 0
  state : BusState := .idle
  queue : List CplEntry := []
deriving DecidableEq, Repr

/-- The queues the completion writer serves, in its round-robin order (R141, R142). -/
inductive Server where
  | group (g : GroupId)
  | admin
deriving DecidableEq, Repr

/-- The completion ring and the completion writer (R130, R141). -/
structure CplWriter where
  write : Nat := 0
  lap : Bool := true
  release : Nat := 0
  unreleased : Nat := 0
  state : BusState := .idle
  lastServed : Server := .admin
  inFlight : Option CplEntry := none
deriving DecidableEq, Repr

/-- What a bus transaction moves (Table 8.6). -/
inductive BusOp where
  | readRecord
  | readCommand
  | writeEntry (data : Slot32)
  | writeWord (word : Word16)
deriving DecidableEq, Repr

/-- The number of bytes a bus transaction moves (Table 8.6). -/
def BusOp.bytes : BusOp → Nat
  | .readRecord => 64
  | .readCommand => 32
  | .writeEntry _ => 32
  | .writeWord _ => 2

/-- An outstanding transaction of the bus master port (R146). `late` marks one issued before the last
reset (R150). -/
structure BusTxn where
  requester : Requester
  addr : Addr
  op : BusOp
  late : Bool := false
deriving DecidableEq, Repr

/-- STAT's fields beside the controller state (Table 10.6). -/
structure StatReg where
  cause : HaltCause := .noCause
  cfgErr : Bool := false
  postRing : BitVec 3 := 0
  postIndex : Word16 := 0
deriving DecidableEq, Repr

/-- The model's marks of one device clock: which ticks have been taken, and whether the arbiter has
granted (log 17). -/
structure Marks where
  group : Vector Bool 4 := Vector.replicate 4 false
  conv : Bool := false
  trip : Bool := false
  grant : Bool := false
deriving DecidableEq, Repr

/-- The state of the block. -/
structure State where
  /-- The level of RSTn: LOW while the reset pin is asserted (R179, section 10.8). -/
  rstn : Level := .high
  -- register window
  ctrl : Ctrl := .off
  stat : StatReg := {}
  evt : BitVec 6 := 0
  evtMask : BitVec 6 := 0
  irq : Bool := false
  holding : Word32 := 0
  admBase : Addr := 0
  cplBase : Addr := 0
  admCode : BitVec 4 := 0
  cplCode : BitVec 4 := 0
  readData : List Byte := []
  -- groups, pairs and the shared tables
  groups : Vector Group 4 := Vector.replicate 4 {}
  pairs : Vector PairUnit 6 := Vector.replicate 6 {}
  tokens : Vector Nat 16 := Vector.replicate 16 0
  sets : List StartSet := []
  -- capture path
  captureQueue : List Request := []
  converter : Converter := {}
  writer : ResultWriter := {}
  -- trip unit
  lines : Vector TripLine 4 := Vector.replicate 4 {}
  tripPresc : Nat := 0
  -- administrative processor, completion path, bus port
  admin : AdminProc := {}
  cpl : CplWriter := {}
  bus : List BusTxn := []
  lastFetcher : GroupId := 3
  -- the model's own bookkeeping
  marks : Marks := {}
  clock : Nat := 0
  pending : List Instr := []
deriving DecidableEq, Repr

/-- The block right after a power-on reset, with the reset pin released (R179 and the reset columns of
Tables 3.3, 5.1, 6.1, 7.1, 8.2 and of R141): every field at the default its declaration gives. -/
def State.reset : State := {}

/-! ## Stopping -/

/-- The block has no fault that stops it: the manual gives every error an effect (a BAD record, a FAULTED
group, a HALTED controller), so no command and no step ever raises one. Safe: nothing is cut off. -/
inductive Fault where
deriving DecidableEq, Repr

/-- A command without a meaning. -/
inductive Refusal where
  /-- Raised only by an arm of `exec` whose command has no meaning yet. Safe: the run stops. No arm of
  this model raises it. -/
  | notModelled (mnemonic : String)
deriving DecidableEq, Repr

end Sys2Proof.Machine
end

