-- ==== Sys2Proof/Machine/Flags.lean ====
section
/-! DEFINITION. Machine/Flags.lean: the record flags, the notice kinds, the event bits and the IRQ line. -/

namespace Sys2Proof.Machine

/-! ## Segment flags -/

/-- No flag gained (R17). -/
def SegFlags.isNone (f : SegFlags) : Bool := f == {}

/-- The flags byte of a segment entry (Table 11.12). -/
def SegFlags.code (f : SegFlags) : Byte :=
  (BitVec.ofBool f.extended).zeroExtend 8
    ||| (BitVec.ofBool f.captureLost).zeroExtend 8 <<< 1
    ||| (BitVec.ofBool f.resultTruncated).zeroExtend 8 <<< 2
    ||| (BitVec.ofBool f.resultFault).zeroExtend 8 <<< 3
    ||| (BitVec.ofBool f.resultIncomplete).zeroExtend 8 <<< 4
    ||| (BitVec.ofBool f.tokenSaturated).zeroExtend 8 <<< 5

/-! ## Notice kinds -/

/-- Adding a kind to a notice-pending set; a kind already there changes nothing (R43). -/
def NoticeSet.add (k : NoticeKind) (n : NoticeSet) : NoticeSet :=
  match k with
  | .started => { n with started := true }
  | .starved => { n with starved := true }
  | .stopped => { n with stopped := true }
  | .tripped => { n with tripped := true }
  | .faulted => { n with faulted := true }
  | .setBroken => { n with setBroken := true }
  | .tripCleared => { n with tripCleared := true }

/-- Membership of a kind. -/
def NoticeSet.has (k : NoticeKind) (n : NoticeSet) : Bool :=
  match k with
  | .started => n.started
  | .starved => n.starved
  | .stopped => n.stopped
  | .tripped => n.tripped
  | .faulted => n.faulted
  | .setBroken => n.setBroken
  | .tripCleared => n.tripCleared

/-- The empty set. -/
def NoticeSet.isNone (n : NoticeSet) : Bool := n == {}

/-- The kinds byte of a notice entry (Table 11.11). -/
def NoticeSet.code (n : NoticeSet) : Byte :=
  (BitVec.ofBool n.started).zeroExtend 8
    ||| (BitVec.ofBool n.starved).zeroExtend 8 <<< 1
    ||| (BitVec.ofBool n.stopped).zeroExtend 8 <<< 2
    ||| (BitVec.ofBool n.tripped).zeroExtend 8 <<< 3
    ||| (BitVec.ofBool n.faulted).zeroExtend 8 <<< 4
    ||| (BitVec.ofBool n.setBroken).zeroExtend 8 <<< 5
    ||| (BitVec.ofBool n.tripCleared).zeroExtend 8 <<< 6

/-! ## Events and the interrupt line -/

/-- EVT.CPL (Table 10.8). -/
def evtCpl : BitVec 6 := 0b000001
/-- EVT.ADM. -/
def evtAdm : BitVec 6 := 0b000010
/-- EVT.NTC. -/
def evtNtc : BitVec 6 := 0b000100
/-- EVT.TRIP. -/
def evtTrip : BitVec 6 := 0b001000
/-- EVT.HALT. -/
def evtHalt : BitVec 6 := 0b010000
/-- EVT.POSTERR. -/
def evtPosterr : BitVec 6 := 0b100000

/-- Setting event bits; a bit already set stays set (R183). -/
def State.setEvt (bits : BitVec 6) (s : State) : State := { s with evt := s.evt ||| bits }

/-- A host write to EVT clears each bit written with 1 (R183). -/
def State.clearEvt (bits : BitVec 6) (s : State) : State := { s with evt := s.evt &&& ~~~bits }

/-- IRQ is asserted while at least one event bit is set whose enable is also set (R184). -/
def irqLevel (evt mask : BitVec 6) : Bool := evt &&& mask != 0

end Sys2Proof.Machine
end

