-- ==== Sys2Proof/WellFormed.lean ====
section
/-! DEFINITION. WellFormed.lean: which commands the table can spell. Operand ranges are in the operand
types; what is left is that an administrative row carries a slot whose opcode byte (and, for QUERY,
target byte) names that row (Tables 11.3, 11.7, 11.8), and that a REGISTER_WRITE is not a full write
that another row spells. -/

namespace Sys2Proof

/-- The opcode byte of a command slot (Table 11.3, offset 00h). -/
def opcodeOf (cmd : Slot32) : Byte := cmd.extractLsb' 0 8

/-- The mode or target byte of a command slot (Table 11.3, offset 08h). -/
def targetOf (cmd : Slot32) : Byte := cmd.extractLsb' 64 8

/-- The full 32-bit writes that have a row of their own, so that REGISTER_WRITE does not spell them. -/
def hasOwnRow : RegName → Word32 → Bool
  | .ctrl, v => v.getLsbD 0 || v.getLsbD 1
  | .evt, _ | .evtmask, _ => true
  | .post, v => decide ((v.extractLsb' 16 3).toNat < 6)
  | .admbaseLo, _ | .admbaseHi, _ | .cplbaseLo, _ | .cplbaseHi, _ => true
  | .devid, _ | .stat, _ | .ringcfg, _ => false

/-- A command that the table spells. A QUERY whose target is none of the four has no row of its own and
is spelled by QUERY_GROUP (log 19). -/
def Instr.wellFormed : Instr → Bool
  | .registerWrite r narrow v => narrow || !hasOwnRow r v
  | .bindRing _ c => opcodeOf c == 0x01
  | .unbindRing _ c => opcodeOf c == 0x02
  | .setGroup _ c => opcodeOf c == 0x03
  | .setPair _ c => opcodeOf c == 0x04
  | .setConverter _ c => opcodeOf c == 0x05
  | .setTrip _ c => opcodeOf c == 0x06
  | .start _ c => opcodeOf c == 0x07
  | .stop _ c => opcodeOf c == 0x08
  | .abort _ c => opcodeOf c == 0x09
  | .setToken _ c => opcodeOf c == 0x0A
  | .clearTrip _ c => opcodeOf c == 0x0B
  | .queryGroup _ c => opcodeOf c == 0x0C && targetOf c != 1 && targetOf c != 2 && targetOf c != 3
  | .queryTokens _ c => opcodeOf c == 0x0C && targetOf c == 1
  | .queryTrips _ c => opcodeOf c == 0x0C && targetOf c == 2
  | .queryConverter _ c => opcodeOf c == 0x0C && targetOf c == 3
  | .unknown _ c => opcodeOf c == 0x00 || decide (0x0C < (opcodeOf c).toNat)
  | .powerOnReset _ | .ctrlReset | .ctrlStart | .evtWrite _ | .evtmaskWrite _
  | .postGroupTail _ _ | .postAdminTail _ | .postCompletionRelease _
  | .admbaseLoWrite _ | .cplbaseLoWrite _ | .admbaseHiWrite _ | .cplbaseHiWrite _
  | .admbaseHiRead _ | .cplbaseHiRead _
  | .groupFetchIssue _ | .groupReadOk _ _ _ | .groupReadError _ _
  | .groupTick _ | .periodBoundary _ | .deadTimeExpiry _ _ | .starvedResume _ | .startSetFire _
  | .converterTick _ | .conversionEnd | .resultWriteIssue | .resultWriteOk _ | .resultWriteError _
  | .recordLeave _ | .noticeQueue _ | .adminFetchIssue | .adminReadError _
  | .completionWriteIssue | .completionWriteOk _ | .completionWriteError _
  | .tripSample _ | .filteredLevelChange _ => true

end Sys2Proof
end

