-- ==== Sys2Proof/Machine/Operands.lean ====
section
/-! DEFINITION. Machine/Operands.lean: the fields of a segment record (Tables 11.1, 11.2) and its
validation (R8), and the fields of an administrative command (Table 11.3) with its reserved bytes. -/

namespace Sys2Proof.Machine

/-! ## The segment record (R185) -/

/-- The byte of a 64-byte slot at an offset. -/
def Seg.byteAt (c : Slot64) (off : Nat) : Byte := c.extractLsb' (8 * off) 8

/-- The little-endian 16-bit field of a 64-byte slot at an offset. -/
def Seg.halfAt (c : Slot64) (off : Nat) : Word16 := c.extractLsb' (8 * off) 16

/-- The host's tag, 00h. -/
def Seg.tag (c : Slot64) : Word16 := Seg.halfAt c 0x00
/-- COMPLETE, flag byte bit 0. -/
def Seg.complete (c : Slot64) : Bool := (Seg.byteAt c 0x02).getLsbD 0
/-- NOTIFY, flag byte bit 1. -/
def Seg.notify (c : Slot64) : Bool := (Seg.byteAt c 0x02).getLsbD 1
/-- HOLD, flag byte bit 2. -/
def Seg.hold (c : Slot64) : Bool := (Seg.byteAt c 0x02).getLsbD 2
/-- HAS_WAIT, flag byte bit 3. -/
def Seg.hasWait (c : Slot64) : Bool := (Seg.byteAt c 0x02).getLsbD 3
/-- HAS_POST, flag byte bit 4. -/
def Seg.hasPost (c : Slot64) : Bool := (Seg.byteAt c 0x02).getLsbD 4
/-- HAS_CAPTURE, flag byte bit 5. -/
def Seg.hasCapture (c : Slot64) : Bool := (Seg.byteAt c 0x02).getLsbD 5
/-- Duty count, 03h. -/
def Seg.dutyCount (c : Slot64) : Nat := (Seg.byteAt c 0x03).toNat
/-- Period, 04h. -/
def Seg.period (c : Slot64) : Nat := (Seg.halfAt c 0x04).toNat
/-- Repeat, 06h. -/
def Seg.repeats (c : Slot64) : Nat := (Seg.halfAt c 0x06).toNat
/-- Duty `i`, 08h + 2i. -/
def Seg.duty (c : Slot64) (i : Nat) : Nat := (Seg.halfAt c (0x08 + 2 * i)).toNat
/-- Wait token, 14h. -/
def Seg.waitToken (c : Slot64) : Nat := (Seg.byteAt c 0x14).toNat
/-- Wait need, 15h. -/
def Seg.waitNeed (c : Slot64) : Nat := (Seg.byteAt c 0x15).toNat
/-- Post token, 16h. -/
def Seg.postToken (c : Slot64) : Nat := (Seg.byteAt c 0x16).toNat
/-- Post add, 17h. -/
def Seg.postAdd (c : Slot64) : Nat := (Seg.byteAt c 0x17).toNat
/-- Post timing, 18h: 00h AT_START, 01h AT_END. -/
def Seg.postTiming (c : Slot64) : Byte := Seg.byteAt c 0x18
/-- Point count, 19h. -/
def Seg.pointCount (c : Slot64) : Nat := (Seg.byteAt c 0x19).toNat
/-- Result capacity, 1Ah. -/
def Seg.capacity (c : Slot64) : Nat := (Seg.halfAt c 0x1A).toNat
/-- Result address, 20h. -/
def Seg.resultAddr (c : Slot64) : Addr := c.extractLsb' (8 * 0x20) 64
/-- Counter value of capture point `j`, 28h + 4j. -/
def Seg.pointValue (c : Slot64) (j : Nat) : Nat := (Seg.halfAt c (0x28 + 4 * j)).toNat
/-- Analog input of capture point `j`. -/
def Seg.pointInput (c : Slot64) (j : Nat) : Nat := (Seg.byteAt c (0x2A + 4 * j)).toNat
/-- Oversample nibble of capture point `j`. -/
def Seg.pointOversample (c : Slot64) (j : Nat) : Nat :=
  ((Seg.byteAt c (0x2B + 4 * j)).extractLsb' 0 4).toNat
/-- Slope nibble of capture point `j`: 0 UP, 1 DOWN. -/
def Seg.pointSlope (c : Slot64) (j : Nat) : Nat :=
  ((Seg.byteAt c (0x2B + 4 * j)).extractLsb' 4 4).toNat

/-- The record carries a post clause with timing AT_START (R6). -/
def Seg.postsAtStart (c : Slot64) : Bool := Seg.hasPost c && Seg.postTiming c == 0
/-- The record carries a post clause with timing AT_END (R6). -/
def Seg.postsAtEnd (c : Slot64) : Bool := Seg.hasPost c && Seg.postTiming c == 1

/-! ## Validation (R8), one definition per check -/

/-- 1: reserved bytes and the reserved bits of the flag byte are zero. -/
def Seg.check1 (c : Slot64) : Bool :=
  c.extractLsb' (8 * 0x1C) 32 == 0 && c.extractLsb' (8 * 0x38) 64 == 0
    && (Seg.byteAt c 0x02).extractLsb' 6 2 == 0

/-- 2: the period is neither 0 nor 1. -/
def Seg.check2 (c : Slot64) : Bool := decide (2 ≤ Seg.period c)

/-- 3: without HOLD the repeat is not 0. -/
def Seg.check3 (c : Slot64) : Bool := Seg.hold c || decide (1 ≤ Seg.repeats c)

/-- 4: the duty count is the number of pairs bound to the group. -/
def Seg.check4 (c : Slot64) (boundPairs : Nat) : Bool := Seg.dutyCount c == boundPairs

/-- 5: no duty within the duty count exceeds the period. A duty count above 6 places no duty beyond
the list (R185). -/
def Seg.check5 (c : Slot64) : Bool :=
  (List.range 6).all fun i => !decide (i < Seg.dutyCount c) || decide (Seg.duty c i ≤ Seg.period c)

/-- 6: the wait clause, where there is one, is in range. -/
def Seg.check6 (c : Slot64) : Bool :=
  !Seg.hasWait c
    || (decide (1 ≤ Seg.waitNeed c) && decide (Seg.waitNeed c ≤ 15) && decide (Seg.waitToken c ≤ 15))

/-- 7: the post clause, where there is one, is in range. -/
def Seg.check7 (c : Slot64) : Bool :=
  !Seg.hasPost c
    || (decide (1 ≤ Seg.postAdd c) && decide (Seg.postAdd c ≤ 15) && decide (Seg.postToken c ≤ 15)
        && (Seg.postTiming c == 0 || Seg.postTiming c == 1))

/-- 8: the point count of a capture part is 1..4. -/
def Seg.check8 (c : Slot64) : Bool :=
  !Seg.hasCapture c || (decide (1 ≤ Seg.pointCount c) && decide (Seg.pointCount c ≤ 4))

/-- 9: the result capacity is not 0 and the result address is even. -/
def Seg.check9 (c : Slot64) : Bool :=
  !Seg.hasCapture c || (decide (1 ≤ Seg.capacity c) && !(Seg.resultAddr c).getLsbD 0)

/-- 10: the last word of the result block lies inside the 64-bit address space. -/
def Seg.check10 (c : Slot64) : Bool :=
  !Seg.hasCapture c
    || decide ((Seg.resultAddr c).toNat + 2 * (Seg.capacity c - 1) < 2 ^ 64)

/-- 11, for one point: counter value, input, oversample and slope. -/
def Seg.pointOk (c : Slot64) (mode : CountMode) (j : Nat) : Bool :=
  decide (Seg.pointValue c j < Seg.period c)
    && decide (Seg.pointInput c j ≤ 11)
    && (Seg.pointOversample c j == 1 || Seg.pointOversample c j == 2
        || Seg.pointOversample c j == 4 || Seg.pointOversample c j == 8)
    && (Seg.pointSlope c j == 0 || (Seg.pointSlope c j == 1 && mode == .centre))

/-- 11: every capture point within the point count is in order. -/
def Seg.check11 (c : Slot64) (mode : CountMode) : Bool :=
  !Seg.hasCapture c
    || (List.range 4).all fun j => !decide (j < Seg.pointCount c) || Seg.pointOk c mode j

/-- The validation of a fetched copy against the group's mode and bound pairs (R8). -/
def Seg.valid (c : Slot64) (mode : CountMode) (boundPairs : Nat) : Bool :=
  Seg.check1 c && Seg.check2 c && Seg.check3 c && Seg.check4 c boundPairs && Seg.check5 c
    && Seg.check6 c && Seg.check7 c && Seg.check8 c && Seg.check9 c && Seg.check10 c
    && Seg.check11 c mode

/-! ## The administrative command (R186) -/

/-- The byte of a 32-byte slot at an offset. -/
def Cmd.byteAt (c : Slot32) (off : Nat) : Byte := c.extractLsb' (8 * off) 8

/-- The opcode as read, 00h. -/
def Cmd.opcode (c : Slot32) : Byte := opcodeOf c
/-- The tag, 02h. -/
def Cmd.tag (c : Slot32) : Word16 := c.extractLsb' (8 * 0x02) 16
/-- The group, 04h. -/
def Cmd.group (c : Slot32) : Nat := (Cmd.byteAt c 0x04).toNat
/-- The pair, 05h. -/
def Cmd.pair (c : Slot32) : Nat := (Cmd.byteAt c 0x05).toNat
/-- The line, 06h. -/
def Cmd.line (c : Slot32) : Nat := (Cmd.byteAt c 0x06).toNat
/-- The token, 07h. -/
def Cmd.token (c : Slot32) : Nat := (Cmd.byteAt c 0x07).toNat
/-- The mode or target, 08h. -/
def Cmd.mode (c : Slot32) : Nat := (targetOf c).toNat
/-- The active level of SET_TRIP, 09h. -/
def Cmd.level (c : Slot32) : Nat := (Cmd.byteAt c 0x09).toNat
/-- The group mask, 0Ah. -/
def Cmd.mask (c : Slot32) : Byte := Cmd.byteAt c 0x0A
/-- DISCARD, 0Bh. -/
def Cmd.discard (c : Slot32) : Nat := (Cmd.byteAt c 0x0B).toNat
/-- The number, 0Ch. -/
def Cmd.number (c : Slot32) : Nat := (c.extractLsb' (8 * 0x0C) 16).toNat
/-- Idle level of P, 0Eh. -/
def Cmd.idleP (c : Slot32) : Nat := (Cmd.byteAt c 0x0E).toNat
/-- Idle level of N, 0Fh. -/
def Cmd.idleN (c : Slot32) : Nat := (Cmd.byteAt c 0x0F).toNat
/-- Safe level of P, 10h. -/
def Cmd.safeP (c : Slot32) : Nat := (Cmd.byteAt c 0x10).toNat
/-- Safe level of N, 11h. -/
def Cmd.safeN (c : Slot32) : Nat := (Cmd.byteAt c 0x11).toNat
/-- The ring base of BIND_RING, 18h. -/
def Cmd.base (c : Slot32) : Addr := c.extractLsb' (8 * 0x18) 64

/-- The bits of a 32-byte slot taken by `n` bytes from an offset. -/
def Cmd.field (off n : Nat) : Slot32 := BitVec.ofNat 256 ((2 ^ (8 * n) - 1) * 2 ^ (8 * off))

/-- The bytes of a slot that a command uses, opcode and tag among them. -/
def Cmd.used (fields : List (Nat × Nat)) : Slot32 :=
  fields.foldl (fun m f => m ||| Cmd.field f.1 f.2) (Cmd.field 0x00 1 ||| Cmd.field 0x02 2)

/-- Every byte that the command does not use is zero (R152). -/
def Cmd.reservedClear (fields : List (Nat × Nat)) (c : Slot32) : Bool :=
  c &&& ~~~(Cmd.used fields) == 0

/-- The fields of each command besides opcode and tag, as offset and size (Table 11.4). -/
def Cmd.usedBindRing : List (Nat × Nat) := [(0x04, 1), (0x0C, 2), (0x18, 8)]
/-- UNBIND_RING's fields. -/
def Cmd.usedUnbindRing : List (Nat × Nat) := [(0x04, 1)]
/-- SET_GROUP's fields. -/
def Cmd.usedSetGroup : List (Nat × Nat) := [(0x04, 1), (0x08, 1), (0x0C, 2)]
/-- SET_PAIR's fields. -/
def Cmd.usedSetPair : List (Nat × Nat) :=
  [(0x04, 1), (0x05, 1), (0x08, 1), (0x0C, 2), (0x0E, 1), (0x0F, 1), (0x10, 1), (0x11, 1)]
/-- SET_CONVERTER's fields. -/
def Cmd.usedSetConverter : List (Nat × Nat) := [(0x0C, 2)]
/-- SET_TRIP's fields. -/
def Cmd.usedSetTrip : List (Nat × Nat) := [(0x06, 1), (0x09, 1), (0x0A, 1), (0x0C, 2)]
/-- START's fields. -/
def Cmd.usedStart : List (Nat × Nat) := [(0x0A, 1)]
/-- STOP's fields. -/
def Cmd.usedStop : List (Nat × Nat) := [(0x04, 1), (0x08, 1)]
/-- ABORT's fields. -/
def Cmd.usedAbort : List (Nat × Nat) := [(0x04, 1), (0x0B, 1)]
/-- SET_TOKEN's fields. -/
def Cmd.usedSetToken : List (Nat × Nat) := [(0x07, 1), (0x0C, 2)]
/-- CLEAR_TRIP's fields. -/
def Cmd.usedClearTrip : List (Nat × Nat) := [(0x06, 1)]
/-- QUERY's fields with target GROUP. -/
def Cmd.usedQueryGroup : List (Nat × Nat) := [(0x08, 1), (0x04, 1)]
/-- QUERY's fields with another target. -/
def Cmd.usedQuery : List (Nat × Nat) := [(0x08, 1)]

/-- A level byte: 0 LOW, 1 HIGH, every other value neither. -/
def levelOfCode : Nat → Option Level
  | 0 => some .low
  | 1 => some .high
  | _ => none

/-- SET_GROUP's mode byte: 0 EDGE, 1 CENTRE. -/
def countModeOfCode : Nat → Option CountMode
  | 0 => some .edge
  | 1 => some .centre
  | _ => none

/-- SET_PAIR's mode byte. -/
def pairModeOfCode : Nat → Option PairMode
  | 0 => some .comp
  | 1 => some .compInv
  | 2 => some .same
  | 3 => some .pOnly
  | _ => none

/-- A stop mode of the STOP command. -/
inductive StopMode where
  | periodEnd | segmentEnd | now
deriving DecidableEq, Repr

/-- STOP's mode byte. -/
def stopModeOfCode : Nat → Option StopMode
  | 0 => some .periodEnd
  | 1 => some .segmentEnd
  | 2 => some .now
  | _ => none

/-- A group byte naming one of G0..G3. -/
def groupOfCode (n : Nat) : Option GroupId := if h : n < 4 then some ⟨n, h⟩ else none

/-- A line byte naming one of TRIP0..TRIP3. -/
def lineOfCode (n : Nat) : Option LineId := if h : n < 4 then some ⟨n, h⟩ else none

/-- A pair byte naming one of the six pairs. -/
def pairOfCode (n : Nat) : Option PairId := if h : n < 6 then some ⟨n, h⟩ else none

/-- A token byte naming one of the sixteen tokens. -/
def tokenOfCode (n : Nat) : Option TokenId := if h : n < 16 then some ⟨n, h⟩ else none

/-- SET_PAIR's group byte: 0..3, or FFh for none. -/
def pairGroupOfCode (n : Nat) : Option (Option GroupId) :=
  if n = 0xFF then some none else (groupOfCode n).map some

end Sys2Proof.Machine
end

