-- ==== Sys2Proof/Machine/Formats.lean ====
section
/-! DEFINITION. Machine/Formats.lean: what the block sends out. Result words and their CRC (R109, R190),
completion entries (R187 to R189), and the register layouts (Table 10.8). -/

namespace Sys2Proof.Machine

/-! ## Result words -/

/-- The word of a position without a result: MISSED set, value 0 (R190). -/
def missedWord : Word16 := 0x8000

/-- The word of a conversion result: MISSED clear, the sum in bits 14..0 (R190). -/
def resultWord (sum : Nat) : Word16 := (BitVec.ofNat 15 sum).zeroExtend 16

/-- One shift of the CRC (R109 step 2). -/
def crcShift (c : Word16) : Word16 := if c.msb then (c <<< 1) ^^^ 0x1021 else c <<< 1

/-- One byte into the CRC (R109 steps 1 and 2). -/
def crcByte (c : Word16) (b : Byte) : Word16 :=
  (List.range 8).foldl (fun c _ => crcShift c) (c ^^^ (b.zeroExtend 16 <<< 8))

/-- One word into the CRC, low byte first (R109). -/
def crcWord (c : Word16) (w : Word16) : Word16 :=
  crcByte (crcByte c (w.extractLsb' 0 8)) (w.extractLsb' 8 8)

/-! ## Codes -/

/-- Table 11.6. -/
def SegStatus.code : SegStatus → Byte
  | .ok => 0
  | .cut => 1
  | .aborted => 2
  | .tripped => 3
  | .malformed => 4
  | .fetchError => 5

/-- Table 11.9. -/
def AdminStatus.code : AdminStatus → Byte
  | .ok => 0
  | .badState => 1
  | .badParam => 2
  | .unknown => 3
  | .busy => 4
  | .tripActive => 5
  | .tripLatched => 6

/-- Table 11.10. -/
def GroupState.code : GroupState → Byte
  | .unbound => 0
  | .stopped => 1
  | .armed => 2
  | .running => 3
  | .starved => 4
  | .stopping => 5
  | .tripped => 6
  | .faulted => 7

/-- Table 11.13, bits 3..2 of byte 2. -/
def PendingStop.code : PendingStop → BitVec 2
  | .noStop => 0
  | .periodEnd => 1
  | .segmentEnd => 2

/-- Table 11.16, byte 1. -/
def ConvState.code : ConvState → Byte
  | .idle => 0
  | .converting => 1
  | .holding => 2

/-! ## Completion entries -/

/-- A field of `m` bits at a byte offset of a wider number. -/
def putAt {n m : Nat} (off : Nat) (v : BitVec m) : BitVec n := v.zeroExtend n <<< (8 * off)

/-- The form of an entry (R187). -/
def CplEntry.form : CplEntry → BitVec 2
  | .segment .. => 0
  | .admin .. => 1
  | .notice .. => 2

/-- The header byte: the lap in bit 0 and the form in bits 2..1 (R187). -/
def headerByte (lap : Bool) (form : BitVec 2) : Byte :=
  (BitVec.ofBool lap).zeroExtend 8 ||| form.zeroExtend 8 <<< 1

/-- The 32 bytes of an entry as the completion writer writes them (Table 11.5). -/
def CplEntry.encode (lap : Bool) (e : CplEntry) : Slot32 :=
  putAt 0x00 (headerByte lap e.form) |||
  match e with
  | .segment g tag status notify flags retire words crc lost periods exts =>
      putAt 0x01 (BitVec.ofNat 8 g) ||| putAt 0x02 tag ||| putAt 0x04 status.code
        ||| putAt 0x05 (BitVec.ofBool notify) ||| putAt 0x06 flags.code
        ||| putAt 0x08 (BitVec.ofNat 16 retire) ||| putAt 0x0A (BitVec.ofNat 16 words)
        ||| putAt 0x0C crc ||| putAt 0x0E (BitVec.ofNat 16 lost)
        ||| putAt 0x10 (BitVec.ofNat 32 periods) ||| putAt 0x14 (BitVec.ofNat 32 exts)
  | .admin opcode tag status index value =>
      putAt 0x01 opcode ||| putAt 0x02 tag ||| putAt 0x04 status.code
        ||| putAt 0x08 (BitVec.ofNat 16 index) ||| putAt 0x10 value
  | .notice g kinds state retire =>
      putAt 0x01 (BitVec.ofNat 8 g) ||| putAt 0x04 kinds.code ||| putAt 0x05 state.code
        ||| putAt 0x08 (BitVec.ofNat 16 retire)

/-- The event bit the OK answer to an entry's write sets (Table 8.5). -/
def CplEntry.event : CplEntry → BitVec 6
  | .segment _ _ _ notify _ _ _ _ _ _ _ => if notify then evtCpl else 0
  | .admin .. => evtAdm
  | .notice .. => evtNtc

/-! ## Registers -/

/-- STAT.state (Table 10.8). -/
def Ctrl.code : Ctrl → BitVec 2
  | .off => 0
  | .running => 1
  | .halted => 2

/-- STAT's halt cause (Table 10.8). -/
def HaltCause.code : HaltCause → BitVec 2
  | .noCause => 0
  | .adminFetch => 1
  | .completionWrite => 2

/-- The word a full read of a register returns (R173, R174, R180, Table 10.8). -/
def readValue (r : RegName) (s : State) : Word32 :=
  match r with
  | .devid => 0x46120104
  | .ctrl | .post => 0
  | .stat =>
      s.ctrl.code.zeroExtend 32 ||| s.stat.cause.code.zeroExtend 32 <<< 2
        ||| (BitVec.ofBool s.stat.cfgErr).zeroExtend 32 <<< 4
        ||| s.stat.postRing.zeroExtend 32 <<< 5 ||| s.stat.postIndex.zeroExtend 32 <<< 8
  | .evt => s.evt.zeroExtend 32
  | .evtmask => s.evtMask.zeroExtend 32
  | .admbaseLo | .cplbaseLo => s.holding
  | .admbaseHi => s.admBase.extractLsb' 32 32
  | .cplbaseHi => s.cplBase.extractLsb' 32 32
  | .ringcfg => s.admCode.zeroExtend 32 ||| s.cplCode.zeroExtend 32 <<< 8

/-- Byte `i` of a register word. -/
def regByte (v : Word32) (i : Nat) : Byte := v.extractLsb' (8 * i) 8

/-- The addressed bytes of a register word, lowest address first (R173). That the lowest address of a
register holds its bits 7..0 is the model's: DESIGN CHOICE (log 32). -/
def laneBytes (v : Word32) : ReadWidth → List Byte
  | .word => [regByte v 0, regByte v 1, regByte v 2, regByte v 3]
  | .half false => [regByte v 0, regByte v 1]
  | .half true => [regByte v 2, regByte v 3]
  | .byte lane => [regByte v lane]

end Sys2Proof.Machine
end

