-- ==== Sys2Proof/Machine/Ops.lean ====
section
/-! DEFINITION. Machine/Ops.lean: the named operations over the state that every meaning shares: access to
groups, pairs, lines and tokens, ring arithmetic, the window, the token table, the bus master port and
its arbiter, the output selection, and how a happening ends. -/

namespace Sys2Proof.Machine

/-! ## Access -/

/-- The groups in ascending order. -/
def allGroups : List GroupId := [0, 1, 2, 3]
/-- The pairs in ascending order. -/
def allPairs : List PairId := [0, 1, 2, 3, 4, 5]
/-- The trip lines in ascending order. -/
def allLines : List LineId := [0, 1, 2, 3]
/-- The tokens in ascending order. -/
def allTokens : List TokenId := [0, 1, 2, 3, 4, 5, 6, 7, 8, 9, 10, 11, 12, 13, 14, 15]

/-- Group `g`. -/
def State.group (s : State) (g : GroupId) : Group := s.groups.get g
/-- Replacing group `g`. -/
def State.setGroup (g : GroupId) (x : Group) (s : State) : State :=
  { s with groups := s.groups.set g x }
/-- Changing group `g`. -/
def State.modGroup (g : GroupId) (f : Group → Group) (s : State) : State :=
  s.setGroup g (f (s.group g))

/-- Pair unit `p`. -/
def State.pair (s : State) (p : PairId) : PairUnit := s.pairs.get p
/-- Replacing pair unit `p`. -/
def State.setPair (p : PairId) (x : PairUnit) (s : State) : State :=
  { s with pairs := s.pairs.set p x }

/-- Trip line `l`. -/
def State.line (s : State) (l : LineId) : TripLine := s.lines.get l
/-- Replacing trip line `l`. -/
def State.setLine (l : LineId) (x : TripLine) (s : State) : State :=
  { s with lines := s.lines.set l x }

/-- The count of token `t`. -/
def State.token (s : State) (t : TokenId) : Nat := s.tokens.get t

/-- Marking group `g`'s tick of this device clock as taken. -/
def State.markTick (g : GroupId) (s : State) : State :=
  { s with marks := { s.marks with group := s.marks.group.set g true } }

/-- The reset pin is asserted (R179). -/
def State.inReset (s : State) : Bool := s.rstn == .low

/-- The controller is RUNNING. -/
def State.isRunning (s : State) : Bool := s.ctrl == .running

/-! ## Rings (R131) -/

/-- The index after `i`. -/
def ringNext (size i : Nat) : Nat := (i + 1) % size
/-- The index before `i`. -/
def ringBack (size i : Nat) : Nat := (i + size - 1) % size
/-- The count of slots from `a` forward to `b`. -/
def ringCount (size a b : Nat) : Nat := (b + size - a) % size
/-- The address of slot `i`, in 64-bit arithmetic. -/
def slotAddr (base : Addr) (bytes i : Nat) : Addr := base + BitVec.ofNat 64 (bytes * i)

/-- The administrative ring's size, from RINGCFG (R130, R181). -/
def State.admSize (s : State) : Nat := 2 ^ s.admCode.toNat
/-- The completion ring's size, from RINGCFG. -/
def State.cplSize (s : State) : Nat := 2 ^ s.cplCode.toNat

/-- Records available in a group ring. -/
def Ring.available (r : Ring) : Nat := ringCount r.size r.fetch r.tail
/-- Commands available in the administrative ring. -/
def State.commandsAvailable (s : State) : Nat := ringCount s.admSize s.admin.fetch s.admin.tail

/-! ## Trip condition and bound pairs -/

/-- A group's trip condition: a latched line has the group in its mask (R119). -/
def State.tripCondition (s : State) (g : GroupId) : Bool :=
  allLines.any fun l => (s.line l).latch && (s.line l).mask.getLsbD g

/-- The pairs bound to a group, in ascending pair number (R62). -/
def State.boundPairs (s : State) (g : GroupId) : List PairId :=
  allPairs.filter fun p => (s.pair p).group == some g

/-- A pair's rank among its group's bound pairs (R4, R62). -/
def State.rank (s : State) (g : GroupId) (p : PairId) : Nat :=
  ((s.boundPairs g).filter fun q => q < p).length

/-! ## The window -/

/-- READY, BAD and FETCHING entries are neither DRAINING, RETIRING nor ACTIVE (R29). -/
def Entry.isWaiting (e : Entry) : Bool :=
  e.st == .ready || e.st == .bad || e.st == .fetching

/-- The ACTIVE record. -/
def Group.active? (x : Group) : Option Entry := x.window.find? fun e => e.st == .active

/-- The group has an ACTIVE record. -/
def Group.hasActive (x : Group) : Bool := x.window.any fun e => e.st == .active

/-- The next record (R29): the oldest entry that is neither DRAINING, RETIRING nor ACTIVE; none when
that entry is FETCHING or there is none. -/
def Group.next? (x : Group) : Option Entry :=
  match x.window.find? Entry.isWaiting with
  | some e => if e.st == .fetching then none else some e
  | none => none

/-- The next record is READY. -/
def Group.nextReady (x : Group) : Bool :=
  match x.next? with
  | some e => e.st == .ready
  | none => false

/-- The next record is BAD. -/
def Group.nextBad (x : Group) : Bool :=
  match x.next? with
  | some e => e.st == .bad
  | none => false

/-- The window holds a FETCHING entry. -/
def Group.hasFetching (x : Group) : Bool := x.window.any fun e => e.st == .fetching

/-- Changing the entry of a slot. -/
def Group.modSlot (slot : Nat) (f : Entry → Entry) (x : Group) : Group :=
  { x with window := x.window.map fun e => if e.slot == slot then f e else e }

/-- The entry a reference names. -/
def State.entry? (s : State) (ref : EntryRef) : Option Entry :=
  (s.group ref.group).window.find? fun e => e.slot == ref.slot

/-- Changing the entry a reference names. -/
def State.modEntry (ref : EntryRef) (f : Entry → Entry) (s : State) : State :=
  s.modGroup ref.group (Group.modSlot ref.slot f)

/-- A reference to an entry of group `g`. -/
def Entry.ref (g : GroupId) (e : Entry) : EntryRef := ⟨g, e.slot⟩

/-- The cancelling of a FETCHING entry (R25): it leaves the window, the fetch index steps back to its
slot and the window span falls by one. -/
def Group.cancelFetch (x : Group) : Group :=
  if x.hasFetching then
    { x with
      window := x.window.filter fun e => e.st != .fetching
      ring := { x.ring with
        fetch := ringBack x.ring.size x.ring.fetch
        span := x.ring.span - 1 } }
  else x

/-- The retiring of the READY and BAD records (R36, R38, R42): a READY record gets ABORTED and a BAD
record keeps its status. -/
def Group.retireWaiting (x : Group) : Group :=
  { x with window := x.window.map fun e =>
      match e.st with
      | .ready => { e with st := .retiring, status := some .aborted }
      | .bad => { e with st := .retiring }
      | _ => e }

/-- The counter set to 0 and held there, with slope UP (R26, R50). -/
def Group.holdCounter (x : Group) : Group := { x with counter := 0, slope := .up }

/-- Adding a notice kind (R43). -/
def Group.notify (k : NoticeKind) (x : Group) : Group := { x with notices := x.notices.add k }

/-- Every record of the window is RETIRING. -/
def Group.allRetiring (x : Group) : Bool := x.window.all fun e => e.st == .retiring

/-- A count that stays at its top value (R12). -/
def satSucc32 (n : Nat) : Nat := if n < 4294967295 then n + 1 else 4294967295

/-- A record retires silently (R17). -/
def Entry.silent (e : Entry) : Bool :=
  e.status == some .ok && e.flags.isNone && !Seg.complete e.copy

/-! ## The token table (R66 to R68) -/

/-- A part of a token request. -/
inductive Part where
  | claim (t : TokenId) (need : Nat)
  | post (t : TokenId) (add : Nat)
deriving DecidableEq, Repr

/-- One part against the counts as the parts before it left them. The answer is none for a refused
claim; the Bool tells a saturated post. -/
def runPart (tokens : Vector Nat 16) : Part → Option (Vector Nat 16 × Bool)
  | .claim t need =>
      if need ≤ tokens.get t then some (tokens.set t (tokens.get t - need), false) else none
  | .post t add =>
      if tokens.get t + add ≤ 255 then some (tokens.set t (tokens.get t + add), false)
      else some (tokens.set t 255, true)

/-- A request, taken whole: none when any claim is refused. -/
def runParts (tokens : Vector Nat 16) : List Part → Option (Vector Nat 16 × List Bool)
  | [] => some (tokens, [])
  | p :: ps =>
      match runPart tokens p with
      | none => none
      | some (tokens', sat) =>
          match runParts tokens' ps with
          | none => none
          | some (tokens'', sats) => some (tokens'', sat :: sats)

/-- The token a record names. A validated record names one of the sixteen (R8). -/
def tokenNamed (n : Nat) : TokenId := Fin.ofNat 16 n

/-- The wait claim of a record (R5). -/
def claimParts (c : Slot64) : List Part :=
  if Seg.hasWait c then [.claim (tokenNamed (Seg.waitToken c)) (Seg.waitNeed c)] else []

/-- The AT_START post of a record (R6). -/
def startParts (c : Slot64) : List Part :=
  if Seg.postsAtStart c then [.post (tokenNamed (Seg.postToken c)) (Seg.postAdd c)] else []

/-- The AT_END post of a record (R6). -/
def endParts (c : Slot64) : List Part :=
  if Seg.postsAtEnd c then [.post (tokenNamed (Seg.postToken c)) (Seg.postAdd c)] else []

/-- TOKEN_SATURATED gained (R68). -/
def Entry.saturate (sat : Bool) (e : Entry) : Entry :=
  { e with flags := { e.flags with tokenSaturated := e.flags.tokenSaturated || sat } }

/-! ## The bus master port (R146 to R150) -/

/-- The requester has a transaction outstanding that was issued since the last reset. -/
def State.outstanding (s : State) (r : Requester) : Bool :=
  s.bus.any fun t => t.requester == r && !t.late

/-- The requester has a transaction outstanding that a reset has overtaken. -/
def State.lateOutstanding (s : State) (r : Requester) : Bool :=
  s.bus.any fun t => t.requester == r && t.late

/-- Issuing a transaction at its grant. -/
def State.issue (t : BusTxn) (s : State) : State :=
  { s with bus := s.bus ++ [t], marks := { s.marks with grant := true } }

/-- The answer to the requester's transaction: it is no longer outstanding. -/
def State.answered (r : Requester) (s : State) : State :=
  { s with bus := s.bus.eraseP fun t => t.requester == r && !t.late }

/-- The answer to a transaction issued before a reset is dropped (R150): no other state changes. -/
def State.dropLate (r : Requester) (s : State) : State :=
  { s with bus := s.bus.eraseP fun t => t.requester == r && t.late }

/-- At a reset the outstanding transactions stay on the bus and their answers will be dropped (R150). -/
def lateBus (bus : List BusTxn) : List BusTxn := bus.map fun t => { t with late := true }

/-- The conditions under which a group's fetcher asks for a read (R23). -/
def State.fetcherAsks (s : State) (g : GroupId) : Bool :=
  let x := s.group g
  s.isRunning
    && (x.state == .armed || x.state == .running || x.state == .starved)
    && decide (x.window.length < 6) && !x.hasFetching && decide (x.ring.span < x.ring.size)
    && !s.outstanding (.fetcher g)
    && decide (0 < x.ring.available)

/-- The conditions under which the administrative processor asks for a read (R137). -/
def State.adminMayAsk (s : State) : Bool :=
  s.isRunning && decide (0 < s.commandsAvailable) && decide (s.admin.queue.length < 4)

/-- A holding queue holds an entry. -/
def State.anyHolding (s : State) : Bool :=
  allGroups.any (fun g => !(s.group g).queue.isEmpty) || !s.admin.queue.isEmpty

/-- The conditions under which the completion writer asks for a write (R142). -/
def State.cplMayAsk (s : State) : Bool :=
  s.isRunning && s.anyHolding && decide (s.cpl.unreleased < s.cplSize)

/-- The requester is ASKING. -/
def State.asking (s : State) : Requester → Bool
  | .completionWriter => s.cpl.state == .asking
  | .resultWriter => s.writer.write == .asking
  | .adminProcessor => s.admin.state == .asking
  | .fetcher g => s.fetcherAsks g

/-- The fetchers in the arbiter's order, starting after the one granted last (R147). -/
def State.fetcherOrder (s : State) : List GroupId :=
  [s.lastFetcher + 1, s.lastFetcher + 2, s.lastFetcher + 3, s.lastFetcher]

/-- The requesters in the arbiter's order (R147). -/
def State.arbiterOrder (s : State) : List Requester :=
  [.completionWriter, .resultWriter, .adminProcessor] ++ s.fetcherOrder.map .fetcher

/-- The requester the arbiter grants on this device clock: the first that is ASKING, once a clock, and
only while the controller is RUNNING (R147). When within the device clock it acts is not said: it is where
its command stands in the queue (DESIGN CHOICE, log 30). -/
def State.grantee (s : State) : Option Requester :=
  if s.isRunning && !s.marks.grant then s.arbiterOrder.find? s.asking else none

/-- The arbiter's grant falls on the requester. -/
def State.granted (s : State) (r : Requester) : Bool := s.grantee == some r

/-! ## The output selection (R58) -/

/-- What a pair shows. -/
inductive Selection where
  | idle | safe | waveform
deriving DecidableEq, Repr

/-- The group has an ACTIVE record and is RUNNING or STOPPING. -/
def Group.producing (x : Group) : Bool :=
  x.hasActive && (x.state == .running || x.state == .stopping)

/-- Table 3.5. -/
def State.selection (s : State) (u : PairUnit) : Selection :=
  match u.group with
  | none => .idle
  | some g =>
      if s.ctrl == .halted then .safe
      else if s.tripCondition g then .safe
      else if (s.group g).producing then .waveform
      else .idle

/-- The level that counts as active in a mode (Table 3.4). -/
def PairMode.activeLevel : PairMode → Level
  | .compInv => .low
  | .comp | .same | .pOnly => .high

/-- The level of an output in a mode. -/
def PairMode.level (m : PairMode) (isActive : Bool) : Level :=
  if isActive then m.activeLevel else m.activeLevel.flip

/-- A pair's levels while it shows its waveform (R53). -/
def PairUnit.waveLevels (u : PairUnit) : Levels :=
  match u.mode with
  | .comp | .compInv => ⟨u.mode.level u.outP.delayed, u.mode.level u.outN.delayed⟩
  | .same => ⟨u.mode.level u.raw, u.mode.level u.raw⟩
  | .pOnly => ⟨u.mode.level u.raw, u.mode.level false⟩

/-- The levels of a selection. -/
def PairUnit.shown (u : PairUnit) : Selection → Levels
  | .idle => u.idle
  | .safe => u.safe
  | .waveform => u.waveLevels

/-- Timers 0, delayed outputs and raw compare inactive (R51, R55). -/
def PairUnit.quiet (u : PairUnit) : PairUnit := { u with outP := {}, outN := {}, raw := false }

/-- A pair after its selection is made anew (R59): outside the waveform its working state is cleared,
except in HALTED, where it is frozen (R61; log 12); the pins take the levels of the selection. -/
def State.settledPair (s : State) (u : PairUnit) : PairUnit :=
  let sel := s.selection u
  let u' := if sel == .waveform || s.ctrl == .halted then u else u.quiet
  { u' with pins := u'.shown sel }

/-! ## How a happening ends -/

/-- The administrative fetch state after a happening: ASKING exactly while its conditions hold (R137). -/
def State.settledAdmin (s : State) : BusState :=
  if s.admin.state == .onBus then .onBus else if s.adminMayAsk then .asking else .idle

/-- The result writer's write state after a happening: it asks while a job is current (R107), and is
frozen while HALTED (R113). -/
def State.settledWriter (s : State) : BusState :=
  if s.ctrl == .halted then s.writer.write
  else if s.writer.write == .onBus then .onBus
  else if s.writer.job.isSome then .asking else .idle

/-- The completion writer's write state after a happening (R142; log 10 for HALTED). -/
def State.settledCpl (s : State) : BusState :=
  if s.cpl.state == .onBus then .onBus else if s.cplMayAsk then .asking else .idle

/-- The end of every happening: each pair's selection is made anew (R59), IRQ follows EVT and EVTMASK
(R184), and each requester asks, or withdraws its request, by its own conditions. -/
def State.settle (s : State) : State :=
  { s with
    irq := irqLevel s.evt s.evtMask
    pairs := Vector.ofFn fun p => s.settledPair (s.pair p)
    admin := { s.admin with state := s.settledAdmin }
    writer := { s.writer with write := s.settledWriter }
    cpl := { s.cpl with state := s.settledCpl } }

/-- What a command or a step answers. -/
abbrev StepResult := Host.Outcome State Fault Refusal

/-- A write to the register window, or a controller reset: while the reset pin is asserted every register
and every block holds its reset value (R179). -/
def access (s t : State) : StepResult := .next (if s.inReset then s else t.settle)

/-- A happening that is due takes its effect, and one that is not due changes nothing (log 1). -/
def happen (due : Bool) (s t : State) : StepResult :=
  .next (if due then t.settle else s)

/-- The answer to a transaction of requester `r` (R148, R150). A late answer is dropped. An answer that
arrives in HALTED is not taken. Otherwise it is taken while its transaction is outstanding. -/
def answer (late : Bool) (r : Requester) (s t : State) : StepResult :=
  if late then .next (s.dropLate r)
  else if s.ctrl == .halted then .next (s.answered r)
  else happen (s.isRunning && s.outstanding r) s t

end Sys2Proof.Machine
end

