-- ==== Sys2Proof/Machine/Capture.lean ====
section
/-! DEFINITION. Machine/Capture.lean: the capture path as shared operations (Chapters 5 and 6): the capture
queue, the converter's takes and offers, the result writer's jobs, the finishing of a record's capture
work and its removal. -/

namespace Sys2Proof.Machine

/-! ## Whose work it is -/

/-- The record a request belongs to. -/
def Request.ref (r : Request) : EntryRef := ⟨r.group, r.slot⟩
/-- The record a result belongs to. -/
def ConvResult.ref (r : ConvResult) : EntryRef := ⟨r.group, r.slot⟩
/-- The record a job serves. -/
def Job.ref : Job → EntryRef
  | .result r => r.ref
  | .fill ref _ => ref

/-- A request of the record is in the capture queue. -/
def State.hasRequest (s : State) (ref : EntryRef) : Bool := s.captureQueue.any fun r => r.ref == ref
/-- The converter's current request is the record's. -/
def State.isConverting (s : State) (ref : EntryRef) : Bool :=
  match s.converter.current with
  | some r => r.ref == ref
  | none => false
/-- The converter's held result is the record's. -/
def State.isHeld (s : State) (ref : EntryRef) : Bool :=
  match s.converter.held with
  | some r => r.ref == ref
  | none => false
/-- A result of the record is in the result queue. -/
def State.hasResult (s : State) (ref : EntryRef) : Bool := s.writer.queue.any fun r => r.ref == ref
/-- The record is in the fill list. -/
def State.inFill (s : State) (ref : EntryRef) : Bool := s.writer.fill.any fun r => r == ref
/-- The writer's current job is for the record. -/
def State.hasJob (s : State) (ref : EntryRef) : Bool :=
  match s.writer.job with
  | some j => j.ref == ref
  | none => false
/-- A result write of the record is on the bus. -/
def State.writeOnBus (s : State) (ref : EntryRef) : Bool :=
  match s.writer.onBus with
  | some w => w.ref == ref
  | none => false
/-- MISSED words are owed up to the triggered count while the faulted mark is clear (R13). A next position above
the triggered count owes none: DESIGN CHOICE (log 33). -/
def Entry.owes (e : Entry) : Bool := decide (e.nextPos < e.triggered) && !e.faulted

/-- Capture work of a record that is queued, converted, held or current (conditions 2 to 4 of R106). -/
def State.inHand (s : State) (ref : EntryRef) : Bool :=
  s.hasRequest ref || s.isConverting ref || s.isHeld ref || s.hasResult ref || s.hasJob ref

/-- Capture work of a record is outstanding (R13, R111). -/
def State.workOutstanding (s : State) (ref : EntryRef) (e : Entry) : Bool :=
  s.inHand ref || s.inFill ref || s.writeOnBus ref || e.owes

/-! ## The capture queue and the converter -/

/-- The take of the capture queue's head by an IDLE converter (R91). A take on a converter tick does not
use that tick (log 21). -/
def State.converterTake (s : State) : State :=
  if s.isRunning && s.converter.state == .idle then
    match s.captureQueue with
    | [] => s
    | r :: rest =>
        { s with
          captureQueue := rest
          converter := { s.converter with
            state := .converting, current := some r, step := 0, done := 0, sum := 0 }
          marks := { s.marks with conv := true } }
  else s

/-- A trigger's request is offered to the capture queue (R88): it joins, and an IDLE converter takes it,
or the trigger is lost. -/
def State.offerRequest (r : Request) (s : State) : State :=
  if s.captureQueue.length < 16 then
    { s with captureQueue := s.captureQueue ++ [r] }.converterTake
  else
    s.modEntry r.ref fun e =>
      { e with capturesLost := e.capturesLost + 1, flags := { e.flags with captureLost := true } }

/-- Capture point `j` of the ACTIVE record triggers on this tick (R82). -/
def Group.pointTriggers (x : Group) (c : Slot64) (j : Nat) : Bool :=
  Seg.hasCapture c && decide (j < Seg.pointCount c) && Seg.pointValue c j == x.counter
    && (x.mode == .edge || (Seg.pointSlope c j == 1) == (x.slope == .down))

/-- The trigger of point `j` of group `g`'s ACTIVE record, where it triggers (R83). -/
def State.triggerPoint (g : GroupId) (s : State) (j : Nat) : State :=
  match (s.group g).active? with
  | none => s
  | some e =>
      if (s.group g).pointTriggers e.copy j then
        let position := e.periodsRun * Seg.pointCount e.copy + j
        if Seg.capacity e.copy ≤ position then
          s.modEntry (e.ref g) fun e =>
            { e with flags := { e.flags with resultTruncated := true } }
        else
          (s.modEntry (e.ref g) fun e => { e with triggered := e.triggered + 1 }).offerRequest
            { group := g, slot := e.slot, position := position,
              input := Seg.pointInput e.copy j, oversample := Seg.pointOversample e.copy j }
      else s

/-- The triggers of a tick, in ascending point number (R82, R86). -/
def State.triggers (g : GroupId) (s : State) : State :=
  [0, 1, 2, 3].foldl (State.triggerPoint g) s

/-- A HOLDING converter offers its held result when the result queue has room (R94). -/
def State.offerHeld (s : State) : State :=
  match s.converter.state, s.converter.held with
  | .holding, some r =>
      if s.writer.queue.length < 4 then
        { s with
          writer := { s.writer with queue := s.writer.queue ++ [r] }
          converter := { s.converter with state := .idle, held := none } }.converterTake
      else s
  | _, _ => s

/-! ## The result writer's jobs -/

/-- The source of the next job: where both hold work, the one that is not the last source (R104). -/
def ResultWriter.nextSource (w : ResultWriter) : Option Source :=
  match w.queue, w.fill with
  | [], [] => none
  | _ :: _, [] => some .resultQueue
  | [], _ :: _ => some .fillList
  | _ :: _, _ :: _ => some (if w.lastSource == .resultQueue then .fillList else .resultQueue)

/-- A result is dropped at its take: its record is faulted, or its position has been written (R105). -/
def State.dropsResult (s : State) (r : ConvResult) : Bool :=
  match s.entry? r.ref with
  | some e => e.faulted || decide (r.position < e.nextPos)
  | none => true

/-- The writer chooses a job when none is current and work waits (R104). -/
def State.chooseJob (s : State) : State :=
  match s.writer.job, s.writer.nextSource with
  | none, some .resultQueue =>
      match s.writer.queue with
      | [] => s
      | r :: rest =>
          { s with writer := { s.writer with
              queue := rest
              lastSource := .resultQueue
              job := if s.dropsResult r then none else some (.result r) } }
  | none, some .fillList =>
      match s.writer.fill with
      | [] => s
      | ref :: rest =>
          { s with writer := { s.writer with
              fill := rest
              lastSource := .fillList
              job := match s.entry? ref with
                | some e => some (.fill ref e.triggered)
                | none => none } }
  | _, _ => s

/-! ## Finishing a record's capture work -/

/-- A DRAINING record with no work in hand joins the fill list (R106), or its work is finished and it
goes to RETIRING (R110). Condition 4 of R110 is taken as met where the next position lies above the
triggered count: DESIGN CHOICE (log 33). -/
def State.drainOne (s : State) (ref : EntryRef) : State :=
  match s.entry? ref with
  | none => s
  | some e =>
      if e.st == .draining && !s.inHand ref && !s.inFill ref then
        if e.owes then { s with writer := { s.writer with fill := s.writer.fill ++ [ref] } }
        else s.modEntry ref fun e => { e with st := .retiring }
      else s

/-- The DRAINING records, group by group, oldest first. -/
def State.drainingRefs (s : State) : List EntryRef :=
  allGroups.flatMap fun g =>
    ((s.group g).window.filter fun e => e.st == .draining).map (Entry.ref g)

/-- Every DRAINING record is tested (R106, R110). -/
def State.drain (s : State) : State := s.drainingRefs.foldl State.drainOne s

/-- One round of the capture path's consequences: draining records, the converter's take, a held
result's offer, and the writer's choice. That a record joins the fill list before the writer chooses is a DESIGN
CHOICE (log 6). -/
def State.pumpOnce (s : State) : State := s.drain.converterTake.offerHeld.chooseJob

/-- Rounds of consequences. -/
def State.pumpRounds : Nat → State → State
  | 0, s => s
  | n + 1, s => State.pumpRounds n s.pumpOnce

/-- A STOPPING group enters STOPPED when every record of its window is RETIRING (R38). -/
def Group.finishStop (x : Group) : Group :=
  if x.state == .stopping && x.allRetiring then { x with state := .stopped }.notify .stopped else x

/-- The consequences of a happening on the capture path, to their end, while the controller is RUNNING.
A round without effect ends them: at most five results can be dropped one after the other, so eight
rounds are enough (log 6). -/
def State.pump (s : State) : State :=
  if s.isRunning then
    allGroups.foldl (fun s g => s.modGroup g Group.finishStop) (State.pumpRounds 8 s)
  else s

/-! ## Removal -/

/-- The converter after a removal of group `g`'s work (R96 steps 2 and 3). -/
def Converter.removeGroup (g : GroupId) (c : Converter) : Converter :=
  match c.state, c.current, c.held with
  | .converting, some r, _ =>
      if r.group == g then
        { c with state := .idle, current := none, step := 0, done := 0, sum := 0 }
      else c
  | .holding, _, some r =>
      if r.group == g then { c with state := .idle, held := none } else c
  | _, _, _ => c

/-- The result writer after a removal of group `g`'s work (R111). A write on the bus stays there. -/
def ResultWriter.removeGroup (g : GroupId) (w : ResultWriter) : ResultWriter :=
  { w with
    queue := w.queue.filter fun r => r.group != g
    fill := w.fill.filter fun r => r.group != g
    job := match w.job with
      | some j => if j.ref.group == g then none else some j
      | none => none }

/-- An ACTIVE or DRAINING record whose work is removed: RETIRING, with RESULT_INCOMPLETE where work was
outstanding (R95, R96, R111). An ACTIVE record gets the status of the event that ends it. -/
def State.retiredByRemoval (s : State) (g : GroupId) (ending : SegStatus) (e : Entry) : Entry :=
  match e.st with
  | .active | .draining =>
      { e with
        st := .retiring
        status := if e.st == .active then some ending else e.status
        flags := { e.flags with
          resultIncomplete := e.flags.resultIncomplete || s.workOutstanding (e.ref g) e } }
  | _ => e

/-- The removal of all capture work of a group, at one happening (R95; log 22). What it leaves to be offered or
chosen (R111 step 4) is left to `State.pump`, after every removal of the happening: DESIGN CHOICE (log 34). -/
def State.removeWork (g : GroupId) (ending : SegStatus) (s : State) : State :=
  let s' := s.modGroup g fun x => { x with window := x.window.map (s.retiredByRemoval g ending) }
  { s' with
    captureQueue := s.captureQueue.filter fun r => r.group != g
    converter := s.converter.removeGroup g
    writer := s.writer.removeGroup g }

end Sys2Proof.Machine
end

