-- ==== Sys2Proof/Machine/Outputs.lean ====
section
/-! DEFINITION. Machine/Outputs.lean: the group counter (R48, R49), the raw compare (R51) and the dead-time
delay of a pair unit (R54, R55), as shared operations of every group tick. -/

namespace Sys2Proof.Machine

/-! ## The counter -/

/-- The next counter step completes the period `P` (R48, R49). -/
def Group.atEnd (x : Group) (P : Nat) : Bool :=
  match x.mode with
  | .edge => decide (P ≤ x.counter + 1)
  | .centre => x.slope == .down && x.counter == 0

/-- A counter step inside a period (R48, Table 3.1). -/
def Group.stepCounter (P : Nat) (x : Group) : Group :=
  match x.mode, x.slope with
  | .edge, _ => { x with counter := x.counter + 1 }
  | .centre, .up =>
      if x.counter + 1 < P then { x with counter := x.counter + 1 } else { x with slope := .down }
  | .centre, .down => { x with counter := x.counter - 1 }

/-- The group's tick of this device clock is still to be taken (R47). -/
def State.tickDue (s : State) (g : GroupId) : Bool :=
  s.isRunning && (s.group g).presc == 0 && !s.marks.group.get g

/-- The tick is a period boundary: the group has an ACTIVE record, is RUNNING or STOPPING, and its
counter is at the end of the period (R29). -/
def Group.atBoundary (x : Group) : Bool :=
  match x.active? with
  | some e => x.producing && x.atEnd (Seg.period e.copy)
  | none => false

/-- The tick is one on which a STARVED group sends its resume request (R35). -/
def Group.atResume (x : Group) : Bool := x.state == .starved && x.nextReady

/-! ## The raw compare and the delayed outputs -/

/-- The raw compare of pair `p` of group `g`: the counter lies below the pair's duty in the ACTIVE record
(R51). -/
def State.rawCompare (s : State) (g : GroupId) (p : PairId) : Bool :=
  match (s.group g).active? with
  | some e => decide ((s.group g).counter < Seg.duty e.copy (s.rank g p))
  | none => false

/-- An output whose source becomes active on this tick, with dead time `t` (R54). -/
def startRun (t : Nat) : OutState := if t = 0 then ⟨0, true⟩ else ⟨t, false⟩

/-- An output's tick, from its source before and now (R54). A timer that this tick brings to 0 leaves the
output's becoming active to DEAD_TIME_EXPIRY on the same tick (log 7). -/
def OutState.tick (t : Nat) (was now : Bool) (o : OutState) : OutState :=
  match was, now with
  | false, true => startRun t
  | true, true => { o with timer := o.timer - 1 }
  | true, false => {}
  | false, false => o

/-- COMP and COMP_INV delay their outputs. -/
def PairMode.delays : PairMode → Bool
  | .comp | .compInv => true
  | .same | .pOnly => false

/-- A pair's tick with the raw compare `now`. N's source is the inverse of the raw compare. -/
def PairUnit.tick (now : Bool) (u : PairUnit) : PairUnit :=
  if u.mode.delays then
    { u with raw := now, outP := u.outP.tick u.dead u.raw now, outN := u.outN.tick u.dead (!u.raw) (!now) }
  else { u with raw := now }

/-- A pair's first tick of the waveform: each source that is active counts as having become active on
this tick (R55). -/
def PairUnit.enter (now : Bool) (u : PairUnit) : PairUnit :=
  if u.mode.delays then
    { u with
      raw := now
      outP := if now then startRun u.dead else {}
      outN := if now then {} else startRun u.dead }
  else { u with raw := now }

/-- The pair units of group `g` take a tick (R51, R54). -/
def State.tickOutputs (g : GroupId) (s : State) : State :=
  { s with pairs := Vector.ofFn fun p =>
      if (s.pair p).group == some g then (s.pair p).tick (s.rawCompare g p) else s.pair p }

/-- The pair units of group `g` enter the waveform (R55). -/
def State.enterOutputs (g : GroupId) (s : State) : State :=
  { s with pairs := Vector.ofFn fun p =>
      if (s.pair p).group == some g then (s.pair p).enter (s.rawCompare g p) else s.pair p }

/-- The source of an output: the raw compare for P, its inverse for N (Table 3.4). -/
def PairUnit.source (u : PairUnit) : Output → Bool
  | .p => u.raw
  | .n => !u.raw

/-- The working state of an output. -/
def PairUnit.out (u : PairUnit) : Output → OutState
  | .p => u.outP
  | .n => u.outN

/-- An output's timer has reached 0 while its source stays active (R54): the pair shows its waveform in a
mode with delay, the source is active, and the output is not. -/
def State.expiryDue (s : State) (p : PairId) (o : Output) : Bool :=
  let u := s.pair p
  s.selection u == .waveform && u.mode.delays && u.source o
    && (u.out o).timer == 0 && !(u.out o).delayed

/-- The output becomes active. -/
def PairUnit.expire (o : Output) (u : PairUnit) : PairUnit :=
  match o with
  | .p => { u with outP := { u.outP with delayed := true } }
  | .n => { u with outN := { u.outN with delayed := true } }

end Sys2Proof.Machine
end

