-- ==== Sys2Proof/Machine/Sequencer.lean ====
section
/-! DEFINITION. Machine/Sequencer.lean: what the group sequencers do (Chapters 2, 4 and 7), as shared
operations: takeover, starvation, faulting, stopping, aborting, tripping, and start sets. -/

namespace Sys2Proof.Machine

/-! ## Endings -/

/-- The ACTIVE record's run ends with a status; it drains until its capture work is finished (R13). -/
def Group.endActive (status : SegStatus) (x : Group) : Group :=
  { x with window := x.window.map fun e =>
      if e.st == .active then { e with st := .draining, status := some status } else e }

/-- The AT_END post of a record that ends with OK and no takeover, as a request of its own (R32). -/
def State.endPost (g : GroupId) (e : Entry) (s : State) : State :=
  match runParts s.tokens (endParts e.copy) with
  | none => s
  | some (tokens, sats) =>
      { s with tokens := tokens }.modEntry (e.ref g) (Entry.saturate (sats.any id))

/-- A start set is broken by the leaving of member `g`: its record is removed, every other member that is
still ARMED returns to STOPPED with its window retired, and every member gains SET_BROKEN (R42, R78). -/
def State.breakSet (g : GroupId) (s : State) : State :=
  match s.sets.find? fun t => t.members.getLsbD g with
  | none => s
  | some t =>
      allGroups.foldl
        (fun (s : State) (m : GroupId) =>
          if t.members.getLsbD m then
            s.modGroup m fun x =>
              (if m != g && x.state == .armed then
                { x.cancelFetch.retireWaiting with state := .stopped }
              else x).notify .setBroken
          else s)
        { s with sets := s.sets.filter fun t => !t.members.getLsbD g }

/-- The window of a group that faults, is aborted or trips: a FETCHING entry is cancelled, READY and BAD
records are retired, the counter holds 0 and no stop is pending. The records whose capture work is
removed have been retired by `removeWork`. -/
def Group.clearOut (x : Group) : Group :=
  { x.cancelFetch.retireWaiting.holdCounter with pendingStop := .noStop }

/-- The faulting of a group (R33). -/
def State.faultGroup (g : GroupId) (s : State) : State :=
  let s' := (s.removeWork g .aborted).modGroup g fun x =>
    { x.clearOut with state := .faulted }.notify .faulted
  if (s.group g).state == .armed then s'.breakSet g else s'

/-- A group's trip condition becomes true while the controller is RUNNING (R121, R122). -/
def State.tripGroup (g : GroupId) (s : State) : State :=
  match (s.group g).state with
  | .unbound | .tripped => s
  | .stopped | .faulted =>
      s.modGroup g fun x => { x with state := .tripped }.notify .tripped
  | .armed =>
      ((s.removeWork g .tripped).modGroup g fun x =>
        { x.clearOut with state := .tripped }.notify .tripped).breakSet g
  | .running | .starved | .stopping =>
      (s.removeWork g .tripped).modGroup g fun x =>
        { x.clearOut with state := .tripped }.notify .tripped

/-- The state an accepted ABORT leads to (R40). -/
def GroupState.aborted : GroupState → GroupState
  | .armed | .running | .starved | .stopping | .faulted => .stopped
  | .stopped => .stopped
  | .tripped => .tripped
  | .unbound => .unbound

/-- The notice an accepted ABORT adds: STOPPED, where the group moves to STOPPED (R40). -/
def Group.abortNotice (before : GroupState) (x : Group) : Group :=
  match before with
  | .armed | .running | .starved | .stopping | .faulted => x.notify .stopped
  | .stopped | .tripped | .unbound => x

/-- An accepted ABORT without its DISCARD (R39, R40). -/
def State.abortGroup (g : GroupId) (s : State) : State :=
  let before := (s.group g).state
  let s' := (s.removeWork g .aborted).modGroup g fun x =>
    Group.abortNotice before { x.clearOut with state := before.aborted }
  if before == .armed then s'.breakSet g else s'

/-- DISCARD (R41): the fetch index goes to the tail. With an empty window the retire index goes with it;
otherwise the passed slots join the window span. -/
def Group.discard (x : Group) : Group :=
  let r := x.ring
  if x.window.isEmpty then { x with ring := { r with fetch := r.tail, retire := r.tail, span := 0 } }
  else { x with ring := { r with fetch := r.tail, span := r.span + r.available } }

/-- A STOP accepted for a RUNNING group (R36, R37, R38). -/
def Group.stopRunning (mode : StopMode) (x : Group) : Group :=
  match mode with
  | .periodEnd => { x.cancelFetch with state := .stopping, pendingStop := .periodEnd }
  | .segmentEnd => { x.cancelFetch with state := .stopping, pendingStop := .segmentEnd }
  | .now =>
      { (x.cancelFetch.endActive .cut).retireWaiting.holdCounter with
        state := .stopping, pendingStop := .noStop }

/-- A STOP accepted for a group that is RUNNING, STARVED or ARMED (R36). A STARVED group goes by STOPPING,
which `pump` turns into STOPPED when no DRAINING record remains. -/
def State.stopGroup (g : GroupId) (mode : StopMode) (s : State) : State :=
  match (s.group g).state with
  | .running => s.modGroup g (Group.stopRunning mode)
  | .starved =>
      s.modGroup g fun x => { x.cancelFetch.retireWaiting with state := .stopping }
  | .armed =>
      (s.modGroup g fun x =>
        { x.cancelFetch.retireWaiting with state := .stopped }.notify .stopped).breakSet g
  | _ => s

/-! ## Takeover -/

/-- An entry becomes ACTIVE, with TOKEN_SATURATED where its AT_START post saturated (R30, R68). -/
def Entry.activate (sat : Bool) (e : Entry) : Entry := { e.saturate sat with st := .active }

/-- The counter of a record that becomes ACTIVE: 0, slope UP (R50). -/
def Group.beginRecord (slot : Nat) (sat : Bool) (x : Group) : Group :=
  { x.modSlot slot (Entry.activate sat) with counter := 0, slope := .up, state := .running }

/-- The boundary request of an end candidate `e` whose next record `n` is READY (R30): the state after
the takeover, or none when the claim is refused. -/
def State.takeover (g : GroupId) (e n : Entry) (s : State) : Option State :=
  let ends := endParts e.copy
  let claims := claimParts n.copy
  match runParts s.tokens (ends ++ claims ++ startParts n.copy) with
  | none => none
  | some (tokens, sats) =>
      let endSat := (sats.take ends.length).any id
      let startSat := (sats.drop (ends.length + claims.length)).any id
      some <|
        ((({ s with tokens := tokens }.modGroup g (Group.endActive .ok)).modEntry (e.ref g)
            (Entry.saturate endSat))).modGroup g (Group.beginRecord n.slot startSat)

/-- The extension of an end candidate whose successor's claim is refused (R31). -/
def Entry.extend (e : Entry) : Entry :=
  { e with
    extensionPeriods := satSucc32 e.extensionPeriods
    flags := { e.flags with extended := true } }

/-- An end candidate without a next record: it ends OK and the group starves (R32). -/
def State.starve (g : GroupId) (e : Entry) (s : State) : State :=
  (s.endPost g e).modGroup g fun x =>
    { (x.endActive .ok).holdCounter with state := .starved }.notify .starved

/-- An end candidate with a BAD next record: it ends OK and the group faults (R34). -/
def State.endAndFault (g : GroupId) (e : Entry) (s : State) : State :=
  ((s.endPost g e).modGroup g (Group.endActive .ok)).faultGroup g

/-- The boundary of a RUNNING group, with the period of `e` counted (R29). -/
def State.runningBoundary (g : GroupId) (e : Entry) (s : State) : State :=
  match (s.group g).next? with
  | some n =>
      if n.st == .ready then
        if Seg.hold e.copy then (s.takeover g e n).getD s
        else if e.periodsRun < Seg.repeats e.copy then s
        else (s.takeover g e n).getD (s.modEntry (e.ref g) Entry.extend)
      else if Seg.hold e.copy || decide (e.periodsRun < Seg.repeats e.copy) then s
      else s.endAndFault g e
  | none =>
      if Seg.hold e.copy || decide (e.periodsRun < Seg.repeats e.copy) then s
      else s.starve g e

/-- The ACTIVE record of a STOPPING group ends at a boundary (R38). -/
def State.stopEnding (g : GroupId) (e : Entry) (status : SegStatus) (s : State) : State :=
  let s' := (if status == .ok then s.endPost g e else s).modGroup g (Group.endActive status)
  if (s.group g).nextBad then s'.faultGroup g
  else s'.modGroup g fun x => { x.retireWaiting.holdCounter with pendingStop := .noStop }

/-- The record has run its repeat, or holds: PERIOD_END and SEGMENT_END end it with OK (R37). -/
def Entry.runDone (e : Entry) : Bool :=
  Seg.hold e.copy || decide (Seg.repeats e.copy ≤ e.periodsRun)

/-- The boundary of a STOPPING group, with the period of `e` counted (R37). -/
def State.stoppingBoundary (g : GroupId) (e : Entry) (s : State) : State :=
  match (s.group g).pendingStop with
  | .periodEnd => s.stopEnding g e (if e.runDone then .ok else .cut)
  | .segmentEnd => if e.runDone then s.stopEnding g e .ok else s
  | .noStop => s

/-! ## Start sets -/

/-- The groups of a set, ascending. -/
def StartSet.groups (t : StartSet) : List GroupId := allGroups.filter fun g => t.members.getLsbD g

/-- A group's oldest entry, its first record while it is ARMED. -/
def State.first? (s : State) (g : GroupId) : Option Entry := (s.group g).window.head?

/-- A set is ready: every member's oldest entry is READY (R75). -/
def State.setReady (s : State) (t : StartSet) : Bool :=
  t.groups.all fun g =>
    match s.first? g with
    | some e => e.st == .ready
    | none => false

/-- The wait need of a group's first record on a token. -/
def State.firstNeed (s : State) (t : TokenId) (g : GroupId) : Nat :=
  match s.first? g with
  | some e => if Seg.hasWait e.copy && tokenNamed (Seg.waitToken e.copy) == t then Seg.waitNeed e.copy else 0
  | none => 0

/-- The need of a set on a token: the sum over its members' first records (R75). -/
def State.setNeed (s : State) (t : StartSet) (k : TokenId) : Nat := (t.groups.map (s.firstNeed k)).sum

/-- The claims of a set request: one for each token that a first record names (R75). -/
def State.setClaims (s : State) (t : StartSet) : List Part :=
  (allTokens.filter fun k => 0 < s.setNeed t k).map fun k => .claim k (s.setNeed t k)

/-- The AT_START post of a group's first record. -/
def State.firstPost (s : State) (g : GroupId) : List Part :=
  match s.first? g with
  | some e => startParts e.copy
  | none => []

/-- The set request: the claims, then the members' AT_START posts in ascending group number (R75). -/
def State.setRequest (s : State) (t : StartSet) : List Part :=
  s.setClaims t ++ t.groups.flatMap s.firstPost

/-- The groups of a set whose first record posts at its start, ascending: the order of the answers. -/
def State.setPosters (s : State) (t : StartSet) : List GroupId :=
  t.groups.filter fun g => !(s.firstPost g).isEmpty

/-- A member's first record becomes ACTIVE at the firing (R28, R77). -/
def State.fireMember (posters : List (GroupId × Bool)) (s : State) (g : GroupId) : State :=
  match s.first? g with
  | none => s
  | some e =>
      let sat := posters.any fun q => q.1 == g && q.2
      ((((s.modGroup g fun x =>
        { x.beginRecord e.slot sat with presc := 0 }.notify .started).markTick g).enterOutputs g).triggers g)

/-- The pending set that holds group `g`. -/
def State.setOf (s : State) (g : GroupId) : Option StartSet :=
  s.sets.find? fun t => t.members.getLsbD g

/-- A ready set that has not yet sent its request on this device clock (R75). -/
def State.setDue (s : State) (g : GroupId) : Bool :=
  match s.setOf g with
  | some t => s.isRunning && !t.asked && s.setReady t
  | none => false

/-- The set request of the set of group `g` is taken: granted, the set fires; refused, it stays pending and
asks again on the next device clock (R76, R77). -/
def State.fireSet (g : GroupId) (s : State) : State :=
  match s.setOf g with
  | none => s
  | some t =>
      match runParts s.tokens (s.setRequest t) with
      | none =>
          { s with sets := s.sets.map fun u => if u.members.getLsbD g then { u with asked := true } else u }
      | some (tokens, sats) =>
          t.groups.foldl
            (State.fireMember ((s.setPosters t).zip (sats.drop (s.setClaims t).length)))
            { s with tokens := tokens, sets := s.sets.filter fun u => !u.members.getLsbD g }

end Sys2Proof.Machine
end

