-- ==== Sys2Proof/Machine/Trip.lean ====
section
/-! DEFINITION. Machine/Trip.lean: the trip unit (R115 to R124). A line's step on a sample tick is one
happening: TRIP_SAMPLE takes it where the sample does not complete the filter's run, and
FILTERED_LEVEL_CHANGE where it does (log 8). -/

namespace Sys2Proof.Machine

/-- A sample is active if the line presents its configured active level (R116). -/
def TripLine.sampleActive (ln : TripLine) (level : Level) : Bool := level == ln.active

/-- The sample completes the filter's run: it differs from the filtered level for the F + 1st time in a
row (R117). -/
def TripLine.completesRun (ln : TripLine) (level : Level) : Bool :=
  ln.sampleActive level != ln.filtered && decide (ln.filterLen + 1 ≤ ln.run + 1)

/-- A sample that does not complete the run (R117): the run count rises, or is set to 0. -/
def TripLine.countSample (level : Level) (ln : TripLine) : TripLine :=
  if ln.sampleActive level == ln.filtered then { ln with run := 0, sample := none }
  else { ln with run := ln.run + 1, sample := none }

/-- A line on a sample tick. A sample that completes the run is left for FILTERED_LEVEL_CHANGE. -/
def TripLine.sampled (level : Level) (ln : TripLine) : TripLine :=
  if ln.completesRun level then { ln with sample := some level } else ln.countSample level

/-- The trip sample tick of this device clock is still to be taken (R116): in every controller state, but
not while the reset pin is asserted (R115). -/
def State.tripSampleDue (s : State) : Bool := !s.inReset && s.tripPresc == 0 && !s.marks.trip

/-- TRIP_SAMPLE: each line is sampled (R116, R117). -/
def execTripSample (pins : Vector Level 4) (s : State) : StepResult :=
  happen s.tripSampleDue s
    { s with
      lines := Vector.ofFn fun l => (s.line l).sampled (pins.get l)
      marks := { s.marks with trip := true } }

/-- A filtered level changes; a change to active on a line with a non-empty mask sets the latch (R117,
R118). -/
def TripLine.change (ln : TripLine) : TripLine :=
  { ln with
    filtered := !ln.filtered
    run := 0
    sample := none
    latch := ln.latch || (!ln.filtered && ln.mask != 0) }

/-- The line goes active with a non-empty mask: it latches and EVT.TRIP is set (R118). -/
def TripLine.trips (ln : TripLine) : Bool := !ln.filtered && ln.mask != 0

/-- The groups whose trip condition became true between two states. -/
def newlyTripped (before after : State) : List GroupId :=
  allGroups.filter fun g => after.tripCondition g && !before.tripCondition g

/-- The change of a line's filtered level with all it causes (R117 to R122). While the controller is not
RUNNING the group sequencers make no transition (R123). A line that trips several groups has all their capture
work removed before the writer chooses its next job (R111 step 4), once: DESIGN CHOICE (log 34). -/
def State.levelChange (l : LineId) (s : State) : State :=
  let ln := s.line l
  let s' := s.setLine l ln.change
  if ln.trips then
    let s' := s'.setEvt evtTrip
    if s.isRunning then ((newlyTripped s s').foldl (fun t g => t.tripGroup g) s').pump else s'
  else s'

/-- The step of a line whose sample waits: the filtered level changes, or, where a SET_TRIP has come in
between, the sample is judged against the new configuration (R127). -/
def State.judgeSample (l : LineId) (level : Level) (s : State) : State :=
  if (s.line l).completesRun level then s.levelChange l
  else s.setLine l ((s.line l).countSample level)

/-- The step of a line on this sample tick, where it is still to be taken (R116, R117). -/
def State.lineStep (s : State) (l : LineId) : State :=
  match (s.line l).sample with
  | none => s
  | some level => (s.judgeSample l level).settle

/-- FILTERED_LEVEL_CHANGE. While the reset pin is asserted the trip unit holds its values (R115). -/
def execFilteredLevelChange (l : LineId) (s : State) : StepResult :=
  .next (if s.inReset then s else s.lineStep l)

/-- The sample tick of this device clock, to its end: every line's step that is still to be taken. -/
def State.finishSample (s : State) : State := allLines.foldl State.lineStep s

end Sys2Proof.Machine
end

