-- ==== Sys2Proof/Machine/Admin.lean ====
section
/-! DEFINITION. Machine/Admin.lean: the administrative commands (Chapter 9). Each is the OK answer to the
administrative processor's read (R138). A command has a verdict, which is the first check that fails
(R151), and an effect, which takes place where the verdict is OK. -/

namespace Sys2Proof.Machine

/-! ## The frame of every command -/

/-- The admin completion entry joins the admin holding queue, and the fetch state becomes none (R138). -/
def State.report (cmd : Slot32) (status : AdminStatus) (value : BitVec 128) (s : State) : State :=
  { s with admin := { s.admin with
      state := .idle
      queue := s.admin.queue ++
        [.admin (Cmd.opcode cmd) (Cmd.tag cmd) status s.admin.fetch value] } }

/-- A command that the processor receives: it is judged on the state as it stands, takes its effect when it
is accepted, and gets one entry (R151, R153). A refused command has the value field zero. A slot that
names another row is not this happening (log 1). -/
def command (late isRow : Bool) (cmd : Slot32) (verdict : AdminStatus) (value : BitVec 128)
    (effect : State → State) (s : State) : StepResult :=
  if isRow then
    answer late .adminProcessor s <|
      let s' := s.answered .adminProcessor
      if verdict = .ok then (effect s').report cmd .ok value else s'.report cmd verdict 0
  else .next s

/-- BAD_PARAM unless the parameter checks pass, then the verdict of the state checks (R151). -/
def judge (params : Bool) (rest : AdminStatus) : AdminStatus := if params then rest else .badParam

/-! ## Rings and group configuration -/

/-- The state checks of a command that needs a STOPPED group with an empty window, or, where `unboundOk`,
an UNBOUND one (R154, R156). -/
def Group.bindVerdict (unboundOk : Bool) (x : Group) : AdminStatus :=
  match x.state with
  | .unbound => if unboundOk then .ok else .badState
  | .stopped => if x.window.isEmpty then .ok else .busy
  | _ => .badState

/-- BIND_RING's checks (R154). -/
def bindRingVerdict (cmd : Slot32) (s : State) : AdminStatus :=
  match groupOfCode (Cmd.group cmd) with
  | none => .badParam
  | some g =>
      judge (decide (2 ≤ Cmd.number cmd) && decide (Cmd.number cmd ≤ 12)
          && (Cmd.base cmd).extractLsb' 0 6 == 0 && Cmd.reservedClear Cmd.usedBindRing cmd)
        ((s.group g).bindVerdict true)

/-- A ring as BIND_RING leaves it (R130, R155). -/
def boundRing (base : Addr) (sizeCode : Nat) : Ring :=
  { bound := true, base := base, size := 2 ^ sizeCode, tail := 0, fetch := 0, retire := 0, span := 0 }

/-- The group a BIND_RING leaves (R22, R155). -/
def Group.bind (cmd : Slot32) (tripped : Bool) (x : Group) : Group :=
  let x' := { x with ring := boundRing (Cmd.base cmd) (Cmd.number cmd) }
  if x.state == .unbound then
    if tripped then { x' with state := .tripped }.notify .tripped else { x' with state := .stopped }
  else x'

/-- BIND_RING's effect. -/
def bindRingEffect (cmd : Slot32) (s : State) : State :=
  match groupOfCode (Cmd.group cmd) with
  | none => s
  | some g => s.modGroup g (Group.bind cmd (s.tripCondition g))

/-- BIND_RING. -/
def execBindRing (late : Bool) (cmd : Slot32) (s : State) : StepResult :=
  command late (Cmd.opcode cmd == 0x01) cmd (bindRingVerdict cmd s) 0 (bindRingEffect cmd) s

/-- UNBIND_RING's checks (R156). -/
def unbindRingVerdict (cmd : Slot32) (s : State) : AdminStatus :=
  match groupOfCode (Cmd.group cmd) with
  | none => .badParam
  | some g => judge (Cmd.reservedClear Cmd.usedUnbindRing cmd) ((s.group g).bindVerdict false)

/-- The group an UNBIND_RING leaves (R22, R130): base, size and indices keep their values. -/
def Group.unbind (x : Group) : Group :=
  { x with state := .unbound, ring := { x.ring with bound := false } }

/-- UNBIND_RING's effect. -/
def unbindRingEffect (cmd : Slot32) (s : State) : State :=
  match groupOfCode (Cmd.group cmd) with
  | none => s
  | some g => s.modGroup g Group.unbind

/-- UNBIND_RING. -/
def execUnbindRing (late : Bool) (cmd : Slot32) (s : State) : StepResult :=
  command late (Cmd.opcode cmd == 0x02) cmd (unbindRingVerdict cmd s) 0 (unbindRingEffect cmd) s

/-- The group is UNBOUND or STOPPED. -/
def Group.isQuiet (x : Group) : Bool := x.state == .unbound || x.state == .stopped

/-- SET_GROUP's checks (R157). -/
def setGroupVerdict (cmd : Slot32) (s : State) : AdminStatus :=
  match groupOfCode (Cmd.group cmd) with
  | none => .badParam
  | some g =>
      judge (decide (Cmd.number cmd ≤ 7) && (countModeOfCode (Cmd.mode cmd)).isSome
          && Cmd.reservedClear Cmd.usedSetGroup cmd)
        (if (s.group g).isQuiet then .ok else .badState)

/-- SET_GROUP's effect (R46, R47, R157): the device clock of acceptance is a group tick. -/
def setGroupEffect (cmd : Slot32) (s : State) : State :=
  match groupOfCode (Cmd.group cmd), countModeOfCode (Cmd.mode cmd) with
  | some g, some mode =>
      let s' := s.modGroup g fun x => { x with d := Cmd.number cmd, mode := mode, presc := 0 }
      { s' with marks := { s'.marks with group := s'.marks.group.set g false } }
  | _, _ => s

/-- SET_GROUP. -/
def execSetGroup (late : Bool) (cmd : Slot32) (s : State) : StepResult :=
  command late (Cmd.opcode cmd == 0x03) cmd (setGroupVerdict cmd s) 0 (setGroupEffect cmd) s

/-- Levels that leave not both outputs of a complementary pair at the active level (R57). -/
def Levels.legal (mode : PairMode) (v : Levels) : Bool :=
  match mode with
  | .comp | .compInv => !(v.p == mode.activeLevel && v.n == mode.activeLevel)
  | .same | .pOnly => true

/-- A SET_PAIR's configuration. -/
structure PairConfig where
  pair : PairId
  group : Option GroupId
  mode : PairMode
  dead : Nat
  idle : Levels
  safe : Levels
deriving DecidableEq, Repr

/-- Two level bytes. -/
def levelsOfCodes (p n : Nat) : Option Levels :=
  match levelOfCode p, levelOfCode n with
  | some p, some n => some ⟨p, n⟩
  | _, _ => none

/-- SET_PAIR's parameter checks (R63 step 1, R152): none where one fails. -/
def setPairConfig (cmd : Slot32) : Option PairConfig :=
  match pairOfCode (Cmd.pair cmd), pairGroupOfCode (Cmd.group cmd), pairModeOfCode (Cmd.mode cmd),
      levelsOfCodes (Cmd.idleP cmd) (Cmd.idleN cmd), levelsOfCodes (Cmd.safeP cmd) (Cmd.safeN cmd) with
  | some pair, some group, some mode, some idle, some safe =>
      if decide (Cmd.number cmd ≤ 63) && idle.legal mode && safe.legal mode
          && Cmd.reservedClear Cmd.usedSetPair cmd then
        some { pair, group, mode, dead := Cmd.number cmd, idle, safe }
      else none
  | _, _, _, _, _ => none

/-- The groups a SET_PAIR concerns: the pair's present group and the named one (R63 step 2). -/
def State.pairGroups (s : State) (c : PairConfig) : List Group :=
  ((s.pair c.pair).group.toList ++ c.group.toList).map s.group

/-- SET_PAIR's checks (R63, R158). -/
def setPairVerdict (cmd : Slot32) (s : State) : AdminStatus :=
  match setPairConfig cmd with
  | none => .badParam
  | some c =>
      if (s.pairGroups c).any fun x => !x.isQuiet then .badState
      else if (s.pairGroups c).any fun x => x.state == .stopped && !x.window.isEmpty then .busy
      else .ok

/-- A pair unit with a new configuration (R64). `settle` gives the pins the levels of the selection. -/
def PairUnit.configure (c : PairConfig) (u : PairUnit) : PairUnit :=
  { u.quiet with
    group := c.group, mode := c.mode, dead := c.dead, idle := c.idle, safe := c.safe }

/-- SET_PAIR's effect (R64). -/
def setPairEffect (cmd : Slot32) (s : State) : State :=
  match setPairConfig cmd with
  | none => s
  | some c => s.setPair c.pair ((s.pair c.pair).configure c)

/-- SET_PAIR. -/
def execSetPair (late : Bool) (cmd : Slot32) (s : State) : StepResult :=
  command late (Cmd.opcode cmd == 0x04) cmd (setPairVerdict cmd s) 0 (setPairEffect cmd) s

/-! ## Converter, trip and token commands -/

/-- SET_CONVERTER's checks (R99, R159). -/
def setConverterVerdict (cmd : Slot32) (s : State) : AdminStatus :=
  judge (decide (1 ≤ Cmd.number cmd) && decide (Cmd.number cmd ≤ 32)
      && Cmd.reservedClear Cmd.usedSetConverter cmd)
    (if s.converter.state == .idle && s.captureQueue.isEmpty then .ok else .busy)

/-- SET_CONVERTER's effect (R99): the device clock of acceptance is a converter tick. -/
def setConverterEffect (cmd : Slot32) (s : State) : State :=
  { s with
    converter := { s.converter with k := Cmd.number cmd, presc := 0 }
    marks := { s.marks with conv := false } }

/-- SET_CONVERTER. -/
def execSetConverter (late : Bool) (cmd : Slot32) (s : State) : StepResult :=
  command late (Cmd.opcode cmd == 0x05) cmd (setConverterVerdict cmd s) 0 (setConverterEffect cmd) s

/-- A mask byte that names no group above 3. -/
def maskLegal (m : Byte) : Bool := m.extractLsb' 4 4 == 0

/-- SET_TRIP's checks (R127, R160). -/
def setTripVerdict (cmd : Slot32) (s : State) : AdminStatus :=
  match lineOfCode (Cmd.line cmd) with
  | none => .badParam
  | some l =>
      judge ((levelOfCode (Cmd.level cmd)).isSome && decide (Cmd.number cmd ≤ 15)
          && maskLegal (Cmd.mask cmd) && Cmd.reservedClear Cmd.usedSetTrip cmd)
        (if (s.line l).latch then .badState else .ok)

/-- A line as SET_TRIP leaves it (R127). A sample of this device clock that has still to be judged stays
to be judged against the new configuration. -/
def TripLine.configure (active : Level) (filterLen : Nat) (mask : BitVec 4) (ln : TripLine) : TripLine :=
  { ln with active := active, filterLen := filterLen, mask := mask, filtered := false, run := 0 }

/-- SET_TRIP's effect. -/
def setTripEffect (cmd : Slot32) (s : State) : State :=
  match lineOfCode (Cmd.line cmd), levelOfCode (Cmd.level cmd) with
  | some l, some level =>
      s.setLine l ((s.line l).configure level (Cmd.number cmd) ((Cmd.mask cmd).extractLsb' 0 4))
  | _, _ => s

/-- SET_TRIP. -/
def execSetTrip (late : Bool) (cmd : Slot32) (s : State) : StepResult :=
  command late (Cmd.opcode cmd == 0x06) cmd (setTripVerdict cmd s) 0 (setTripEffect cmd) s

/-- SET_TOKEN's checks (R70, R162). -/
def setTokenVerdict (cmd : Slot32) (_s : State) : AdminStatus :=
  judge ((tokenOfCode (Cmd.token cmd)).isSome && decide (Cmd.number cmd ≤ 255)
      && Cmd.reservedClear Cmd.usedSetToken cmd) .ok

/-- SET_TOKEN's effect (R70). -/
def setTokenEffect (cmd : Slot32) (s : State) : State :=
  match tokenOfCode (Cmd.token cmd) with
  | some t => { s with tokens := s.tokens.set t (Cmd.number cmd) }
  | none => s

/-- SET_TOKEN. -/
def execSetToken (late : Bool) (cmd : Slot32) (s : State) : StepResult :=
  command late (Cmd.opcode cmd == 0x0A) cmd (setTokenVerdict cmd s) 0 (setTokenEffect cmd) s

/-- CLEAR_TRIP's checks (R126, R161). -/
def clearTripVerdict (cmd : Slot32) (s : State) : AdminStatus :=
  match lineOfCode (Cmd.line cmd) with
  | none => .badParam
  | some l =>
      judge (Cmd.reservedClear Cmd.usedClearTrip cmd)
        (if (s.line l).filtered then .tripActive else .ok)

/-- A TRIPPED group whose condition has become false enters STOPPED (R126). -/
def Group.clearTrip (x : Group) : Group :=
  if x.state == .tripped then { x with state := .stopped }.notify .tripCleared else x

/-- CLEAR_TRIP's effect (R126). A line whose latch is clear has none. -/
def clearTripEffect (cmd : Slot32) (s : State) : State :=
  match lineOfCode (Cmd.line cmd) with
  | none => s
  | some l =>
      if (s.line l).latch then
        let s' := s.setLine l { s.line l with latch := false }
        allGroups.foldl
          (fun t g => if s'.tripCondition g then t else t.modGroup g Group.clearTrip) s'
      else s

/-- CLEAR_TRIP. -/
def execClearTrip (late : Bool) (cmd : Slot32) (s : State) : StepResult :=
  command late (Cmd.opcode cmd == 0x0B) cmd (clearTripVerdict cmd s) 0 (clearTripEffect cmd) s

/-! ## Starting, stopping and aborting -/

/-- The groups a START mask names. -/
def maskGroups (m : Byte) : List GroupId := allGroups.filter fun g => m.getLsbD g

/-- START's checks (R73, R163), in order. -/
def startVerdict (cmd : Slot32) (s : State) : AdminStatus :=
  let named := maskGroups (Cmd.mask cmd)
  judge (maskLegal (Cmd.mask cmd) && !named.isEmpty && Cmd.reservedClear Cmd.usedStart cmd)
    (if 4 ≤ s.sets.length then .busy
    else if named.any s.tripCondition then .tripLatched
    else if named.any fun g => (s.group g).state != .stopped then .badState
    else if named.any fun g => !(s.group g).window.isEmpty then .busy
    else .ok)

/-- START's effect (R74): a set record is created and every member enters ARMED. -/
def startEffect (cmd : Slot32) (s : State) : State :=
  (maskGroups (Cmd.mask cmd)).foldl
    (fun t g => t.modGroup g fun x => { x with state := .armed })
    { s with sets := s.sets ++ [{ members := (Cmd.mask cmd).extractLsb' 0 4 }] }

/-- START. -/
def execStart (late : Bool) (cmd : Slot32) (s : State) : StepResult :=
  command late (Cmd.opcode cmd == 0x07) cmd (startVerdict cmd s) 0 (startEffect cmd) s

/-- STOP's checks (R36, R164). -/
def stopVerdict (cmd : Slot32) (s : State) : AdminStatus :=
  match groupOfCode (Cmd.group cmd) with
  | none => .badParam
  | some g =>
      judge ((stopModeOfCode (Cmd.mode cmd)).isSome && Cmd.reservedClear Cmd.usedStop cmd)
        (match (s.group g).state with
        | .running | .starved | .armed => .ok
        | _ => .badState)

/-- STOP's effect (R36 to R38). -/
def stopEffect (cmd : Slot32) (s : State) : State :=
  match groupOfCode (Cmd.group cmd), stopModeOfCode (Cmd.mode cmd) with
  | some g, some mode => (s.stopGroup g mode).pump
  | _, _ => s

/-- STOP. -/
def execStop (late : Bool) (cmd : Slot32) (s : State) : StepResult :=
  command late (Cmd.opcode cmd == 0x08) cmd (stopVerdict cmd s) 0 (stopEffect cmd) s

/-- ABORT's checks (R166). -/
def abortVerdict (cmd : Slot32) (s : State) : AdminStatus :=
  match groupOfCode (Cmd.group cmd) with
  | none => .badParam
  | some g =>
      judge (decide (Cmd.discard cmd ≤ 1) && Cmd.reservedClear Cmd.usedAbort cmd)
        (if (s.group g).state == .unbound then .badState else .ok)

/-- ABORT's effect (R39 to R41). -/
def abortEffect (cmd : Slot32) (s : State) : State :=
  match groupOfCode (Cmd.group cmd) with
  | none => s
  | some g =>
      let s' := s.abortGroup g
      (if Cmd.discard cmd = 1 then s'.modGroup g Group.discard else s').pump

/-- ABORT. -/
def execAbort (late : Bool) (cmd : Slot32) (s : State) : StepResult :=
  command late (Cmd.opcode cmd == 0x09) cmd (abortVerdict cmd s) 0 (abortEffect cmd) s

/-! ## QUERY -/

/-- The QUERY GROUP snapshot (R169, Table 11.13). -/
def Group.snapshot (x : Group) : BitVec 128 :=
  let slopeDown := x.mode == .centre && x.hasActive && x.slope == .down
  putAt 0 x.state.code
    ||| putAt 1 (BitVec.ofNat 8 x.window.length)
    ||| putAt 2 ((BitVec.ofBool x.hasActive).zeroExtend 8
        ||| (BitVec.ofBool slopeDown).zeroExtend 8 <<< 1
        ||| x.pendingStop.code.zeroExtend 8 <<< 2)
    ||| putAt 4 (BitVec.ofNat 16 x.ring.retire)
    ||| putAt 6 (BitVec.ofNat 16 x.ring.fetch)
    ||| putAt 8 (BitVec.ofNat 16 x.counter)
    ||| (match x.active? with
        | some e => putAt 10 (Seg.tag e.copy) ||| putAt 12 (BitVec.ofNat 32 e.periodsRun)
        | none => 0)

/-- The QUERY TOKENS snapshot (R71, Table 11.14). -/
def State.tokenSnapshot (s : State) : BitVec 128 :=
  allTokens.foldl (fun v (t : TokenId) => v ||| putAt t.val (BitVec.ofNat 8 (s.token t))) 0

/-- A line in the QUERY TRIPS snapshot (Table 11.15). -/
def TripLine.snapshot (ln : TripLine) : Word32 :=
  putAt 0 ((BitVec.ofBool ln.latch).zeroExtend 8
      ||| (BitVec.ofBool ln.filtered).zeroExtend 8 <<< 1
      ||| (BitVec.ofBool (ln.active == .high)).zeroExtend 8 <<< 2)
    ||| putAt 1 (BitVec.ofNat 8 ln.run)
    ||| putAt 2 (BitVec.ofNat 8 ln.filterLen)
    ||| putAt 3 (ln.mask.zeroExtend 8)

/-- The QUERY TRIPS snapshot (R128, Table 11.15). -/
def State.tripSnapshot (s : State) : BitVec 128 :=
  allLines.foldl (fun v (l : LineId) => v ||| putAt (4 * l.val) (s.line l).snapshot) 0

/-- The QUERY CONVERTER snapshot (R100, Table 11.16). -/
def State.converterSnapshot (s : State) : BitVec 128 :=
  let c := s.converter
  putAt 0 (BitVec.ofNat 8 s.captureQueue.length)
    ||| putAt 1 c.state.code
    ||| putAt 2 (BitVec.ofNat 8 c.k)
    ||| (match c.state, c.current, c.held with
        | .converting, some r, _ =>
            putAt 3 (BitVec.ofNat 8 r.group) ||| putAt 4 (BitVec.ofNat 16 r.position)
              ||| putAt 6 (BitVec.ofNat 8 c.done)
        | .holding, _, some r =>
            putAt 3 (BitVec.ofNat 8 r.group) ||| putAt 4 (BitVec.ofNat 16 r.position)
        | _, _, _ => 0)

/-- A QUERY row's opcode and target. A target that is none of the four comes to QUERY_GROUP (log 19). -/
def isQuery (target : Byte) (cmd : Slot32) : Bool := Cmd.opcode cmd == 0x0C && targetOf cmd == target

/-- QUERY's checks with target GROUP, or with a target that is none of the four (R168). -/
def queryGroupVerdict (cmd : Slot32) (_s : State) : AdminStatus :=
  judge (Cmd.mode cmd == 0 && (groupOfCode (Cmd.group cmd)).isSome
    && Cmd.reservedClear Cmd.usedQueryGroup cmd) .ok

/-- The snapshot of the named group. -/
def queryGroupValue (cmd : Slot32) (s : State) : BitVec 128 :=
  match groupOfCode (Cmd.group cmd) with
  | some g => (s.group g).snapshot
  | none => 0

/-- QUERY_GROUP. -/
def execQueryGroup (late : Bool) (cmd : Slot32) (s : State) : StepResult :=
  command late (Cmd.opcode cmd == 0x0C && !(isQuery 1 cmd || isQuery 2 cmd || isQuery 3 cmd)) cmd
    (queryGroupVerdict cmd s) (queryGroupValue cmd s) id s

/-- QUERY's checks with target TOKENS, TRIPS or CONVERTER: the group field is reserved (R152, R168). -/
def queryVerdict (cmd : Slot32) (_s : State) : AdminStatus :=
  judge (Cmd.reservedClear Cmd.usedQuery cmd) .ok

/-- QUERY_TOKENS. -/
def execQueryTokens (late : Bool) (cmd : Slot32) (s : State) : StepResult :=
  command late (isQuery 1 cmd) cmd (queryVerdict cmd s) s.tokenSnapshot id s

/-- QUERY_TRIPS. A sample tick that has begun is brought to its end first, so that it appears in the snapshot
wholly (R128; log 8). -/
def execQueryTrips (late : Bool) (cmd : Slot32) (s : State) : StepResult :=
  command late (isQuery 2 cmd) cmd (queryVerdict cmd s) s.finishSample.tripSnapshot State.finishSample s

/-- QUERY_CONVERTER. -/
def execQueryConverter (late : Bool) (cmd : Slot32) (s : State) : StepResult :=
  command late (isQuery 3 cmd) cmd (queryVerdict cmd s) s.converterSnapshot id s

/-! ## An opcode that names no command -/

/-- The opcode names one of the twelve commands (Table 11.7). -/
def opcodeKnown (op : Byte) : Bool := decide (1 ≤ op.toNat) && decide (op.toNat ≤ 12)

/-- UNKNOWN (R151): no parameter is examined. -/
def execUnknown (late : Bool) (cmd : Slot32) (s : State) : StepResult :=
  command late (!opcodeKnown (Cmd.opcode cmd)) cmd .unknown 0 id s

end Sys2Proof.Machine
end

