-- ==== Sys2Proof/Config.lean ====
section
/-! DEFINITION. Config.lean: the free values of the model. They have no body: no proof can lean on one. -/

namespace Sys2Proof

/-- The levels the four trip lines present on a device clock (00_scope.md: the trip lines "are treated
as presenting a logic level at each trip sample tick"). It is read only where the block samples on its
own, with an empty queue. DESIGN CHOICE, safe (log 3): the index is the model's count of device clocks. -/
opaque Config.tripPins : Nat → Vector Level 4

/-- The value an analog input presents on a device clock (00_scope.md: "a value 0..4095 to the converter
at the instant it samples them"). It is read only where the block samples on its own, with an empty
queue. DESIGN CHOICE, safe (log 3). -/
opaque Config.analogInput : Nat → Nat → BitVec 12

end Sys2Proof
end

