-- ==== Sys2Proof/Machine/Completion.lean ====
section
/-! DEFINITION. Machine/Completion.lean: the administrative fetch (R137, R139), the completion writer (R142
to R144) and the entry to HALTED (R149). -/

namespace Sys2Proof.Machine

/-- The controller enters HALTED (R149, R177). The rest of the part is frozen by its own conditions, and
`settle` puts every bound pair at its safe levels (R61). -/
def State.halt (cause : HaltCause) (s : State) : State :=
  { s with ctrl := .halted, stat := { s.stat with cause := cause } }.setEvt evtHalt

/-! ## The administrative fetch -/

/-- The issue of a command read at its grant (R137). -/
def State.issueCommandRead (s : State) : State :=
  let s' := s.issue
    { requester := .adminProcessor, addr := slotAddr s.admBase 32 s.admin.fetch, op := .readCommand }
  { s' with admin := { s'.admin with fetch := ringNext s.admSize s.admin.fetch, state := .onBus } }

/-- ADMIN_FETCH_ISSUE. -/
def execAdminFetchIssue (s : State) : StepResult :=
  happen (s.granted .adminProcessor) s s.issueCommandRead

/-- ADMIN_READ_ERROR: no command is executed, no entry is made, and the controller halts (R139). The fetch
state stays ON_BUS. -/
def execAdminReadError (late : Bool) (s : State) : StepResult :=
  answer late .adminProcessor s ((s.answered .adminProcessor).halt .adminFetch)

/-! ## The completion writer -/

/-- The queues in the writer's order, starting after the one last served (R142). -/
def serverOrder : Server → List Server
  | .group 0 => [.group 1, .group 2, .group 3, .admin, .group 0]
  | .group 1 => [.group 2, .group 3, .admin, .group 0, .group 1]
  | .group 2 => [.group 3, .admin, .group 0, .group 1, .group 2]
  | .group 3 => [.admin, .group 0, .group 1, .group 2, .group 3]
  | .admin => [.group 0, .group 1, .group 2, .group 3, .admin]

/-- The holding queue of a server. -/
def State.holdingQueue (s : State) : Server → List CplEntry
  | .group g => (s.group g).queue
  | .admin => s.admin.queue

/-- The head entry of a holding queue is removed. -/
def State.popQueue (v : Server) (s : State) : State :=
  match v with
  | .group g => s.modGroup g fun x => { x with queue := x.queue.tail }
  | .admin => { s with admin := { s.admin with queue := s.admin.queue.tail } }

/-- The first queue that holds an entry, in the writer's order. -/
def State.nextServer (s : State) : Option Server :=
  (serverOrder s.cpl.lastServed).find? fun v => !(s.holdingQueue v).isEmpty

/-- The completion ring's indices after a write is issued (R142 steps 5 and 6). -/
def CplWriter.advance (size : Nat) (c : CplWriter) : CplWriter :=
  { c with
    write := ringNext size c.write
    lap := if c.write + 1 = size then !c.lap else c.lap
    unreleased := c.unreleased + 1
    state := .onBus }

/-- The grant of a completion write (R142). -/
def State.issueEntry (s : State) : State :=
  match s.nextServer with
  | none => s
  | some v =>
      match s.holdingQueue v with
      | [] => s
      | e :: _ =>
          let s' := (s.popQueue v).issue
            { requester := .completionWriter
              addr := slotAddr s.cplBase 32 s.cpl.write
              op := .writeEntry (e.encode s.cpl.lap) }
          { s' with cpl := { s.cpl.advance s.cplSize with lastServed := v, inFlight := some e } }

/-- COMPLETION_WRITE_ISSUE. -/
def execCompletionWriteIssue (s : State) : StepResult :=
  happen (s.granted .completionWriter) s s.issueEntry

/-- The event bit of the entry in flight. -/
def State.inFlightEvent (s : State) : BitVec 6 :=
  match s.cpl.inFlight with
  | some e => e.event
  | none => 0

/-- COMPLETION_WRITE_OK (R143). -/
def execCompletionWriteOk (late : Bool) (s : State) : StepResult :=
  let s' := (s.answered .completionWriter).setEvt s.inFlightEvent
  answer late .completionWriter s
    { s' with cpl := { s'.cpl with state := .idle, inFlight := none } }

/-- COMPLETION_WRITE_ERROR (R144): the entry in flight is lost and the controller halts. The write state
stays ON_BUS (log 11). -/
def execCompletionWriteError (late : Bool) (s : State) : StepResult :=
  let s' := (s.answered .completionWriter).halt .completionWrite
  answer late .completionWriter s { s' with cpl := { s'.cpl with inFlight := none } }

end Sys2Proof.Machine
end

