-- ==== Sys2Proof/Machine/Converter.lean ====
section
/-! DEFINITION. Machine/Converter.lean: the converter's ticks (R90 to R93) and the result writer's writes
(R107 to R109). -/

namespace Sys2Proof.Machine

/-! ## The converter -/

/-- The converter tick of this device clock is still to be taken (R90). -/
def State.convTickDue (s : State) : Bool :=
  s.isRunning && s.converter.presc == 0 && !s.marks.conv

/-- A converter tick: a CONVERTING converter's step rises by one, and at step 1 it samples (R92). -/
def State.convTick (sample : BitVec 12) (s : State) : State :=
  let c := s.converter
  let s := { s with marks := { s.marks with conv := true } }
  if c.state == .converting && decide (c.step < 14) then
    { s with converter := { c with
        step := c.step + 1, sample := if c.step = 0 then sample.toNat else c.sample } }
  else s

/-- CONVERTER_TICK. -/
def execConverterTick (sample : BitVec 12) (s : State) : StepResult :=
  happen s.convTickDue s (s.convTick sample)

/-- A conversion stands at step 14 (R92). -/
def State.conversionAtEnd (s : State) : Bool :=
  s.isRunning && s.converter.state == .converting && s.converter.step == 14
    && s.converter.current.isSome

/-- A complete request's result is offered to the result queue, or held (R93). -/
def State.offerResult (r : ConvResult) (s : State) : State :=
  let c := { s.converter with current := none, step := 0, done := 0, sum := 0 }
  if s.writer.queue.length < 4 then
    { s with
      converter := { c with state := .idle }
      writer := { s.writer with queue := s.writer.queue ++ [r] } }
  else { s with converter := { c with state := .holding, held := some r } }

/-- The end of a conversion (R92 step 14, R93). -/
def State.conversionEnd (s : State) : State :=
  match s.converter.current with
  | none => s
  | some q =>
      let sum := s.converter.sum + s.converter.sample
      let done := s.converter.done + 1
      if done < q.oversample then
        { s with converter := { s.converter with step := 0, done := done, sum := sum } }
      else
        (s.offerResult { group := q.group, slot := q.slot, position := q.position, sum := sum }).pump

/-- CONVERSION_END. -/
def execConversionEnd (s : State) : StepResult := happen s.conversionAtEnd s s.conversionEnd

/-! ## Result writes -/

/-- The word a job writes at a position: its result at the result's position, MISSED elsewhere (R105,
R106). -/
def Job.word (p : Nat) : Job → Word16
  | .result r => if p = r.position then resultWord r.sum else missedWord
  | .fill _ _ => missedWord

/-- The position after a job's last: one past the result's, or the fill's target (R105, R106). -/
def Job.limit : Job → Nat
  | .result r => r.position + 1
  | .fill _ target => target

/-- The issue of a result write at its grant (R107). -/
def State.issueWord (s : State) : State :=
  match s.writer.job with
  | none => s
  | some j =>
      match s.entry? j.ref with
      | none => s
      | some e =>
          let w := j.word e.nextPos
          let s' := (s.modEntry j.ref fun e => { e with nextPos := e.nextPos + 1 }).issue
            { requester := .resultWriter
              addr := Seg.resultAddr e.copy + BitVec.ofNat 64 (2 * e.nextPos)
              op := .writeWord w }
          { s' with writer := { s'.writer with write := .onBus, onBus := some ⟨j.ref, w⟩ } }

/-- RESULT_WRITE_ISSUE. -/
def execResultWriteIssue (s : State) : StepResult :=
  happen (s.granted .resultWriter) s s.issueWord

/-- The answered write leaves the bus: the write state becomes none (R107). -/
def State.wordAnswered (s : State) : State :=
  let s := s.answered .resultWriter
  { s with writer := { s.writer with write := .idle, onBus := none } }

/-- The job of a record ends (R104). -/
def State.endJob (ref : EntryRef) (s : State) : State :=
  if s.hasJob ref then { s with writer := { s.writer with job := none } } else s

/-- The job has issued its last write (R107). -/
def Job.finished (nextPos : Nat) (j : Job) : Bool := decide (j.limit ≤ nextPos)

/-- A record whose writes are no longer counted: a removal has made it RETIRING (R108). -/
def State.wordUncounted (s : State) (ref : EntryRef) : Bool :=
  match s.entry? ref with
  | some e => e.st == .retiring
  | none => true

/-- The OK answer to a write of a record that is not RETIRING (R108): the word is counted and taken into
the CRC, and the job goes on or ends. -/
def State.countWord (w : WordOnBus) (s : State) : State :=
  let s' := s.modEntry w.ref fun e =>
    { e with wordsWritten := e.wordsWritten + 1, crc := crcWord e.crc w.word }
  match s.writer.job, s.entry? w.ref with
  | some j, some e => if j.finished e.nextPos then s'.endJob w.ref else s'
  | _, _ => s'

/-- The ERROR answer to a write of a record that is not RETIRING (R108). -/
def State.faultWord (w : WordOnBus) (s : State) : State :=
  (s.modEntry w.ref fun e =>
    { e with flags := { e.flags with resultFault := true }, faulted := true }).endJob w.ref

/-- The answer to the write on the bus, `f` taking it for a record that is not RETIRING. -/
def State.resultAnswered (f : WordOnBus → State → State) (s : State) : State :=
  match s.writer.onBus with
  | none => s.wordAnswered
  | some w => (if s.wordUncounted w.ref then s.wordAnswered else f w s.wordAnswered).pump

/-- RESULT_WRITE_OK. -/
def execResultWriteOk (late : Bool) (s : State) : StepResult :=
  answer late .resultWriter s (s.resultAnswered State.countWord)

/-- RESULT_WRITE_ERROR. -/
def execResultWriteError (late : Bool) (s : State) : StepResult :=
  answer late .resultWriter s (s.resultAnswered State.faultWord)

end Sys2Proof.Machine
end

