-- ==== Sys2Proof/Machine/Fetch.lean ====
section
/-! DEFINITION. Machine/Fetch.lean: the group fetchers (R23 to R25, R8, R9), and the leaving of records and
the queuing of notices (R16 to R19, R44, R45). -/

namespace Sys2Proof.Machine

/-! ## Issue and answers -/

/-- The issue of a read: a FETCHING entry for the slot at the fetch index, which advances (R11, R23). -/
def Group.beginFetch (x : Group) : Group :=
  { x with
    window := x.window ++ [{ slot := x.ring.fetch, st := .fetching }]
    ring := { x.ring with
      fetch := ringNext x.ring.size x.ring.fetch, span := x.ring.span + 1 } }

/-- GROUP_FETCH_ISSUE. -/
def execGroupFetchIssue (g : GroupId) (s : State) : StepResult :=
  let r := (s.group g).ring
  happen (s.granted (.fetcher g)) s
    { ((s.modGroup g Group.beginFetch).issue
        { requester := .fetcher g, addr := slotAddr r.base 64 r.fetch, op := .readRecord }) with
      lastFetcher := g }

/-- The entry an OK answer settles: READY or BAD by the validation of the copy (R1, R8). -/
def Entry.fetched (slot : Slot64) (valid : Bool) (e : Entry) : Entry :=
  if valid then { slot := e.slot, st := .ready, copy := slot }
  else { slot := e.slot, st := .bad, copy := slot, status := some .malformed }

/-- The entry an ERROR answer settles: BAD with FETCH_ERROR and no bytes (R9). -/
def Entry.fetchFailed (e : Entry) : Entry :=
  { slot := e.slot, st := .bad, status := some .fetchError }

/-- Settling the FETCHING entry, where it is still in the window (R24). -/
def Group.settleFetch (f : Entry → Entry) (x : Group) : Group :=
  { x with window := x.window.map fun e => if e.st == .fetching then f e else e }

/-- The oldest entry of the window is BAD. -/
def Group.firstBad (x : Group) : Bool :=
  match x.window.head? with
  | some e => e.st == .bad
  | none => false

/-- A settled read faults an ARMED group whose oldest record is BAD (R27) and a STARVED group whose next
record is BAD (R35). -/
def Group.readFaults (x : Group) : Bool :=
  (x.state == .armed && x.firstBad) || (x.state == .starved && x.nextBad)

/-- The answer to a group's read (R24): dropped when the entry was cancelled; otherwise the entry is
settled, and the group may fault. -/
def State.readAnswered (g : GroupId) (f : Entry → Entry) (s : State) : State :=
  let s := s.answered (.fetcher g)
  if (s.group g).hasFetching then
    let s' := s.modGroup g (Group.settleFetch f)
    if (s'.group g).readFaults then (s'.faultGroup g).pump else s'
  else s

/-- GROUP_READ_OK. -/
def execGroupReadOk (late : Bool) (g : GroupId) (slot : Slot64) (s : State) : StepResult :=
  answer late (.fetcher g) s
    (s.readAnswered g
      (Entry.fetched slot (Seg.valid slot (s.group g).mode (s.boundPairs g).length)))

/-- GROUP_READ_ERROR. -/
def execGroupReadError (late : Bool) (g : GroupId) (s : State) : StepResult :=
  answer late (.fetcher g) s (s.readAnswered g Entry.fetchFailed)

/-! ## Leaving the window -/

/-- The completion entry of a reported record (R18, R188). Its retire index is the one after it left. -/
def Entry.report (g : GroupId) (retire : Nat) (e : Entry) : CplEntry :=
  .segment g (Seg.tag e.copy) (e.status.getD .ok) (Seg.notify e.copy) e.flags retire
    e.wordsWritten e.crc e.capturesLost e.periodsRun e.extensionPeriods

/-- The oldest record can leave but for room: it is RETIRING and no write of its own is on the bus (R16). -/
def State.canRetire (s : State) (g : GroupId) (e : Entry) : Bool :=
  e.st == .retiring && !s.writeOnBus (e.ref g)

/-- The oldest record leaves (R16). -/
def State.leaveDue (s : State) (g : GroupId) : Bool :=
  match (s.group g).window.head? with
  | some e => s.isRunning && s.canRetire g e && (e.silent || decide ((s.group g).queue.length < 4))
  | none => false

/-- The ring after a record has left (R19, R131): the retire index advances, and an emptied window sets it
to the fetch index. -/
def Ring.leave (emptied : Bool) (r : Ring) : Ring :=
  if emptied then { r with retire := r.fetch, span := 0 }
  else { r with retire := ringNext r.size r.retire, span := r.span - 1 }

/-- The oldest record is removed, with its completion entry where it is reported (R16 to R19). -/
def Group.leave (g : GroupId) (x : Group) : Group :=
  match x.window with
  | [] => x
  | e :: rest =>
      let r := x.ring.leave rest.isEmpty
      { x with
        window := rest
        ring := r
        queue := if e.silent then x.queue else x.queue ++ [e.report g r.retire] }

/-- RECORD_LEAVE. -/
def execRecordLeave (g : GroupId) (s : State) : StepResult :=
  happen (s.leaveDue g) s (s.modGroup g (Group.leave g))

/-! ## Notices -/

/-- A record of the group waits only for room (R45): the oldest entry that is not a silent RETIRING record
is RETIRING, has no write of its own on the bus, and is to be reported. -/
def State.recordCompetes (s : State) (g : GroupId) : Bool :=
  match (s.group g).window.find? fun e => !(e.st == .retiring && e.silent) with
  | some e => s.canRetire g e
  | none => false

/-- A notice is queued (R44, R45). -/
def State.noticeDue (s : State) (g : GroupId) : Bool :=
  s.isRunning && !(s.group g).notices.isNone && decide ((s.group g).queue.length < 4)
    && !s.recordCompetes g

/-- The notice joins the holding queue and the set is emptied (R44). -/
def Group.queueNotice (g : GroupId) (x : Group) : Group :=
  { x with
    queue := x.queue ++ [.notice g x.notices x.state x.ring.retire]
    notices := {} }

/-- NOTICE_QUEUE. -/
def execNoticeQueue (g : GroupId) (s : State) : StepResult :=
  happen (s.noticeDue g) s (s.modGroup g (Group.queueNotice g))

end Sys2Proof.Machine
end

