-- ==== Sys2Proof/Machine/Ticks.lean ====
section
/-! DEFINITION. Machine/Ticks.lean: the group ticks. A device clock on which a group's prescaler count is 0
is one group tick, which takes one of three forms: a step inside a period or an idle tick (GROUP_TICK), a
boundary (PERIOD_BOUNDARY), or the resume request of a STARVED group (STARVED_RESUME). DEAD_TIME_EXPIRY
is the second half of the tick for an output whose timer reached 0 (log 7). -/

namespace Sys2Proof.Machine

/-- A counter step inside a period, with the pair units' work and the triggers of the tick. -/
def State.stepTick (g : GroupId) (s : State) : State :=
  match (s.group g).active? with
  | none => s
  | some e =>
      if (s.group g).producing then
        ((s.modGroup g (Group.stepCounter (Seg.period e.copy))).tickOutputs g).triggers g
      else s

/-- GROUP_TICK. -/
def execGroupTick (g : GroupId) (s : State) : StepResult :=
  happen (s.tickDue g && !(s.group g).atBoundary && !(s.group g).atResume) s
    ((s.markTick g).stepTick g)

/-- The boundary decision of group `g` with ACTIVE record `e`, whose period is counted first (R29). -/
def State.boundary (g : GroupId) (e : Entry) (s : State) : State :=
  let e' := { e with periodsRun := satSucc32 e.periodsRun }
  let s' := s.modGroup g fun x =>
    (x.modSlot e.slot fun e => { e with periodsRun := satSucc32 e.periodsRun }).holdCounter
  if (s'.group g).state == .stopping then s'.stoppingBoundary g e' else s'.runningBoundary g e'

/-- The pair units and triggers of a boundary tick, where a record is ACTIVE on it (R60, R84). -/
def State.afterBoundary (g : GroupId) (s : State) : State :=
  if (s.group g).producing then (s.tickOutputs g).triggers g else s

/-- A period boundary (R29). -/
def State.periodBoundary (g : GroupId) (s : State) : State :=
  match (s.group g).active? with
  | none => s
  | some e => (((s.markTick g).boundary g e).afterBoundary g).pump

/-- PERIOD_BOUNDARY. -/
def execPeriodBoundary (g : GroupId) (s : State) : StepResult :=
  happen (s.tickDue g && (s.group g).atBoundary) s (s.periodBoundary g)

/-- DEAD_TIME_EXPIRY. -/
def execDeadTimeExpiry (p : PairId) (o : Output) (s : State) : StepResult :=
  happen (s.expiryDue p o) s (s.setPair p ((s.pair p).expire o))

/-- The resume request of a STARVED group (R35): granted, the record becomes ACTIVE on this tick. -/
def State.resume (g : GroupId) (s : State) : State :=
  match (s.group g).next? with
  | none => s
  | some n =>
      let claims := claimParts n.copy
      match runParts s.tokens (claims ++ startParts n.copy) with
      | none => s
      | some (tokens, sats) =>
          ((({ s with tokens := tokens }.modGroup g
            (Group.beginRecord n.slot ((sats.drop claims.length).any id))).enterOutputs g).triggers g)

/-- STARVED_RESUME. -/
def execStarvedResume (g : GroupId) (s : State) : StepResult :=
  happen (s.tickDue g && (s.group g).atResume) s ((s.markTick g).resume g)

/-- START_SET_FIRE, of the pending set that holds group `g`. -/
def execStartSetFire (g : GroupId) (s : State) : StepResult :=
  happen (s.setDue g) s (s.fireSet g)

end Sys2Proof.Machine
end

