-- ==== Sys2Proof/Machine/Window.lean ====
section
/-! DEFINITION. Machine/Window.lean: the commands of the register window (Chapter 10 and section 8.2):
resets, CTRL.START, events, POST, the ring bases and every other register write. -/

namespace Sys2Proof.Machine

/-! ## Resets and start -/

/-- The state after a power-on reset (R179). The bus keeps its outstanding transactions, whose answers
will be dropped (R150); the waiting commands and the count of device clocks are the model's own. -/
def State.powerOn (s : State) : State :=
  { State.reset with
    rstn := s.rstn, bus := lateBus s.bus, pending := s.pending, clock := s.clock, readData := s.readData }

/-- The state after a controller reset (R178): as after power-on, but for the ring bases, RINGCFG and the
trip unit. -/
def State.controllerReset (s : State) : State :=
  { s.powerOn with
    admBase := s.admBase, cplBase := s.cplBase, admCode := s.admCode, cplCode := s.cplCode
    lines := s.lines, tripPresc := s.tripPresc
    marks := { s.powerOn.marks with trip := s.marks.trip, grant := s.marks.grant } }

/-- The four checks of CTRL.START (R176). -/
def State.geometryLegal (s : State) : Bool :=
  s.admBase.extractLsb' 0 5 == 0 && s.cplBase.extractLsb' 0 5 == 0
    && decide (2 ≤ s.admCode.toNat) && decide (s.admCode.toNat ≤ 8)
    && decide (4 ≤ s.cplCode.toNat) && decide (s.cplCode.toNat ≤ 12)

/-- CTRL.START (R175, R176). -/
def State.ctrlStart (s : State) : State :=
  if s.ctrl == .off then
    if s.geometryLegal then
      { s with
        ctrl := .running
        stat := { s.stat with cfgErr := false }
        admin := { s.admin with tail := 0, fetch := 0 }
        cpl := { s.cpl with write := 0, release := 0, unreleased := 0, lap := true } }
    else { s with stat := { s.stat with cfgErr := true } }
  else s

/-- POWER_ON_RESET: the reset is performed, and RSTn stays LOW or is released with it (R179; log 5). -/
def execPowerOnReset (s : State) (rstn : Level := .high) : StepResult :=
  .next { s.powerOn with rstn := rstn }.settle

/-- CTRL_RESET. -/
def execCtrlReset (s : State) : StepResult := access s s.controllerReset

/-- CTRL_START. -/
def execCtrlStart (s : State) : StepResult := access s s.ctrlStart

/-! ## Events -/

/-- EVT_WRITE. -/
def execEvtWrite (value : Word32) (s : State) : StepResult := access s (s.clearEvt (value.extractLsb' 0 6))

/-- Writing EVTMASK (R184). -/
def State.writeMask (value : Word32) (s : State) : State :=
  { s with evtMask := value.extractLsb' 0 6 }

/-- EVTMASK_WRITE. -/
def execEvtmaskWrite (value : Word32) (s : State) : StepResult := access s (s.writeMask value)

/-! ## POST -/

/-- An ignored POST write (R133): no ring changes, EVT.POSTERR is set and STAT records the write. -/
def State.postIgnored (ring : BitVec 3) (index : Word16) (s : State) : State :=
  { s with stat := { s.stat with postRing := ring, postIndex := index } }.setEvt evtPosterr

/-- A tail posted to a group ring is taken (R133, R134). -/
def State.groupTailAccepted (s : State) (g : GroupId) (index : Nat) : Bool :=
  let r := (s.group g).ring
  let ahead := ringCount r.size r.retire index
  s.isRunning && r.bound && decide (index < r.size) && !(decide (0 < ahead) && decide (ahead < r.span))

/-- A POST write with ring id 0..3 (R134). -/
def State.postGroup (g : GroupId) (index : Word16) (s : State) : State :=
  if s.groupTailAccepted g index.toNat then
    s.modGroup g fun x => { x with ring := { x.ring with tail := index.toNat } }
  else s.postIgnored (BitVec.ofNat 3 g) index

/-- A POST write with ring id 4 (R135). -/
def State.postAdmin (index : Word16) (s : State) : State :=
  if s.isRunning && decide (index.toNat < s.admSize) then
    { s with admin := { s.admin with tail := index.toNat } }
  else s.postIgnored 4 index

/-- The number of entries a posted release index releases (R136). -/
def State.released (s : State) (index : Nat) : Nat :=
  if index = s.cpl.write then s.cpl.unreleased else ringCount s.cplSize s.cpl.release index

/-- A POST write with ring id 5 (R136). -/
def State.postRelease (index : Word16) (s : State) : State :=
  if s.isRunning && decide (index.toNat < s.cplSize)
      && decide (s.released index.toNat ≤ s.cpl.unreleased) then
    { s with cpl := { s.cpl with
        release := index.toNat, unreleased := s.cpl.unreleased - s.released index.toNat } }
  else s.postIgnored 5 index

/-- POST_GROUP_TAIL. -/
def execPostGroupTail (g : GroupId) (index : Word16) (s : State) : StepResult := access s (s.postGroup g index)

/-- POST_ADMIN_TAIL. -/
def execPostAdminTail (index : Word16) (s : State) : StepResult := access s (s.postAdmin index)

/-- POST_COMPLETION_RELEASE. -/
def execPostCompletionRelease (index : Word16) (s : State) : StepResult := access s (s.postRelease index)

/-- A POST write by its ring id (R132, R133 case 2). -/
def State.writePost (value : Word32) (s : State) : State :=
  let index := value.extractLsb' 0 16
  let ring := value.extractLsb' 16 3
  match groupOfCode ring.toNat with
  | some g => s.postGroup g index
  | none =>
      if ring == 4 then s.postAdmin index
      else if ring == 5 then s.postRelease index
      else s.postIgnored ring index

/-! ## The ring bases and the holding word (R180, R181) -/

/-- Writes to the base registers and RINGCFG are acted on only in OFF (R181). -/
def State.whenOff (t : State) (s : State) : State := if s.ctrl == .off then t else s

/-- A write of either _LO register. -/
def State.writeHolding (value : Word32) (s : State) : State := { s with holding := value }

/-- A write of ADMBASE_HI. -/
def State.writeAdmBase (value : Word32) (s : State) : State := { s with admBase := value ++ s.holding }

/-- A write of CPLBASE_HI. -/
def State.writeCplBase (value : Word32) (s : State) : State := { s with cplBase := value ++ s.holding }

/-- A write of RINGCFG. -/
def State.writeRingcfg (value : Word32) (s : State) : State :=
  { s with admCode := value.extractLsb' 0 4, cplCode := value.extractLsb' 8 4 }

/-- ADMBASE_LO_WRITE. -/
def execAdmbaseLoWrite (value : Word32) (s : State) : StepResult :=
  access s (State.whenOff (s.writeHolding value) s)

/-- CPLBASE_LO_WRITE. -/
def execCplbaseLoWrite (value : Word32) (s : State) : StepResult :=
  access s (State.whenOff (s.writeHolding value) s)

/-- ADMBASE_HI_WRITE. -/
def execAdmbaseHiWrite (value : Word32) (s : State) : StepResult :=
  access s (State.whenOff (s.writeAdmBase value) s)

/-- CPLBASE_HI_WRITE. -/
def execCplbaseHiWrite (value : Word32) (s : State) : StepResult :=
  access s (State.whenOff (s.writeCplBase value) s)

/-- A read of a _HI register: the addressed bytes of the base's upper half are returned, and its lower half
becomes the holding word (R180). A narrow read acts as a full one (R173). While the reset pin is asserted
the holding word holds its value (R179). -/
def readHigh (reg : RegName) (base : Addr) (width : ReadWidth) (s : State) : StepResult :=
  .next { s with
    readData := laneBytes (readValue reg s) width
    holding := if s.inReset then s.holding else base.extractLsb' 0 32 }.settle

/-- ADMBASE_HI_READ. -/
def execAdmbaseHiRead (width : ReadWidth) (s : State) : StepResult := readHigh .admbaseHi s.admBase width s

/-- CPLBASE_HI_READ. -/
def execCplbaseHiRead (width : ReadWidth) (s : State) : StepResult := readHigh .cplbaseHi s.cplBase width s

/-! ## Every other write -/

/-- A write of CTRL (R175): RESET wins over START, and a write with neither has no effect. -/
def State.writeCtrl (value : Word32) (s : State) : State :=
  if value.getLsbD 1 then s.controllerReset
  else if value.getLsbD 0 then s.ctrlStart
  else s

/-- A full 32-bit write of a register (R173, Table 10.2). -/
def State.writeReg (reg : RegName) (value : Word32) (s : State) : State :=
  match reg with
  | .devid | .stat => s
  | .ctrl => s.writeCtrl value
  | .evt => s.clearEvt (value.extractLsb' 0 6)
  | .evtmask => s.writeMask value
  | .post => s.writePost value
  | .admbaseLo | .cplbaseLo => State.whenOff (s.writeHolding value) s
  | .admbaseHi => State.whenOff (s.writeAdmBase value) s
  | .cplbaseHi => State.whenOff (s.writeCplBase value) s
  | .ringcfg => State.whenOff (s.writeRingcfg value) s

/-- REGISTER_WRITE: a narrow write is ignored and changes no state (R173). -/
def execRegisterWrite (reg : RegName) (narrow : Bool) (value : Word32) (s : State) : StepResult :=
  if narrow then .next s else access s (s.writeReg reg value)

end Sys2Proof.Machine
end

