-- ==== Sys2Proof/Machine/Clock.lean ====
section
/-! DEFINITION. Machine/Clock.lean: what the block does of itself when no command waits (log 2): its next
due happening, in a fixed order, and, when none is due, the passing of a device clock. -/

namespace Sys2Proof.Machine

/-- The happenings of group `g` that need nothing from outside, but for its fetcher's grant. -/
def State.ownGroup (s : State) (g : GroupId) : List (Bool × Instr) :=
  [ (s.tickDue g && (s.group g).atBoundary, .periodBoundary g),
    (s.tickDue g && (s.group g).atResume, .starvedResume g),
    (s.tickDue g && !(s.group g).atBoundary && !(s.group g).atResume, .groupTick g),
    (s.setDue g, .startSetFire g),
    (s.leaveDue g, .recordLeave g),
    (s.noticeDue g, .noticeQueue g) ]

/-- The input the current request names, for the block's own converter tick. -/
def State.currentInput (s : State) : Nat :=
  match s.converter.current with
  | some r => r.input
  | none => 0

/-- Every happening the block can take of itself, each with its condition, in the order in which it takes
them on a device clock. The levels of the pins are free values of this device clock (log 3). The arbiter's
grant comes last: DESIGN CHOICE (log 30). -/
def State.ownHappenings (s : State) : List (Bool × Instr) :=
  allLines.map (fun l => (!s.inReset && (s.line l).sample.isSome, .filteredLevelChange l))
    ++ [(s.tripSampleDue, .tripSample (Config.tripPins s.clock))]
    ++ allPairs.flatMap (fun p => [(s.expiryDue p .p, .deadTimeExpiry p .p),
        (s.expiryDue p .n, .deadTimeExpiry p .n)])
    ++ [(s.conversionAtEnd, .conversionEnd),
        (s.convTickDue, .converterTick (Config.analogInput s.clock s.currentInput))]
    ++ allGroups.flatMap s.ownGroup
    ++ [(s.granted .completionWriter, .completionWriteIssue),
        (s.granted .resultWriter, .resultWriteIssue),
        (s.granted .adminProcessor, .adminFetchIssue)]
    ++ allGroups.map (fun g => (s.granted (.fetcher g), .groupFetchIssue g))

/-- The block's next due happening. -/
def State.nextOwn (s : State) : Option Instr :=
  (s.ownHappenings.find? fun h => h.1).map fun h => h.2

/-- A group's prescaler when a device clock passes (R47): it advances while the controller is RUNNING, is
held at 0 in OFF and frozen in HALTED. -/
def Group.passClock (ctrl : Ctrl) (x : Group) : Group :=
  match ctrl with
  | .running => { x with presc := (x.presc + 1) % 2 ^ x.d }
  | .off => { x with presc := 0 }
  | .halted => x

/-- The converter's prescaler when a device clock passes (R90). -/
def Converter.passClock (ctrl : Ctrl) (c : Converter) : Converter :=
  match ctrl with
  | .running => { c with presc := (c.presc + 1) % (2 * c.k) }
  | .off => { c with presc := 0 }
  | .halted => c

/-- A device clock passes: the prescaler counts advance, the trip unit's in every controller state (R116)
but not while the reset pin is asserted (R115), and the marks of the device clock are cleared. -/
def State.passClock (s : State) : State :=
  { s with
    groups := Vector.ofFn fun g => (s.group g).passClock s.ctrl
    converter := s.converter.passClock s.ctrl
    tripPresc := if s.inReset then s.tripPresc else (s.tripPresc + 1) % 8
    sets := s.sets.map fun t => { t with asked := false }
    marks := {}
    clock := s.clock + 1 }

end Sys2Proof.Machine
end

