-- ==== Sys2Proof/Machine/Dispatch.lean ====
section
/-! DEFINITION. Machine/Dispatch.lean: one arm per command, each a direct call of its meaning. -/

namespace Sys2Proof.Machine

def exec (i : Instr) (s : State) : Host.Outcome State Fault Refusal :=
  match i with
  | .powerOnReset rstn => Sys2Proof.Machine.execPowerOnReset s rstn
  | .ctrlReset => Sys2Proof.Machine.execCtrlReset s
  | .ctrlStart => Sys2Proof.Machine.execCtrlStart s
  | .evtWrite value => Sys2Proof.Machine.execEvtWrite value s
  | .evtmaskWrite value => Sys2Proof.Machine.execEvtmaskWrite value s
  | .postGroupTail g index => Sys2Proof.Machine.execPostGroupTail g index s
  | .postAdminTail index => Sys2Proof.Machine.execPostAdminTail index s
  | .postCompletionRelease index => Sys2Proof.Machine.execPostCompletionRelease index s
  | .admbaseLoWrite value => Sys2Proof.Machine.execAdmbaseLoWrite value s
  | .cplbaseLoWrite value => Sys2Proof.Machine.execCplbaseLoWrite value s
  | .admbaseHiWrite value => Sys2Proof.Machine.execAdmbaseHiWrite value s
  | .cplbaseHiWrite value => Sys2Proof.Machine.execCplbaseHiWrite value s
  | .admbaseHiRead width => Sys2Proof.Machine.execAdmbaseHiRead width s
  | .cplbaseHiRead width => Sys2Proof.Machine.execCplbaseHiRead width s
  | .registerWrite reg narrow value => Sys2Proof.Machine.execRegisterWrite reg narrow value s
  | .groupFetchIssue g => Sys2Proof.Machine.execGroupFetchIssue g s
  | .groupReadOk late g slot => Sys2Proof.Machine.execGroupReadOk late g slot s
  | .groupReadError late g => Sys2Proof.Machine.execGroupReadError late g s
  | .groupTick g => Sys2Proof.Machine.execGroupTick g s
  | .periodBoundary g => Sys2Proof.Machine.execPeriodBoundary g s
  | .deadTimeExpiry p o => Sys2Proof.Machine.execDeadTimeExpiry p o s
  | .starvedResume g => Sys2Proof.Machine.execStarvedResume g s
  | .startSetFire g => Sys2Proof.Machine.execStartSetFire g s
  | .converterTick sample => Sys2Proof.Machine.execConverterTick sample s
  | .conversionEnd => Sys2Proof.Machine.execConversionEnd s
  | .resultWriteIssue => Sys2Proof.Machine.execResultWriteIssue s
  | .resultWriteOk late => Sys2Proof.Machine.execResultWriteOk late s
  | .resultWriteError late => Sys2Proof.Machine.execResultWriteError late s
  | .recordLeave g => Sys2Proof.Machine.execRecordLeave g s
  | .noticeQueue g => Sys2Proof.Machine.execNoticeQueue g s
  | .adminFetchIssue => Sys2Proof.Machine.execAdminFetchIssue s
  | .adminReadError late => Sys2Proof.Machine.execAdminReadError late s
  | .completionWriteIssue => Sys2Proof.Machine.execCompletionWriteIssue s
  | .completionWriteOk late => Sys2Proof.Machine.execCompletionWriteOk late s
  | .completionWriteError late => Sys2Proof.Machine.execCompletionWriteError late s
  | .tripSample pins => Sys2Proof.Machine.execTripSample pins s
  | .filteredLevelChange l => Sys2Proof.Machine.execFilteredLevelChange l s
  | .bindRing late cmd => Sys2Proof.Machine.execBindRing late cmd s
  | .unbindRing late cmd => Sys2Proof.Machine.execUnbindRing late cmd s
  | .setGroup late cmd => Sys2Proof.Machine.execSetGroup late cmd s
  | .setPair late cmd => Sys2Proof.Machine.execSetPair late cmd s
  | .setConverter late cmd => Sys2Proof.Machine.execSetConverter late cmd s
  | .setTrip late cmd => Sys2Proof.Machine.execSetTrip late cmd s
  | .start late cmd => Sys2Proof.Machine.execStart late cmd s
  | .stop late cmd => Sys2Proof.Machine.execStop late cmd s
  | .abort late cmd => Sys2Proof.Machine.execAbort late cmd s
  | .setToken late cmd => Sys2Proof.Machine.execSetToken late cmd s
  | .clearTrip late cmd => Sys2Proof.Machine.execClearTrip late cmd s
  | .queryGroup late cmd => Sys2Proof.Machine.execQueryGroup late cmd s
  | .queryTokens late cmd => Sys2Proof.Machine.execQueryTokens late cmd s
  | .queryTrips late cmd => Sys2Proof.Machine.execQueryTrips late cmd s
  | .queryConverter late cmd => Sys2Proof.Machine.execQueryConverter late cmd s
  | .unknown late cmd => Sys2Proof.Machine.execUnknown late cmd s

end Sys2Proof.Machine
end

