-- ==== Sys2Proof/Machine/Step.lean ====
section
/-! DEFINITION. Machine/Step.lean: one step of the block. It takes the command at the front of the queue; on
an empty queue the block takes its own next due happening, or a device clock passes (log 2). -/

namespace Sys2Proof.Machine

/-- One step. -/
def step (s : State) : Host.Outcome State Fault Refusal :=
  match s.pending with
  | c :: rest => exec c { s with pending := rest }
  | [] =>
      match s.nextOwn with
      | some c => exec c s
      | none => .next s.passClock

/-- The state with the command that a word spells in front of its queue. No row of the table has bits, so
no word spells a command and the state is unchanged (log 29). -/
def State.withFetchWord (s : State) (nbits w : Nat) : State :=
  match decodeTableWord nbits w with
  | some c => { s with pending := c :: s.pending }
  | none => s

end Sys2Proof.Machine
end

