-- ==== Sys2Proof/Laws/PerInstr.lean ====
section
/-! SUPPORT. Laws/PerInstr.lean: statements about each command as syntax. AdminRowFixesOpcode: the slot of a
well-formed administrative row has the opcode byte of that row (Table 11.7), and the slot of UNKNOWN has
none of the twelve. -/

namespace Sys2Proof.Laws

/-- The slot a command carries. -/
def slotOf : Instr → Option Slot32
  | .bindRing _ c | .unbindRing _ c | .setGroup _ c | .setPair _ c | .setConverter _ c | .setTrip _ c | .start _ c | .stop _ c
  | .abort _ c | .setToken _ c | .clearTrip _ c | .queryGroup _ c | .queryTokens _ c | .queryTrips _ c | .queryConverter _ c | .unknown _ c => some c
  | _ => none

/-- The opcode of an administrative row (Table 11.7). UNKNOWN has none. -/
def rowOpcode : Instr → Option Byte
  | .bindRing _ _ => some 1
  | .unbindRing _ _ => some 2
  | .setGroup _ _ => some 3
  | .setPair _ _ => some 4
  | .setConverter _ _ => some 5
  | .setTrip _ _ => some 6
  | .start _ _ => some 7
  | .stop _ _ => some 8
  | .abort _ _ => some 9
  | .setToken _ _ => some 10
  | .clearTrip _ _ => some 11
  | .queryGroup _ _ => some 12
  | .queryTokens _ _ => some 12
  | .queryTrips _ _ => some 12
  | .queryConverter _ _ => some 12
  | _ => none

/-- The opcode byte of the slot is the row's, and of UNKNOWN none of 1..12. -/
def AdminRowFixesOpcode.Statement (i : Instr) : Prop :=
  i.wellFormed = true → ∀ c : Slot32, slotOf i = some c →
    match rowOpcode i with
    | some op => opcodeOf c = op
    | none => ¬(1 ≤ (opcodeOf c).toNat ∧ (opcodeOf c).toNat ≤ 12)

theorem admin_row_of_no_slot {i : Instr} (h : slotOf i = none) : AdminRowFixesOpcode.Statement i :=
  fun _ _ hc => nomatch h.symm.trans hc

theorem admin_row_of_slot {i : Instr} {c : Slot32} {op : Byte} (hs : slotOf i = some c)
    (ho : rowOpcode i = some op) (hw : i.wellFormed = true → opcodeOf c = op) :
    AdminRowFixesOpcode.Statement i := by
  intro h d hd
  obtain rfl : c = d := Option.some.inj (hs.symm.trans hd)
  rw [ho]
  exact hw h

theorem AdminRowFixesOpcode.powerOnReset (a) :
    AdminRowFixesOpcode.Statement (.powerOnReset a) := admin_row_of_no_slot rfl
theorem AdminRowFixesOpcode.ctrlReset :
    AdminRowFixesOpcode.Statement (.ctrlReset) := admin_row_of_no_slot rfl
theorem AdminRowFixesOpcode.ctrlStart :
    AdminRowFixesOpcode.Statement (.ctrlStart) := admin_row_of_no_slot rfl
theorem AdminRowFixesOpcode.evtWrite (a) :
    AdminRowFixesOpcode.Statement (.evtWrite a) := admin_row_of_no_slot rfl
theorem AdminRowFixesOpcode.evtmaskWrite (a) :
    AdminRowFixesOpcode.Statement (.evtmaskWrite a) := admin_row_of_no_slot rfl
theorem AdminRowFixesOpcode.postGroupTail (a b) :
    AdminRowFixesOpcode.Statement (.postGroupTail a b) := admin_row_of_no_slot rfl
theorem AdminRowFixesOpcode.postAdminTail (a) :
    AdminRowFixesOpcode.Statement (.postAdminTail a) := admin_row_of_no_slot rfl
theorem AdminRowFixesOpcode.postCompletionRelease (a) :
    AdminRowFixesOpcode.Statement (.postCompletionRelease a) := admin_row_of_no_slot rfl
theorem AdminRowFixesOpcode.admbaseLoWrite (a) :
    AdminRowFixesOpcode.Statement (.admbaseLoWrite a) := admin_row_of_no_slot rfl
theorem AdminRowFixesOpcode.cplbaseLoWrite (a) :
    AdminRowFixesOpcode.Statement (.cplbaseLoWrite a) := admin_row_of_no_slot rfl
theorem AdminRowFixesOpcode.admbaseHiWrite (a) :
    AdminRowFixesOpcode.Statement (.admbaseHiWrite a) := admin_row_of_no_slot rfl
theorem AdminRowFixesOpcode.cplbaseHiWrite (a) :
    AdminRowFixesOpcode.Statement (.cplbaseHiWrite a) := admin_row_of_no_slot rfl
theorem AdminRowFixesOpcode.admbaseHiRead (a) :
    AdminRowFixesOpcode.Statement (.admbaseHiRead a) := admin_row_of_no_slot rfl
theorem AdminRowFixesOpcode.cplbaseHiRead (a) :
    AdminRowFixesOpcode.Statement (.cplbaseHiRead a) := admin_row_of_no_slot rfl
theorem AdminRowFixesOpcode.registerWrite (a b c) :
    AdminRowFixesOpcode.Statement (.registerWrite a b c) := admin_row_of_no_slot rfl
theorem AdminRowFixesOpcode.groupFetchIssue (a) :
    AdminRowFixesOpcode.Statement (.groupFetchIssue a) := admin_row_of_no_slot rfl
theorem AdminRowFixesOpcode.groupReadOk (a b c) :
    AdminRowFixesOpcode.Statement (.groupReadOk a b c) := admin_row_of_no_slot rfl
theorem AdminRowFixesOpcode.groupReadError (a b) :
    AdminRowFixesOpcode.Statement (.groupReadError a b) := admin_row_of_no_slot rfl
theorem AdminRowFixesOpcode.groupTick (a) :
    AdminRowFixesOpcode.Statement (.groupTick a) := admin_row_of_no_slot rfl
theorem AdminRowFixesOpcode.periodBoundary (a) :
    AdminRowFixesOpcode.Statement (.periodBoundary a) := admin_row_of_no_slot rfl
theorem AdminRowFixesOpcode.deadTimeExpiry (a b) :
    AdminRowFixesOpcode.Statement (.deadTimeExpiry a b) := admin_row_of_no_slot rfl
theorem AdminRowFixesOpcode.starvedResume (a) :
    AdminRowFixesOpcode.Statement (.starvedResume a) := admin_row_of_no_slot rfl
theorem AdminRowFixesOpcode.startSetFire (a) :
    AdminRowFixesOpcode.Statement (.startSetFire a) := admin_row_of_no_slot rfl
theorem AdminRowFixesOpcode.converterTick (a) :
    AdminRowFixesOpcode.Statement (.converterTick a) := admin_row_of_no_slot rfl
theorem AdminRowFixesOpcode.conversionEnd :
    AdminRowFixesOpcode.Statement (.conversionEnd) := admin_row_of_no_slot rfl
theorem AdminRowFixesOpcode.resultWriteIssue :
    AdminRowFixesOpcode.Statement (.resultWriteIssue) := admin_row_of_no_slot rfl
theorem AdminRowFixesOpcode.resultWriteOk (a) :
    AdminRowFixesOpcode.Statement (.resultWriteOk a) := admin_row_of_no_slot rfl
theorem AdminRowFixesOpcode.resultWriteError (a) :
    AdminRowFixesOpcode.Statement (.resultWriteError a) := admin_row_of_no_slot rfl
theorem AdminRowFixesOpcode.recordLeave (a) :
    AdminRowFixesOpcode.Statement (.recordLeave a) := admin_row_of_no_slot rfl
theorem AdminRowFixesOpcode.noticeQueue (a) :
    AdminRowFixesOpcode.Statement (.noticeQueue a) := admin_row_of_no_slot rfl
theorem AdminRowFixesOpcode.adminFetchIssue :
    AdminRowFixesOpcode.Statement (.adminFetchIssue) := admin_row_of_no_slot rfl
theorem AdminRowFixesOpcode.adminReadError (a) :
    AdminRowFixesOpcode.Statement (.adminReadError a) := admin_row_of_no_slot rfl
theorem AdminRowFixesOpcode.completionWriteIssue :
    AdminRowFixesOpcode.Statement (.completionWriteIssue) := admin_row_of_no_slot rfl
theorem AdminRowFixesOpcode.completionWriteOk (a) :
    AdminRowFixesOpcode.Statement (.completionWriteOk a) := admin_row_of_no_slot rfl
theorem AdminRowFixesOpcode.completionWriteError (a) :
    AdminRowFixesOpcode.Statement (.completionWriteError a) := admin_row_of_no_slot rfl
theorem AdminRowFixesOpcode.tripSample (a) :
    AdminRowFixesOpcode.Statement (.tripSample a) := admin_row_of_no_slot rfl
theorem AdminRowFixesOpcode.filteredLevelChange (a) :
    AdminRowFixesOpcode.Statement (.filteredLevelChange a) := admin_row_of_no_slot rfl
theorem AdminRowFixesOpcode.bindRing (a b) :
    AdminRowFixesOpcode.Statement (.bindRing a b) := admin_row_of_slot rfl rfl eq_of_beq
theorem AdminRowFixesOpcode.unbindRing (a b) :
    AdminRowFixesOpcode.Statement (.unbindRing a b) := admin_row_of_slot rfl rfl eq_of_beq
theorem AdminRowFixesOpcode.setGroup (a b) :
    AdminRowFixesOpcode.Statement (.setGroup a b) := admin_row_of_slot rfl rfl eq_of_beq
theorem AdminRowFixesOpcode.setPair (a b) :
    AdminRowFixesOpcode.Statement (.setPair a b) := admin_row_of_slot rfl rfl eq_of_beq
theorem AdminRowFixesOpcode.setConverter (a b) :
    AdminRowFixesOpcode.Statement (.setConverter a b) := admin_row_of_slot rfl rfl eq_of_beq
theorem AdminRowFixesOpcode.setTrip (a b) :
    AdminRowFixesOpcode.Statement (.setTrip a b) := admin_row_of_slot rfl rfl eq_of_beq
theorem AdminRowFixesOpcode.start (a b) :
    AdminRowFixesOpcode.Statement (.start a b) := admin_row_of_slot rfl rfl eq_of_beq
theorem AdminRowFixesOpcode.stop (a b) :
    AdminRowFixesOpcode.Statement (.stop a b) := admin_row_of_slot rfl rfl eq_of_beq
theorem AdminRowFixesOpcode.abort (a b) :
    AdminRowFixesOpcode.Statement (.abort a b) := admin_row_of_slot rfl rfl eq_of_beq
theorem AdminRowFixesOpcode.setToken (a b) :
    AdminRowFixesOpcode.Statement (.setToken a b) := admin_row_of_slot rfl rfl eq_of_beq
theorem AdminRowFixesOpcode.clearTrip (a b) :
    AdminRowFixesOpcode.Statement (.clearTrip a b) := admin_row_of_slot rfl rfl eq_of_beq
theorem AdminRowFixesOpcode.queryGroup (a b) :
    AdminRowFixesOpcode.Statement (.queryGroup a b) := admin_row_of_slot rfl rfl fun h => by
  have h : (opcodeOf b == 0x0C && targetOf b != 1 && targetOf b != 2 && targetOf b != 3) = true := h
  simp_all
theorem AdminRowFixesOpcode.queryTokens (a b) :
    AdminRowFixesOpcode.Statement (.queryTokens a b) := admin_row_of_slot rfl rfl fun h => by
  have h : (opcodeOf b == 0x0C && targetOf b == 1) = true := h
  simp_all
theorem AdminRowFixesOpcode.queryTrips (a b) :
    AdminRowFixesOpcode.Statement (.queryTrips a b) := admin_row_of_slot rfl rfl fun h => by
  have h : (opcodeOf b == 0x0C && targetOf b == 2) = true := h
  simp_all
theorem AdminRowFixesOpcode.queryConverter (a b) :
    AdminRowFixesOpcode.Statement (.queryConverter a b) := admin_row_of_slot rfl rfl fun h => by
  have h : (opcodeOf b == 0x0C && targetOf b == 3) = true := h
  simp_all
theorem AdminRowFixesOpcode.unknown (a b) :
    AdminRowFixesOpcode.Statement (.unknown a b) := by
  intro h c hc
  obtain rfl : b = c := Option.some.inj hc
  have h : (opcodeOf b == 0x00 || decide (0x0C < (opcodeOf b).toNat)) = true := h
  simp only [Bool.or_eq_true, beq_iff_eq, decide_eq_true_eq] at h
  simp only [rowOpcode, not_and, Nat.not_le]
  rcases h with h | h <;> simp_all

end Sys2Proof.Laws
end

