-- ==== Sys2Proof/Safety.lean ====
section
/-! DEFINITION. Safety.lean: the laws that a good state of the block keeps, in the terms the statements use.
The manual numbers twelve of them ("the first law of the device" and so on). -/

namespace Sys2Proof.Machine

/-! ## What a state shows at the end of a happening -/

/-- Every happening has run to its end: IRQ follows EVT and EVTMASK (R184), each pair shows its selection
(R58, R59), and a requester is ASKING exactly while its own conditions hold (R107, R137, R142). -/
abbrev Settled (s : State) : Prop := s.settle = s

/-! ## Laws of the tables and queues -/

/-- The fourth law (R65): every token count lies in 0..255. -/
abbrev TokensInRange (s : State) : Prop := ∀ t : TokenId, s.token t ≤ 255

/-- Capacities: sixteen requests and four results (R87, R103), four entries in a group's holding queue
(R140), four pending sets (R72). -/
abbrev QueuesBounded (s : State) : Prop :=
  s.captureQueue.length ≤ 16 ∧ s.writer.queue.length ≤ 4 ∧ s.sets.length ≤ 4
    ∧ ∀ g : GroupId, (s.group g).queue.length ≤ 4

/-- A line whose mask is not empty and whose filtered level is active is latched (R118). -/
abbrev LatchLaw (s : State) : Prop :=
  ∀ l : LineId, (s.line l).mask ≠ 0 → (s.line l).filtered = true → (s.line l).latch = true

/-- The number of pending sets that name a group. -/
def State.setsNaming (s : State) (g : GroupId) : Nat :=
  (s.sets.filter fun t => t.members.getLsbD g).length

/-- Every ARMED group is a member of exactly one pending set, and no other group is a member (R72). -/
abbrev SetLaw (s : State) : Prop :=
  ∀ g : GroupId, s.setsNaming g = if (s.group g).state = .armed then 1 else 0

/-! ## Laws of a group -/

/-- A group state in which every record of the window is RETIRING (R21). -/
def GroupState.atRest : GroupState → Bool
  | .unbound | .stopped | .tripped | .faulted => true
  | .armed | .running | .starved | .stopping => false

/-- The twelfth law (R21), with what an ARMED group's window may hold (R27). -/
abbrev Group.RestLaw (x : Group) : Prop :=
  (x.state.atRest = true → ∀ e ∈ x.window, e.st = .retiring)
    ∧ (x.state = .armed → ∀ e ∈ x.window, e.isWaiting = true)

/-- The twelfth law for every group. -/
abbrev RestLaw (s : State) : Prop := ∀ g : GroupId, (s.group g).RestLaw

/-- The number of FETCHING entries of a window. -/
def Group.fetchingCount (x : Group) : Nat := (x.window.filter fun e => e.st == .fetching).length

/-- Of the first law (R10): at most six entries, of which at most one is FETCHING. -/
abbrev WindowLaw (s : State) : Prop :=
  ∀ g : GroupId, (s.group g).window.length ≤ 6 ∧ (s.group g).fetchingCount ≤ 1

/-- Where the states of a window stand, from its old end (R10): DRAINING and RETIRING, then ACTIVE, then READY
and BAD, then FETCHING. -/
def EntryState.place : EntryState → Nat
  | .draining | .retiring => 0
  | .active => 1
  | .ready | .bad => 2
  | .fetching => 3

/-- The rest of the first law (R10): no entry stands before one whose place is nearer the old end. -/
abbrev OrderLaw (s : State) : Prop :=
  ∀ g : GroupId, (s.group g).window.Pairwise fun a b => a.st.place ≤ b.st.place

/-- A status is fixed when a record becomes BAD, when its run ends or when it is retired, and not before (R8, R9,
R13): a DRAINING record has ended OK or CUT, and a RETIRING one has the status it is reported with (R20). -/
abbrev Entry.StatusLaw (e : Entry) : Prop :=
  (e.st = .fetching ∨ e.st = .ready ∨ e.st = .active → e.status = none)
    ∧ (e.st = .bad → e.status = some .malformed ∨ e.status = some .fetchError)
    ∧ (e.st = .draining → e.status = some .ok ∨ e.status = some .cut)
    ∧ (e.st = .retiring → e.status.isSome = true)

/-- Every entry of every window keeps it. -/
abbrev StatusLaw (s : State) : Prop := ∀ g : GroupId, ∀ e ∈ (s.group g).window, e.StatusLaw

/-- The number of ACTIVE entries of a window. -/
def Group.activeCount (x : Group) : Nat := (x.window.filter fun e => e.st == .active).length

/-- Of the first law (R10): a RUNNING group has its one ACTIVE record, a STOPPING group at most one, every
other group none; and a stop is pending only in a STOPPING group with an ACTIVE record (R21). Without an ACTIVE
record the counter holds 0 (R26), and the slope is UP (R50). -/
abbrev Group.ActiveLaw (x : Group) : Prop :=
  (x.state = .running → x.activeCount = 1)
    ∧ (x.state = .stopping → x.activeCount ≤ 1)
    ∧ (x.state ≠ .running → x.state ≠ .stopping → x.activeCount = 0)
    ∧ (x.pendingStop ≠ .noStop → x.state = .stopping ∧ x.activeCount = 1)
    ∧ (x.activeCount = 0 → x.counter = 0 ∧ x.slope = .up)

/-- Every group keeps it. -/
abbrev ActiveLaw (s : State) : Prop := ∀ g : GroupId, (s.group g).ActiveLaw

/-! ## Laws of the pair units -/

/-- An output that is active has an active source, and no configured pair of levels makes both outputs
active (R54, R56, R57). -/
abbrev PairUnit.Law (u : PairUnit) : Prop :=
  u.idle.legal u.mode = true ∧ u.safe.legal u.mode = true
    ∧ (u.mode.delays = true →
        (u.outP.delayed = true → u.raw = true) ∧ (u.outN.delayed = true → u.raw = false))

/-- Every pair unit keeps its law. -/
abbrev PairLaw (s : State) : Prop := ∀ p : PairId, (s.pair p).Law

/-- The levels of the two outputs while a pair shows its waveform, mode by mode (Table 3.4, R53): the delayed
outputs in COMP, their opposites in COMP_INV, the raw compare on both in SAME, and on P alone in P_ONLY. -/
def waveformPins (u : PairUnit) : Levels :=
  match u.mode with
  | .comp =>
      ⟨if u.outP.delayed then .high else .low, if u.outN.delayed then .high else .low⟩
  | .compInv =>
      ⟨if u.outP.delayed then .low else .high, if u.outN.delayed then .low else .high⟩
  | .same => if u.raw then ⟨.high, .high⟩ else ⟨.low, .low⟩
  | .pOnly => if u.raw then ⟨.high, .low⟩ else ⟨.low, .low⟩

/-- Both outputs at the active level of the pair's mode. -/
abbrev PairUnit.bothActive (u : PairUnit) : Prop :=
  u.pins.p = u.mode.activeLevel ∧ u.pins.n = u.mode.activeLevel

/-! ## Laws of the capture path -/

/-- The states of the converter and the writer tell what they hold (R91 to R94, R107), and no consequence is left
undone: an IDLE converter finds no request waiting (R91), a HOLDING one finds the result queue full (R93,
R94), the writer is without a job only where no work waits (R104), and a DRAINING record has work in hand or
stands in the fill list (R106, R110). Nor is a STOPPING group left whose records are all RETIRING (R38). -/
abbrev CaptureLaw (s : State) : Prop :=
  (s.converter.state = .converting ↔ s.converter.current.isSome = true)
    ∧ (s.converter.state = .holding ↔ s.converter.held.isSome = true)
    ∧ (s.converter.state = .idle → s.captureQueue = [])
    ∧ (s.converter.state = .holding → s.writer.queue.length = 4)
    ∧ (s.writer.job = none → s.writer.queue = [] ∧ s.writer.fill = [])
    ∧ (s.writer.onBus.isSome = true → s.writer.write = .onBus)
    ∧ (s.converter.state ≠ .converting → s.converter.step = 0 ∧ s.converter.done = 0 ∧ s.converter.sum = 0)
    ∧ ∀ g : GroupId, ((s.group g).state = .stopping → (s.group g).allRetiring = false)
        ∧ ∀ e ∈ (s.group g).window, e.st = .draining →
            s.inHand (e.ref g) = true ∨ s.inFill (e.ref g) = true

/-- The record that capture work at `position` belongs to: ACTIVE or DRAINING in its group's window (R87), with
the position below its result capacity (R83). -/
abbrev State.serves (s : State) (ref : EntryRef) (position : Nat) : Prop :=
  ∃ e ∈ (s.group ref.group).window, e.slot = ref.slot ∧ (e.st = .active ∨ e.st = .draining)
    ∧ position < Seg.capacity e.copy

/-- The fifth law (R87), for all capture work: each request, conversion, held result, queued result, listed fill
and current job belongs to a record that is ACTIVE or DRAINING, a fill to one that is DRAINING, and none but
the fill waits where a fill is listed (R106). -/
structure OwnerLaw (s : State) : Prop where
  requests : ∀ q ∈ s.captureQueue, s.serves q.ref q.position
  current : ∀ q ∈ s.converter.current, s.serves q.ref q.position
  held : ∀ r ∈ s.converter.held, s.serves r.ref r.position
  results : ∀ r ∈ s.writer.queue, s.serves r.ref r.position
  fill : s.writer.fill.Nodup ∧ ∀ ref ∈ s.writer.fill, s.inHand ref = false ∧
    ∃ e ∈ (s.group ref.group).window, e.slot = ref.slot ∧ e.st = .draining ∧ e.owes = true
  resultJob : ∀ r, s.writer.job = some (.result r) → s.serves r.ref r.position
  fillJob : ∀ ref target, s.writer.job = some (.fill ref target) →
    ∃ e ∈ (s.group ref.group).window, e.slot = ref.slot ∧ e.st = .draining ∧ target = e.triggered
  /-- A write on the bus is the current job's, or its record's work has been removed (R111). -/
  onBus : ∀ w ∈ s.writer.onBus,
    ∃ e ∈ (s.group w.ref.group).window, e.slot = w.ref.slot ∧ (e.st = .retiring ∨ s.hasJob w.ref = true)

/-- Capture point `j` of a record has been reached in the present period (R82): its value, and in CENTRE mode
its slope, is the counter's or lies before it. -/
def Group.reached (x : Group) (c : Slot64) (j : Nat) : Bool :=
  match x.mode, Seg.pointSlope c j == 1 with
  | .edge, _ => decide (Seg.pointValue c j ≤ x.counter)
  | .centre, false => x.slope == .down || decide (Seg.pointValue c j ≤ x.counter)
  | .centre, true => x.slope == .down && decide (x.counter ≤ Seg.pointValue c j)

/-- The positions an ACTIVE record has triggered below its capacity (R83): those of its past periods, and those
of the points reached in this one. -/
def Group.positionsReached (x : Group) (e : Entry) : Nat :=
  min (e.periodsRun * Seg.pointCount e.copy) (Seg.capacity e.copy)
    + ((List.range 4).filter fun j =>
        decide (j < Seg.pointCount e.copy) && x.reached e.copy j
          && decide (e.periodsRun * Seg.pointCount e.copy + j < Seg.capacity e.copy)).length

/-- The sixth law (R107) and the counts under it (R83, R108): a record's triggered count and its next position
never exceed its result capacity, the words counted are words issued, a record that has not run has none,
and the job that asks for a write has a position left to write. -/
abbrev PositionLaw (s : State) : Prop :=
  (∀ g : GroupId, ∀ e ∈ (s.group g).window,
      e.triggered ≤ Seg.capacity e.copy ∧ e.nextPos ≤ Seg.capacity e.copy
        ∧ e.wordsWritten + (if s.writeOnBus (e.ref g) then 1 else 0) ≤ e.nextPos
        ∧ (e.st = .active → e.triggered ≤ (s.group g).positionsReached e)
        ∧ (e.isWaiting = true → e.triggered = 0 ∧ e.nextPos = 0 ∧ e.periodsRun = 0))
    ∧ ∀ j ∈ s.writer.job, ∀ e ∈ s.entry? j.ref,
        e.nextPos < j.limit ∨ (s.writeOnBus j.ref = true ∧ e.nextPos ≤ j.limit)

/-! ## Laws of the completion path and the bus port -/

/-- The seventh law (R142): the entries written and not yet released never exceed the ring's size. In OFF
none is unreleased. -/
abbrev CompletionLaw (s : State) : Prop :=
  s.cpl.unreleased ≤ s.cplSize ∧ (s.ctrl = .off → s.cpl.unreleased = 0)

/-- The number of a requester's outstanding transactions issued since the last reset. -/
def State.outstandingCount (s : State) (r : Requester) : Nat :=
  (s.bus.filter fun t => t.requester == r && !t.late).length

/-- Each requester has at most one transaction outstanding (R146), and while one of the three writers and
processors has one it is ON_BUS. The admin holding queue has room for the entry of the command on the
bus (R137). -/
abbrev BusLaw (s : State) : Prop :=
  (∀ g : GroupId, s.outstandingCount (.fetcher g) ≤ 1)
    ∧ s.outstandingCount .completionWriter ≤ (if s.cpl.state = .onBus then 1 else 0)
    ∧ s.outstandingCount .resultWriter ≤ (if s.writer.write = .onBus then 1 else 0)
    ∧ s.outstandingCount .adminProcessor ≤ (if s.admin.state = .onBus then 1 else 0)
    ∧ s.admin.queue.length + s.outstandingCount .adminProcessor ≤ 4

/-! ## Laws of the trip unit -/

/-- While the controller is RUNNING, a bound group is TRIPPED exactly while its trip condition holds
(R122); in OFF every group is UNBOUND (R21). -/
abbrev TripLaw (s : State) : Prop :=
  (s.ctrl = .running → ∀ g : GroupId,
      if (s.group g).state = .unbound then True
      else ((s.group g).state = .tripped ↔ s.tripCondition g = true))
    ∧ (s.ctrl = .off → ∀ g : GroupId, (s.group g).state = .unbound)

/-! ## Laws of a group ring -/

/-- A group state in which the group's fetcher may read (R23). -/
def GroupState.fetches : GroupState → Bool
  | .armed | .running | .starved => true
  | .unbound | .stopped | .stopping | .tripped | .faulted => false

/-- A group state in which every slot of the window span is a window entry's (R131). -/
def GroupState.spansWindow : GroupState → Bool
  | .armed | .running | .starved | .stopping => true
  | .unbound | .stopped | .tripped | .faulted => false

/-- The window and the indices of a group ring: the entries stand in ring order from the retire index
(R10, R19), the fetch index lies the window span ahead of it (R131), a FETCHING entry is the youngest, and
the tail lies behind no fetched slot, which with R134 is the eleventh law (R19). -/
abbrev Group.RingLaw (x : Group) : Prop :=
  (x.ring.retire < x.ring.size ∧ x.ring.tail < x.ring.size ∧ x.ring.span ≤ x.ring.size)
    ∧ x.ring.fetch = (x.ring.retire + x.ring.span) % x.ring.size
    ∧ x.window.map Entry.slot
        = (List.range x.window.length).map (fun i => (x.ring.retire + i) % x.ring.size)
    ∧ x.window.length ≤ x.ring.span
    ∧ (x.window = [] → x.ring.span = 0)
    ∧ (x.state.spansWindow = true → x.ring.span = x.window.length)
    ∧ (∀ e ∈ x.window.dropLast, e.st ≠ .fetching)
    ∧ (∀ e ∈ x.window, e.st = .fetching → x.state.fetches = true)
    ∧ (ringCount x.ring.size x.ring.retire x.ring.tail = 0
        ∨ x.ring.span ≤ ringCount x.ring.size x.ring.retire x.ring.tail)
    ∧ (x.state = .unbound → x.window = [])

/-- Every group ring keeps its law. -/
abbrev RingLaw (s : State) : Prop := ∀ g : GroupId, (s.group g).RingLaw

/-! ## What a command leaves unchanged -/

/-- The parts of the block a command can touch. -/
inductive Block where
  /-- The level of RSTn. -/
  | resetPin
  /-- The register window but for the events: controller state, STAT, holding word, bases, RINGCFG, and the
  data of the last read. -/
  | registers
  /-- EVT, EVTMASK and IRQ. -/
  | events
  | group (g : GroupId)
  /-- The six pair units, their pins among them. -/
  | pairs
  | tokens
  | sets
  | captureQueue
  /-- The converter, with the mark of its tick on this device clock. -/
  | converter
  /-- The result writer but for its write state. -/
  | resultWriter
  /-- The four lines and the sample prescaler, with the mark of the sample of this device clock. -/
  | tripUnit
  /-- The administrative processor's indices and holding queue. -/
  | admin
  /-- The completion writer and its ring's indices, but for its write state. -/
  | completion
  /-- Which of the three has a request at the bus port: their fetch and write states. -/
  | requests
  /-- The outstanding transactions and the arbiter, with the mark of its grant on this device clock. -/
  | port
  /-- The marks of the group ticks taken on this device clock (log 17). -/
  | groupTicks
deriving DecidableEq, Repr

/-- A part is as it was. -/
def Block.Same (s t : State) : Block → Prop
  | .resetPin => t.rstn = s.rstn
  | .registers => t.ctrl = s.ctrl ∧ t.stat = s.stat ∧ t.holding = s.holding ∧ t.admBase = s.admBase
      ∧ t.cplBase = s.cplBase ∧ t.admCode = s.admCode ∧ t.cplCode = s.cplCode ∧ t.readData = s.readData
  | .events => t.evt = s.evt ∧ t.evtMask = s.evtMask ∧ t.irq = s.irq
  | .group g => t.group g = s.group g
  | .pairs => t.pairs = s.pairs
  | .tokens => t.tokens = s.tokens
  | .sets => t.sets = s.sets
  | .captureQueue => t.captureQueue = s.captureQueue
  | .converter => t.converter = s.converter ∧ t.marks.conv = s.marks.conv
  | .resultWriter => t.writer.queue = s.writer.queue ∧ t.writer.fill = s.writer.fill
      ∧ t.writer.job = s.writer.job ∧ t.writer.onBus = s.writer.onBus
      ∧ t.writer.lastSource = s.writer.lastSource
  | .tripUnit => t.lines = s.lines ∧ t.tripPresc = s.tripPresc ∧ t.marks.trip = s.marks.trip
  | .admin => t.admin.tail = s.admin.tail ∧ t.admin.fetch = s.admin.fetch
      ∧ t.admin.queue = s.admin.queue
  | .completion => t.cpl.write = s.cpl.write ∧ t.cpl.lap = s.cpl.lap ∧ t.cpl.release = s.cpl.release
      ∧ t.cpl.unreleased = s.cpl.unreleased ∧ t.cpl.lastServed = s.cpl.lastServed
      ∧ t.cpl.inFlight = s.cpl.inFlight
  | .requests => t.admin.state = s.admin.state ∧ t.writer.write = s.writer.write
      ∧ t.cpl.state = s.cpl.state
  | .port => t.bus = s.bus ∧ t.lastFetcher = s.lastFetcher ∧ t.marks.grant = s.marks.grant
  | .groupTicks => t.marks.group = s.marks.group

/-- Every part but the named ones is as it was. -/
abbrev SameExcept (touched : List Block) (s t : State) : Prop := ∀ b : Block, b ∉ touched → b.Same s t

/-- The four groups, as parts. -/
abbrev everyGroup : List Block := [.group 0, .group 1, .group 2, .group 3]

/-- What the finishing of capture work (R106, R110) and the end of a stop (R38) may do to a group: a DRAINING
entry becomes RETIRING, and a STOPPING group enters STOPPED with its notice. Nothing else moves. -/
abbrev Group.Drains (x y : Group) : Prop :=
  y = { x with window := y.window, state := y.state, notices := y.notices }
    ∧ y.window.length = x.window.length
    ∧ (∀ q ∈ x.window.zip y.window, q.2 = q.1 ∨ (q.1.st = .draining ∧ q.2 = { q.1 with st := .retiring }))
    ∧ ((y.state = x.state ∧ y.notices = x.notices)
        ∨ (x.state = .stopping ∧ y.state = .stopped ∧ y.notices = x.notices.add .stopped))

/-- A DRAINING record's capture work is not finished: some of it is in hand, the record is in the fill list, or
it owes words (R13, R106, R110; log 33). -/
def State.owesWork (s : State) (g : GroupId) (e : Entry) : Bool :=
  s.inHand (e.ref g) || s.inFill (e.ref g) || e.owes

/-- Group `g`, left as `x` by a happening's own effect, stands in `t` after the finishing of capture work: a
record that has gone to RETIRING has nothing left in hand or listed, and owes no word (R13, R110). -/
abbrev State.Drains (t : State) (g : GroupId) (x : Group) : Prop :=
  Group.Drains x (t.group g)
    ∧ ∀ q ∈ x.window.zip (t.group g).window, q.1.st = .draining → q.2.st = .retiring →
        t.owesWork g q.1 = false

/-- Of the DRAINING records of group `g`, left as `x` by a happening, those with unfinished work in `u` stay
DRAINING in `t`, and exactly the others go to RETIRING (R13). -/
abbrev State.RetiresFinished (u t : State) (g : GroupId) (x : Group) : Prop :=
  ∀ q ∈ x.window.zip (t.group g).window, q.1.st = .draining →
    (q.2.st = .draining ↔ u.owesWork g q.1 = true)

/-- The records of `u` that join the fill list: the DRAINING ones that owe words and have nothing else in hand
(R106). -/
abbrev State.Joins (u : State) (joined : List EntryRef) : Prop :=
  joined.Nodup
    ∧ ∀ ref, ref ∈ joined ↔ u.inHand ref = false ∧ u.inFill ref = false
        ∧ ∃ e ∈ (u.group ref.group).window, e.slot = ref.slot ∧ e.st = .draining ∧ e.owes = true

/-- The capture path after a happening that leads to `u` and removes no capture work (R89, R95): the capture queue,
the converter, the result queue, a current job and a write on the bus are as in `u`, and the fill list gains
the records that join it. A writer without a job, for which nothing else waits, takes the first of them
(R104). -/
abbrev KeepsCaptureWork (u t : State) : Prop :=
  t.captureQueue = u.captureQueue ∧ t.converter = u.converter ∧ t.marks.conv = u.marks.conv
    ∧ ∃ joined, u.Joins joined
      ∧ (u.writer.job.isSome = true ∨ joined = [] →
          t.writer = { u.writer with fill := u.writer.fill ++ joined, write := t.writer.write })
      ∧ ∀ first rest, u.writer.job = none → joined = first :: rest →
          t.writer = { u.writer with
            fill := rest, job := (u.entry? first).map fun e => .fill first e.triggered
            lastSource := .fillList, write := t.writer.write }

/-- The states of the groups and of the capture path after a happening that leads to `u` and removes no capture
work: records whose capture work is finished retire, those that owe words join the fill list (R106, R110),
and the rest of the capture path is as in `u`. -/
abbrev FollowsTriggers (u t : State) : Prop :=
  (∀ m, Group.Drains (u.group m) (t.group m) ∧ u.RetiresFinished t m (u.group m)) ∧ KeepsCaptureWork u t

/-- A tick of group `g` is taken: the group has none left on this device clock (R47; log 17). -/
abbrev TakesTick (s t : State) (g : GroupId) : Prop := t.marks.group = s.marks.group.set g true

/-- A pair of group `g` on a group tick inside its waveform (R51, R53, R54, R60): the raw compare is formed from
the counter and the duty of the record that is ACTIVE on the tick, and in the complementary modes each output
delays the start of its run and ends it without delay. -/
abbrev RunsOn (s t : State) (g : GroupId) (c : Slot64) (counter : Nat) (p : PairId) : Prop :=
  let u := s.pair p
  let v := t.pair p
  let now := decide (counter < Seg.duty c (s.rank g p))
  v = { u with raw := now, outP := v.outP, outN := v.outN, pins := waveformPins v }
    ∧ (u.mode = .same ∨ u.mode = .pOnly → v.outP = u.outP ∧ v.outN = u.outN)
    ∧ (u.mode = .comp ∨ u.mode = .compInv →
        v.outP = (match u.raw, now with
          | false, true => if u.dead = 0 then ⟨0, true⟩ else ⟨u.dead, false⟩
          | true, true => { u.outP with timer := u.outP.timer - 1 }
          | true, false => ⟨0, false⟩
          | false, false => u.outP)
        ∧ v.outN = (match u.raw, now with
          | true, false => if u.dead = 0 then ⟨0, true⟩ else ⟨u.dead, false⟩
          | false, false => { u.outN with timer := u.outN.timer - 1 }
          | false, true => ⟨0, false⟩
          | true, true => u.outN))

/-- The first tick of the waveform (R55): the raw compare is formed with the counter at 0, and each active source
counts as having become active on this tick. -/
abbrev EntersTheWaveform (s t : State) (g : GroupId) (c : Slot64) (p : PairId) : Prop :=
  let u := s.pair p
  let v := t.pair p
  let now := decide (0 < Seg.duty c (s.rank g p))
  v = { u with raw := now, outP := v.outP, outN := v.outN, pins := waveformPins v }
    ∧ (u.mode = .same ∨ u.mode = .pOnly → v.outP = u.outP ∧ v.outN = u.outN)
    ∧ (u.mode = .comp ∨ u.mode = .compInv →
        v.outP = (if now then if u.dead = 0 then ⟨0, true⟩ else ⟨u.dead, false⟩ else ⟨0, false⟩)
        ∧ v.outN = (if now then ⟨0, false⟩ else if u.dead = 0 then ⟨0, true⟩ else ⟨u.dead, false⟩))

/-- A pair of a group that has lost its ACTIVE record (R51, R55, R58): its working state is cleared and it shows
its idle levels. -/
abbrev LeavesTheWaveform (s t : State) (p : PairId) : Prop :=
  t.pair p = { s.pair p with
    raw := false, outP := ⟨0, false⟩, outN := ⟨0, false⟩, pins := (s.pair p).idle }

/-- A pair of a group whose trip condition has become true (R55, R58, R121): its working state is cleared and it
shows its safe levels. -/
abbrev GoesSafe (s t : State) (p : PairId) : Prop :=
  t.pair p = { s.pair p with
    raw := false, outP := ⟨0, false⟩, outN := ⟨0, false⟩, pins := (s.pair p).safe }

/-- On a tick of group `g`, its pairs, where no trip condition holds on it, do as `does` says, and no other pair
moves. -/
abbrev PairsOfGroup (s t : State) (g : GroupId) (does : PairId → Prop) : Prop :=
  s.tripCondition g = false → ∀ p : PairId,
    ((s.pair p).group ≠ some g → t.pair p = s.pair p) ∧ ((s.pair p).group = some g → does p)

/-- A command ends the waveform of group `g` (R38, R39, R55): its pairs leave the waveform, or go on showing their
safe levels where its trip condition holds, and no other pair moves. -/
abbrev EndsTheWaveform (s t : State) (g : GroupId) : Prop :=
  PairsOfGroup s t g (LeavesTheWaveform s t) ∧ (s.tripCondition g = true → t.pairs = s.pairs)

/-- Group `g` takes a period boundary on this device clock with ACTIVE record `e` (R29), in a state that keeps
the laws of the windows. -/
structure BoundaryOf (s : State) (g : GroupId) (e : Entry) : Prop where
  settled : Settled s
  rings : RingLaw s
  active : ActiveLaw s
  capture : CaptureLaw s
  owner : OwnerLaw s
  due : s.tickDue g = true
  boundary : (s.group g).atBoundary = true
  record : (s.group g).active? = some e

/-- The tokens after the AT_END post of a record, as a request of its own (R32, R68). -/
def tokensAfterEndPost (s : State) (c : Slot64) : Vector Nat 16 :=
  if Seg.postsAtEnd c then
    s.tokens.set (tokenNamed (Seg.postToken c))
      (min 255 (s.token (tokenNamed (Seg.postToken c)) + Seg.postAdd c))
  else s.tokens

/-- That post saturates: the sum exceeds 255 (R68). -/
def endPostSaturates (s : State) (c : Slot64) : Bool :=
  Seg.postsAtEnd c && decide (255 < s.token (tokenNamed (Seg.postToken c)) + Seg.postAdd c)

/-! ## HALTED -/

/-- What HALTED holds until a reset (R61, R101, R113, R123, R149): the controller stays HALTED with its halt cause and
geometry, and the groups, pairs, tokens, pending sets, rings and the whole capture path keep their values. The
trip unit goes on, the host reads and writes the registers, and answers leave the bus. -/
abbrev StaysHalted (s t : State) : Prop :=
  t.ctrl = .halted ∧ t.stat = { s.stat with postRing := t.stat.postRing, postIndex := t.stat.postIndex }
    ∧ t.admBase = s.admBase ∧ t.cplBase = s.cplBase ∧ t.admCode = s.admCode ∧ t.cplCode = s.cplCode
    ∧ t.converter = s.converter ∧ t.lastFetcher = s.lastFetcher
    ∧ t.sets.map StartSet.members = s.sets.map StartSet.members
    ∧ SameExcept [.registers, .events, .sets, .converter, .tripUnit, .port, .groupTicks] s t

/-- A command that is one of the two resets. -/
def isReset : Instr → Bool
  | .powerOnReset _ | .ctrlReset => true
  | _ => false

/-! ## Removals -/

/-- Work of a record that a removal would remove (R96, R111): a request, the conversion, the held result, a
queued result, a place in the fill list, the current job, a write on the bus, or owed words. -/
def State.hasWork (s : State) (g : GroupId) (e : Entry) : Bool :=
  s.captureQueue.any (fun q => q.group == g && q.slot == e.slot)
    || s.converter.current.any (fun q => q.group == g && q.slot == e.slot)
    || s.converter.held.any (fun r => r.group == g && r.slot == e.slot)
    || s.writer.queue.any (fun r => r.group == g && r.slot == e.slot)
    || s.writer.fill.any (fun r => r.group == g && r.slot == e.slot)
    || s.writer.job.any (fun j => j.ref.group == g && j.ref.slot == e.slot)
    || s.writer.onBus.any (fun w => w.ref.group == g && w.ref.slot == e.slot)
    || (decide (e.nextPos < e.triggered) && !e.faulted)

/-- The window that a fault, an ABORT or a trip leaves of `w` (R33, R39, R96, R111, R121): every record RETIRING,
the ACTIVE one with the status that ends it, the READY ones with ABORTED, and RESULT_INCOMPLETE on each record
whose work was removed. -/
def State.retired (s : State) (g : GroupId) (ending : SegStatus) (w : List Entry) : List Entry :=
  w.map fun e =>
    match e.st with
    | .active => { e with
        st := .retiring, status := some ending
        flags := { e.flags with resultIncomplete := e.flags.resultIncomplete || s.hasWork g e } }
    | .draining => { e with
        st := .retiring
        flags := { e.flags with resultIncomplete := e.flags.resultIncomplete || s.hasWork g e } }
    | .ready => { e with st := .retiring, status := some .aborted }
    | .bad | .retiring | .fetching => { e with st := .retiring }

/-- The ring after a FETCHING entry, if there is one, has been cancelled (R25). -/
def Group.steppedBack (x : Group) : Ring :=
  if x.hasFetching then
    { x.ring with fetch := (x.ring.fetch + x.ring.size - 1) % x.ring.size, span := x.ring.span - 1 }
  else x.ring

/-- The window without its FETCHING entry. -/
def Group.kept (x : Group) : List Entry := x.window.filter fun e => e.st != .fetching

/-- A member of a start set that another member has broken (R25, R42). -/
def Group.setBroken (x : Group) : Group :=
  { x with
    window := x.kept.map fun e =>
      match e.st with
      | .ready => { e with st := .retiring, status := some .aborted }
      | .bad => { e with st := .retiring }
      | _ => e
    ring := x.steppedBack, state := .stopped, notices := x.notices.add .setBroken }

/-- Two groups are members of one pending set. -/
def State.sharesSet (s : State) (g m : GroupId) : Bool :=
  s.sets.any fun u => u.members.getLsbD g && u.members.getLsbD m

/-- The converter as a removal of its work leaves it, with the requests that are kept: it is IDLE, or it takes
the first of them at once (R91, R96). -/
def Converter.freed (c : Converter) (kept : List Request) : Converter :=
  match kept with
  | [] => { c with state := .idle, current := none, held := none, step := 0, done := 0, sum := 0 }
  | q :: _ => { c with
      state := .converting, current := some q, held := none, step := 0, done := 0, sum := 0 }

/-- The capture work of the groups `gone` is removed, and that of the others is kept in its order (R95, R96,
R111). A held result of another group may find room, and the writer may choose its next job. -/
structure WorkRemoved (gone : GroupId → Bool) (s t : State) : Prop where
  requestsGone : ∀ q ∈ t.captureQueue, gone q.group = false
  currentGone : ∀ q, t.converter.current = some q → gone q.group = false
  heldGone : ∀ r, t.converter.held = some r → gone r.group = false
  resultsGone : ∀ r ∈ t.writer.queue, gone r.group = false
  fillGone : ∀ r ∈ t.writer.fill, gone r.group = false
  jobGone : ∀ j, t.writer.job = some j → gone j.ref.group = false
  /-- A converter at work for another group goes on, as does an IDLE one, and no request of another group leaves
  the queue. -/
  undisturbed : (∀ q, s.converter.current = some q → gone q.group = false) → s.converter.held = none →
    t.converter = s.converter ∧ t.captureQueue = s.captureQueue.filter fun q => !gone q.group
  /-- A take uses up the converter's tick of this device clock (R91; log 21), and nothing else does. -/
  tick : t.marks.conv = (s.marks.conv || (t.converter.current.isSome && t.converter != s.converter))
  /-- A converter whose own work is removed is freed. -/
  freed : (∃ q, s.converter.current = some q ∧ gone q.group = true)
      ∨ (∃ r, s.converter.held = some r ∧ gone r.group = true) →
    t.converter = s.converter.freed (s.captureQueue.filter fun q => !gone q.group)
      ∧ t.captureQueue = (s.captureQueue.filter fun q => !gone q.group).tail
  /-- A held result of another group is kept, or has joined the result queue. -/
  held : ∀ r, s.converter.held = some r → gone r.group = false →
    (t.converter = s.converter ∧ t.captureQueue = s.captureQueue.filter fun q => !gone q.group)
      ∨ (t.converter = s.converter.freed (s.captureQueue.filter fun q => !gone q.group)
        ∧ t.captureQueue = (s.captureQueue.filter fun q => !gone q.group).tail
        ∧ (r ∈ t.writer.queue ∨ t.writer.job = some (.result r) ∨ s.dropsResult r = true))
  results : ∀ r ∈ s.writer.queue, gone r.group = false →
    r ∈ t.writer.queue ∨ t.writer.job = some (.result r) ∨ s.dropsResult r = true
  resultOrder : List.Sublist t.writer.queue (s.writer.queue ++ s.converter.held.toList)
  fill : ∀ ref ∈ s.writer.fill, gone ref.group = false →
    ref ∈ t.writer.fill ∨ ∃ target, t.writer.job = some (.fill ref target)
  job : ∀ j, s.writer.job = some j → gone j.ref.group = false → t.writer.job = some j
  onBus : t.writer.onBus = s.writer.onBus

/-! ## Answers of the bus -/

/-- The controller is RUNNING and a transaction of the requester, issued since the last reset, is
outstanding. -/
abbrev Awaits (s : State) (r : Requester) : Prop := s.ctrl = .running ∧ s.outstanding r = true

/-- The transaction is no longer outstanding, and nothing else of the port has changed. -/
abbrev AnswerTaken (r : Requester) (s t : State) : Prop :=
  t.bus = s.bus.eraseP (fun x => x.requester == r && !x.late) ∧ t.lastFetcher = s.lastFetcher
    ∧ t.marks.grant = s.marks.grant

/-- The answer to a command's read has been taken and the command reported (R138): its entry, with opcode and
tag as read and the admin index after its read, is the last of the admin holding queue, and the fetch state
has left ON_BUS. -/
def Reported (cmd : Slot32) (status : AdminStatus) (value : BitVec 128) (s t : State) : Prop :=
  t.admin.queue
      = s.admin.queue ++ [.admin (cmd.extractLsb' 0 8) (cmd.extractLsb' 16 16) status s.admin.fetch value]
    ∧ t.admin.tail = s.admin.tail ∧ t.admin.fetch = s.admin.fetch ∧ t.admin.state ≠ .onBus
    ∧ AnswerTaken .adminProcessor s t

/-- The commands that are answers: whether the answered transaction was issued before the last reset, and
whose it is (R148, R150). -/
def answersTo : Instr → Option (Bool × Requester)
  | .groupReadOk late g _ | .groupReadError late g => some (late, .fetcher g)
  | .resultWriteOk late | .resultWriteError late => some (late, .resultWriter)
  | .completionWriteOk late | .completionWriteError late => some (late, .completionWriter)
  | .adminReadError late | .bindRing late _ | .unbindRing late _ | .setGroup late _ | .setPair late _
  | .setConverter late _ | .setTrip late _ | .start late _ | .stop late _ | .abort late _
  | .setToken late _ | .clearTrip late _ | .queryGroup late _ | .queryTokens late _ | .queryTrips late _
  | .queryConverter late _ | .unknown late _ => some (late, .adminProcessor)
  | .powerOnReset _ | .ctrlReset | .ctrlStart | .evtWrite _ | .evtmaskWrite _ | .postGroupTail _ _
  | .postAdminTail _ | .postCompletionRelease _ | .admbaseLoWrite _ | .cplbaseLoWrite _
  | .admbaseHiWrite _ | .cplbaseHiWrite _ | .admbaseHiRead _ | .cplbaseHiRead _ | .registerWrite _ _ _
  | .groupFetchIssue _ | .groupTick _ | .periodBoundary _ | .deadTimeExpiry _ _ | .starvedResume _
  | .startSetFire _ | .converterTick _ | .conversionEnd | .resultWriteIssue | .recordLeave _
  | .noticeQueue _ | .adminFetchIssue | .completionWriteIssue | .tripSample _
  | .filteredLevelChange _ => none

/-- A byte of a command slot, as a number (Table 11.3). -/
def byteOf (cmd : Slot32) (off : Nat) : Nat := (cmd.extractLsb' (8 * off) 8).toNat

/-- The number field of a command slot, 0Ch. -/
def numberOf (cmd : Slot32) : Nat := (cmd.extractLsb' 96 16).toNat

/-- Every byte of the slot outside the opcode, the tag and the listed bytes is zero (R152). -/
def OnlyUses (cmd : Slot32) (bytes : List Nat) : Prop :=
  ∀ i : Fin 32, i.val ≠ 0 → i.val ≠ 2 → i.val ≠ 3 → i.val ∉ bytes → byteOf cmd i = 0

/-- A refused command (R151): it is reported with its status and a zero value, and nothing else changes. -/
abbrev Refused (c : Instr) (cmd : Slot32) (status : AdminStatus) (s : State) : Prop :=
  ∃ t, exec c s = .next t ∧ Reported cmd status 0 s t ∧ SameExcept [.admin, .requests, .port] s t

/-- The slot and the verdict of an administrative command: the first check that fails, or OK (R151). -/
def adminVerdict (c : Instr) (s : State) : Option (Slot32 × AdminStatus) :=
  match c with
  | .bindRing _ cmd => some (cmd, bindRingVerdict cmd s)
  | .unbindRing _ cmd => some (cmd, unbindRingVerdict cmd s)
  | .setGroup _ cmd => some (cmd, setGroupVerdict cmd s)
  | .setPair _ cmd => some (cmd, setPairVerdict cmd s)
  | .setConverter _ cmd => some (cmd, setConverterVerdict cmd s)
  | .setTrip _ cmd => some (cmd, setTripVerdict cmd s)
  | .start _ cmd => some (cmd, startVerdict cmd s)
  | .stop _ cmd => some (cmd, stopVerdict cmd s)
  | .abort _ cmd => some (cmd, abortVerdict cmd s)
  | .setToken _ cmd => some (cmd, setTokenVerdict cmd s)
  | .clearTrip _ cmd => some (cmd, clearTripVerdict cmd s)
  | .queryGroup _ cmd => some (cmd, queryGroupVerdict cmd s)
  | .queryTokens _ cmd | .queryTrips _ cmd | .queryConverter _ cmd => some (cmd, queryVerdict cmd s)
  | .unknown _ cmd => some (cmd, .unknown)
  | _ => none

/-! ## Formats -/

/-- The little-endian number in `n` bytes of a segment record slot (Table 11.1). -/
def fieldOf (c : Slot64) (off n : Nat) : Nat := (c.extractLsb' (8 * off) (8 * n)).toNat

/-- Bit `i` of the flag byte of a segment record slot (Table 11.1). -/
def flagOf (c : Slot64) (i : Nat) : Bool := c.getLsbD (16 + i)

/-- The checks of R8 on the bytes of a slot, at the offsets of R185. -/
structure RecordPasses (c : Slot64) (mode : CountMode) (boundPairs : Nat) : Prop where
  reserved : fieldOf c 0x1C 4 = 0 ∧ fieldOf c 0x38 8 = 0 ∧ flagOf c 6 = false ∧ flagOf c 7 = false
  period : 2 ≤ fieldOf c 0x04 2
  repeats : flagOf c 2 = false → fieldOf c 0x06 2 ≠ 0
  dutyCount : fieldOf c 0x03 1 = boundPairs
  duties : ∀ i < 6, i < fieldOf c 0x03 1 → fieldOf c (0x08 + 2 * i) 2 ≤ fieldOf c 0x04 2
  wait : flagOf c 3 = true → 1 ≤ fieldOf c 0x15 1 ∧ fieldOf c 0x15 1 ≤ 15 ∧ fieldOf c 0x14 1 ≤ 15
  post : flagOf c 4 = true → 1 ≤ fieldOf c 0x17 1 ∧ fieldOf c 0x17 1 ≤ 15 ∧ fieldOf c 0x16 1 ≤ 15
    ∧ fieldOf c 0x18 1 ≤ 1
  pointCount : flagOf c 5 = true → 1 ≤ fieldOf c 0x19 1 ∧ fieldOf c 0x19 1 ≤ 4
  capacity : flagOf c 5 = true → fieldOf c 0x1A 2 ≠ 0 ∧ fieldOf c 0x20 8 % 2 = 0
  lastWord : flagOf c 5 = true → fieldOf c 0x20 8 + 2 * (fieldOf c 0x1A 2 - 1) < 2 ^ 64
  points : flagOf c 5 = true → ∀ j < 4, j < fieldOf c 0x19 1 →
    fieldOf c (0x28 + 4 * j) 2 < fieldOf c 0x04 2 ∧ fieldOf c (0x2A + 4 * j) 1 ≤ 11
      ∧ fieldOf c (0x2B + 4 * j) 1 % 16 ∈ [1, 2, 4, 8]
      ∧ (fieldOf c (0x2B + 4 * j) 1 / 16 = 0 ∨ (fieldOf c (0x2B + 4 * j) 1 / 16 = 1 ∧ mode = .centre))

/-- Where the fields of a segment record lie (Tables 11.1, 11.2, R185). -/
structure RecordLayout (c : Slot64) : Prop where
  tag : (Seg.tag c).toNat = fieldOf c 0x00 2
  flags : Seg.complete c = flagOf c 0 ∧ Seg.notify c = flagOf c 1 ∧ Seg.hold c = flagOf c 2
    ∧ Seg.hasWait c = flagOf c 3 ∧ Seg.hasPost c = flagOf c 4 ∧ Seg.hasCapture c = flagOf c 5
  run : Seg.period c = fieldOf c 0x04 2 ∧ Seg.repeats c = fieldOf c 0x06 2
  duty : ∀ i < 6, Seg.duty c i = fieldOf c (0x08 + 2 * i) 2
  wait : Seg.waitToken c = fieldOf c 0x14 1 ∧ Seg.waitNeed c = fieldOf c 0x15 1
  post : Seg.postToken c = fieldOf c 0x16 1 ∧ Seg.postAdd c = fieldOf c 0x17 1
    ∧ (Seg.postsAtStart c = true ↔ flagOf c 4 = true ∧ fieldOf c 0x18 1 = 0)
    ∧ (Seg.postsAtEnd c = true ↔ flagOf c 4 = true ∧ fieldOf c 0x18 1 = 1)
  capture : Seg.pointCount c = fieldOf c 0x19 1 ∧ Seg.capacity c = fieldOf c 0x1A 2
    ∧ (Seg.resultAddr c).toNat = fieldOf c 0x20 8
  points : ∀ j < 4, Seg.pointValue c j = fieldOf c (0x28 + 4 * j) 2
    ∧ Seg.pointInput c j = fieldOf c (0x2A + 4 * j) 1
    ∧ Seg.pointOversample c j = fieldOf c (0x2B + 4 * j) 1 % 16
    ∧ Seg.pointSlope c j = fieldOf c (0x2B + 4 * j) 1 / 16

/-- The code of a segment status (Table 11.6). -/
def segStatusCode : SegStatus → Nat
  | .ok => 0 | .cut => 1 | .aborted => 2 | .tripped => 3 | .malformed => 4 | .fetchError => 5

/-- The code of an administrative status (Table 11.9). -/
def adminStatusCode : AdminStatus → Nat
  | .ok => 0 | .badState => 1 | .badParam => 2 | .unknown => 3 | .busy => 4 | .tripActive => 5
  | .tripLatched => 6

/-- The code of a group state (Table 11.10). -/
def groupStateCode : GroupState → Nat
  | .unbound => 0 | .stopped => 1 | .armed => 2 | .running => 3 | .starved => 4 | .stopping => 5
  | .tripped => 6 | .faulted => 7

/-- The fields of a completion entry as it is written (Table 11.5, R187 to R189): each as offset, size and
value, in the order of the table. Every other byte is 0. -/
def entryFields (lap : Bool) : CplEntry → List (Nat × Nat × Nat)
  | .segment g tag status notify flags retire words crc lost periods extensions =>
      [(0x00, 1, lap.toNat), (0x01, 1, g), (0x02, 2, tag.toNat), (0x04, 1, segStatusCode status),
        (0x05, 1, notify.toNat),
        (0x06, 1, flags.extended.toNat + 2 * flags.captureLost.toNat + 4 * flags.resultTruncated.toNat
          + 8 * flags.resultFault.toNat + 16 * flags.resultIncomplete.toNat
          + 32 * flags.tokenSaturated.toNat),
        (0x08, 2, retire), (0x0A, 2, words), (0x0C, 2, crc.toNat), (0x0E, 2, lost), (0x10, 4, periods),
        (0x14, 4, extensions)]
  | .admin opcode tag status index value =>
      [(0x00, 1, lap.toNat + 2), (0x01, 1, opcode.toNat), (0x02, 2, tag.toNat),
        (0x04, 1, adminStatusCode status), (0x08, 2, index), (0x10, 16, value.toNat)]
  | .notice g kinds state retire =>
      [(0x00, 1, lap.toNat + 4), (0x01, 1, g),
        (0x04, 1, kinds.started.toNat + 2 * kinds.starved.toNat + 4 * kinds.stopped.toNat
          + 8 * kinds.tripped.toNat + 16 * kinds.faulted.toNat + 32 * kinds.setBroken.toNat
          + 64 * kinds.tripCleared.toNat),
        (0x05, 1, groupStateCode state), (0x08, 2, retire)]

/-- The number that fields at their offsets spell, each cut to its size. -/
def spelled (fields : List (Nat × Nat × Nat)) : Nat :=
  (fields.map fun f => f.2.2 % 2 ^ (8 * f.2.1) * 2 ^ (8 * f.1)).sum

/-- One shift of a record's CRC (R109 step 2). -/
def shiftCrc (c : Word16) : Word16 := if c.getLsbD 15 then (c <<< 1) ^^^ 0x1021 else c <<< 1

/-- One byte into a record's CRC (R109): it is combined into the upper eight bits, and eight shifts follow. -/
def byteIntoCrc (c : Word16) (b : Byte) : Word16 :=
  shiftCrc <| shiftCrc <| shiftCrc <| shiftCrc <| shiftCrc <| shiftCrc <| shiftCrc <| shiftCrc
    (c ^^^ (b ++ 0#8))

/-! ## Resets -/

/-- What every block but the ring bases, RINGCFG and the trip unit holds after either reset (Table 10.4 and the
reset columns of Tables 3.3, 5.1, 6.1, 8.2 and of R141): the pins are LOW and IRQ is deasserted. -/
structure ResetValues (t : State) : Prop where
  controller : t.ctrl = .off
  stat : t.stat = { cause := .noCause, cfgErr := false, postRing := 0, postIndex := 0 }
  events : t.evt = 0 ∧ t.evtMask = 0 ∧ t.irq = false
  holding : t.holding = 0
  groups : ∀ g : GroupId, t.group g =
    { ring := { bound := false, base := 0, size := 4, tail := 0, fetch := 0, retire := 0, span := 0 },
      state := .unbound, pendingStop := .noStop, notices := {}, d := 0, mode := .edge, presc := 0,
      counter := 0, slope := .up, window := [], queue := [] }
  pairs : ∀ p : PairId, t.pair p =
    { group := none, mode := .comp, dead := 0, idle := ⟨.low, .low⟩, safe := ⟨.low, .low⟩,
      outP := ⟨0, false⟩, outN := ⟨0, false⟩, raw := false, pins := ⟨.low, .low⟩ }
  tokens : ∀ k : TokenId, t.token k = 0
  sets : t.sets = []
  captureQueue : t.captureQueue = []
  converter : t.converter =
    { state := .idle, k := 4, presc := 0, current := none, step := 0, done := 0, sample := 0, sum := 0,
      held := none }
  writer : t.writer =
    { queue := [], fill := [], job := none, write := .idle, onBus := none, lastSource := .fillList }
  admin : t.admin = { tail := 0, fetch := 0, state := .idle, queue := [] }
  completion : t.cpl =
    { write := 0, lap := true, release := 0, unreleased := 0, state := .idle, lastServed := .admin,
      inFlight := none }
  arbiter : t.lastFetcher = 3

/-- What every register and block holds after a power-on reset (R115, R179). -/
structure PowerOnValues (t : State) : Prop extends ResetValues t where
  bases : t.admBase = 0 ∧ t.cplBase = 0 ∧ t.admCode = 0 ∧ t.cplCode = 0
  lines : ∀ l : LineId, t.line l =
    { active := .high, filterLen := 0, mask := 0, filtered := false, run := 0, latch := false, sample := none }
  tripPresc : t.tripPresc = 0

/-- While the reset pin is asserted, every register and block holds its power-on value (R52, R115, R179). -/
abbrev HeldLaw (s : State) : Prop := s.rstn = .low → PowerOnValues s

end Sys2Proof.Machine
end

