-- ==== Sys2Proof/Certificates/Slice0/Obligations.lean ====
section
/-! DEFINITION. Certificates/Slice0/Obligations.lean: the statements for the provers. Each docstring names the
rules of spec/ that the statement rests on. "Derived" statements rest on spec sections; a statement that
rests on a choice of the model names the log entry. -/

open Sys2Proof Sys2Proof.Machine

/-! ## Steps and the queue of waiting commands -/

/-- A step takes the command at the front of the queue and executes it with the queue's rest. -/
def Obligations.StepRunsFrontCommand : Prop :=
  ∀ (c : Instr) (s : State), step { s with pending := c :: s.pending } = exec c s

/-- No command faults and none is refused: every error the manual names has an effect (a BAD record, a FAULTED
group, a HALTED controller, a dropped answer). The waiting commands and the count of device clocks are the
model's own, and no command touches them. -/
def Obligations.EveryCommandAnswersANextState : Prop :=
  ∀ (c : Instr) (s : State), ∃ t, exec c s = .next t ∧ t.pending = s.pending ∧ t.clock = s.clock

/-- Where no command waits and nothing of the block's own is due, a step is the passing of a device clock
(the model's choice, log 2): the prescaler counts of the groups and of the converter advance while RUNNING,
are held at 0 in OFF and frozen in HALTED, the trip sample prescaler advances in every controller state and
is held while the reset pin is asserted (R47, R90, R115, R116). What the device clock that ends has had is
forgotten (log 17), so that the next one has its ticks (R47, R90), its sample (R116), each set's request (R75)
and its grant (R147). Nothing else moves. -/
def Obligations.IdleStepPassesADeviceClock : Prop :=
  ∀ s : State, s.pending = [] → s.nextOwn = none →
    ∃ t, step s = .next t
      ∧ (∀ g : GroupId, t.group g = { s.group g with
          presc := match s.ctrl with
            | .running => ((s.group g).presc + 1) % 2 ^ (s.group g).d
            | .off => 0
            | .halted => (s.group g).presc })
      ∧ t.converter = { s.converter with
          presc := match s.ctrl with
            | .running => (s.converter.presc + 1) % (2 * s.converter.k)
            | .off => 0
            | .halted => s.converter.presc }
      ∧ t.tripPresc = (if s.rstn = .low then s.tripPresc else (s.tripPresc + 1) % 8) ∧ t.lines = s.lines
      ∧ t.sets = s.sets.map (fun u => { u with asked := false }) ∧ t.marks = {}
      ∧ t.clock = s.clock + 1 ∧ t.pending = []
      ∧ t.bus = s.bus ∧ t.lastFetcher = s.lastFetcher
      ∧ SameExcept (everyGroup ++ [.converter, .tripUnit, .sets, .port, .groupTicks]) s t

/-! ## Laws that every step keeps -/

/-- The state after reset keeps every law that the statements below say a step keeps. -/
def Obligations.ResetMeetsEveryLaw : Prop :=
  Settled State.reset ∧ TokensInRange State.reset ∧ QueuesBounded State.reset ∧ LatchLaw State.reset
    ∧ SetLaw State.reset ∧ RestLaw State.reset ∧ WindowLaw State.reset ∧ OrderLaw State.reset
    ∧ ActiveLaw State.reset ∧ CaptureLaw State.reset ∧ OwnerLaw State.reset ∧ PositionLaw State.reset
    ∧ StatusLaw State.reset ∧ PairLaw State.reset ∧ CompletionLaw State.reset ∧ BusLaw State.reset
    ∧ TripLaw State.reset ∧ RingLaw State.reset ∧ PowerOnValues State.reset

/-- After every step IRQ follows EVT and EVTMASK (R184), every pair shows its selection (R58, R59), and a
requester asks exactly while its own conditions hold (R107, R137, R142). -/
def Obligations.EveryStepSettlesOutputsAndRequests : Prop :=
  ∀ s t : State, Settled s → step s = .next t → Settled t

/-- The fourth law: every token count lies in 0..255 (R65). And a line whose mask is not empty and whose filtered
level is active is always latched (R118). -/
def Obligations.EveryStepKeepsTokenCountsAndLatches : Prop :=
  (∀ s t : State, TokensInRange s → step s = .next t → TokensInRange t)
    ∧ ∀ s t : State, LatchLaw s → step s = .next t → LatchLaw t

/-- The fifth law: capture work belongs to records that are ACTIVE or DRAINING (R87), and no consequence on the
capture path is left undone (R91 to R94, R104): among them, a DRAINING record has work in hand or stands in the
fill list (R106, R110; log 33). The sixth law and the counts under it: no record's next
position or triggered count exceeds its result capacity, and the words counted are words issued (R83, R107,
R108). -/
def Obligations.EveryStepKeepsCaptureWorkOwned : Prop :=
  ∀ s t : State, RingLaw s → ActiveLaw s → SetLaw s → RestLaw s → QueuesBounded s →
    CaptureLaw s → OwnerLaw s → step s = .next t →
    CaptureLaw t ∧ OwnerLaw t ∧ (PositionLaw s → PositionLaw t)

/-- The twelfth law: a group that is UNBOUND, STOPPED, TRIPPED or FAULTED holds RETIRING records only (R21), and
an ARMED group only records that have not run (R27). And every BAD, DRAINING and RETIRING entry has its status,
and no other entry has one (R8, R9, R13), so that what leaves a window has the status it is reported with
(R20). -/
def Obligations.EveryStepKeepsRestingWindowsRetiring : Prop :=
  (∀ s t : State, RestLaw s → step s = .next t → RestLaw t)
    ∧ ∀ s t : State, RingLaw s → StatusLaw s → step s = .next t → StatusLaw t

/-- The first law: a window holds at most six entries, of which at most one is FETCHING; and from its old end it
holds DRAINING and RETIRING entries, then the ACTIVE one, then READY and BAD ones, then the FETCHING one
(R10). -/
def Obligations.EveryStepKeepsWindowsBoundedAndOrdered : Prop :=
  (∀ s t : State, WindowLaw s → step s = .next t → WindowLaw t)
    ∧ ∀ s t : State, RingLaw s → ActiveLaw s → SetLaw s → RestLaw s → OrderLaw s →
        step s = .next t → OrderLaw t

/-- Of the first law: at most one entry of a window is ACTIVE (R10). It is there exactly while the group is
RUNNING, or STOPPING before its record has ended, and only then can a stop be pending (R21). Without it the
counter holds 0 (R26) and the slope is UP (R50). -/
def Obligations.EveryStepKeepsOneActiveRecord : Prop :=
  ∀ s t : State, RingLaw s → SetLaw s → ActiveLaw s → step s = .next t → ActiveLaw t

/-- The capture queue never holds more than sixteen requests (R87), the result queue four results (R103), a
group's holding queue four entries (R140), the start-set table four sets (R72). -/
def Obligations.EveryStepKeepsQueuesBounded : Prop :=
  ∀ s t : State, QueuesBounded s → step s = .next t → QueuesBounded t

/-- In a pair unit of a complementary mode an active output has an active source (R54), and no idle or safe
levels make both outputs active (R57). -/
def Obligations.EveryStepKeepsOutputsBehindTheirSources : Prop :=
  ∀ s t : State, PairLaw s → step s = .next t → PairLaw t

/-- The seventh law: the entries written and not yet released never exceed the completion ring's size
(R142), whatever the host posts. -/
def Obligations.EveryStepKeepsUnreleasedEntriesWithinTheRing : Prop :=
  ∀ s t : State, Settled s → CompletionLaw s → step s = .next t → CompletionLaw t

/-- Each requester has at most one transaction outstanding that was issued since the last reset (R146), and the
admin holding queue has room for the entry of the command being read (R137). -/
def Obligations.EveryStepKeepsOneTransactionPerRequester : Prop :=
  ∀ s t : State, Settled s → BusLaw s → step s = .next t → BusLaw t

/-- Every ARMED group is a member of exactly one pending set, and no other group is a member of any (R72). -/
def Obligations.EveryStepKeepsArmedGroupsInOneSet : Prop :=
  ∀ s t : State, SetLaw s → step s = .next t → SetLaw t

/-- While the controller is RUNNING, a bound group is TRIPPED exactly while its trip condition holds (R122), and
in OFF every group is UNBOUND (R21). -/
def Obligations.EveryStepKeepsTrippedGroupsMatchingTheirCondition : Prop :=
  ∀ s t : State, SetLaw s → TripLaw s → step s = .next t → TripLaw t

/-- The eleventh law and the index arithmetic under it: the window's entries stand in ring order from the retire
index, the fetch index lies the window span ahead of it, and the tail lies behind no fetched slot (R10,
R19, R131, R134). -/
def Obligations.EveryStepKeepsWindowsBetweenRetireAndTail : Prop :=
  ∀ s t : State, SetLaw s → RingLaw s → step s = .next t → RingLaw t

/-! ## Outputs and the interrupt line -/

/-- The output selection (Table 3.5), the tenth law among its lines, and what it comes to in each group state
while the controller is RUNNING (Table 3.6). R58. The levels of the waveform are those of Table 3.4 (R53). -/
def Obligations.PairsShowTheirSelection : Prop :=
  ∀ (s : State) (p : PairId), Settled s →
    ((s.pair p).group = none → (s.pair p).pins = (s.pair p).idle)
    ∧ ∀ g : GroupId, (s.pair p).group = some g →
        (s.ctrl = .halted → (s.pair p).pins = (s.pair p).safe)
        ∧ (s.tripCondition g = true → (s.pair p).pins = (s.pair p).safe)
        ∧ (s.ctrl ≠ .halted → s.tripCondition g = false →
            (s.pair p).pins =
              if (s.group g).hasActive = true
                  ∧ ((s.group g).state = .running ∨ (s.group g).state = .stopping)
              then waveformPins (s.pair p) else (s.pair p).idle)
        ∧ (ActiveLaw s → s.ctrl = .running → s.tripCondition g = false →
            (s.pair p).pins = match (s.group g).state with
              | .running => waveformPins (s.pair p)
              | .stopping =>
                  if (s.group g).hasActive then waveformPins (s.pair p) else (s.pair p).idle
              | .unbound | .stopped | .armed | .starved | .faulted | .tripped => (s.pair p).idle)

/-- The third law: the outputs of a pair in COMP or COMP_INV mode are never both at the active level. R56. -/
def Obligations.ComplementaryOutputsNeverBothActive : Prop :=
  ∀ (s : State) (p : PairId), Settled s → PairLaw s →
    (s.pair p).mode = .comp ∨ (s.pair p).mode = .compInv → ¬(s.pair p).bothActive

/-- EVTMASK is written and read whole in every controller state and cleared by both resets; IRQ is asserted
exactly while an event bit is set whose enable is set, after every step as after an EVTMASK write. R184. -/
def Obligations.InterruptLineFollowsEventsAndMask : Prop :=
  (∀ s : State, Settled s →
      (s.irq = true ↔ ∃ i : Fin 6, s.evt.getLsbD i = true ∧ s.evtMask.getLsbD i = true)
      ∧ readValue .evt s = s.evt.zeroExtend 32 ∧ readValue .evtmask s = s.evtMask.zeroExtend 32)
  ∧ (∀ s t : State, Settled s → step s = .next t →
      (t.irq = true ↔ ∃ i : Fin 6, t.evt.getLsbD i = true ∧ t.evtMask.getLsbD i = true))
  ∧ (∀ (s : State) (v : Word32), Settled s → s.rstn = .high →
      ∃ t, exec (.evtmaskWrite v) s = .next t
        ∧ t.evtMask = v.extractLsb' 0 6 ∧ t.evt = s.evt
        ∧ readValue .evtmask t = v &&& 0x3F
        ∧ (t.irq = true ↔ ∃ i : Fin 6, s.evt.getLsbD i = true ∧ v.getLsbD i = true)
        ∧ SameExcept [.events] s t)
  ∧ (∀ s : State,
      (∀ pin, ∃ t, exec (.powerOnReset pin) s = .next t ∧ t.evtMask = 0 ∧ t.irq = false)
      ∧ (s.rstn = .high → ∃ t, exec .ctrlReset s = .next t ∧ t.evtMask = 0 ∧ t.irq = false))

/-! ## Resets, start and the registers -/

/-- Both resets leave every block at its reset values and the outstanding transactions on the bus, marked so
that their answers are dropped. A controller reset keeps the ring bases, RINGCFG and the trip unit (R178); a
power-on reset clears them (R115, R179), and while the reset pin is asserted every register and block holds
these values (R52, R115, R179): no command but POWER_ON_RESET changes more than the data of the last read
and the bus, and no step more than the model's own marks. That POWER_ON_RESET carries the level of the pin
is the model's choice (log 5), and the marks of the device clock are the model's own: a controller reset keeps
those of the trip sample and the grant (logs 17, 26). -/
def Obligations.ResetsLeaveTheResetValues : Prop :=
  (∀ s : State, s.rstn = .high →
    ∃ t, exec .ctrlReset s = .next t ∧ ResetValues t
      ∧ t.admBase = s.admBase ∧ t.cplBase = s.cplBase ∧ t.admCode = s.admCode ∧ t.cplCode = s.cplCode
      ∧ t.lines = s.lines ∧ t.tripPresc = s.tripPresc ∧ t.rstn = s.rstn
      ∧ t.marks = { trip := s.marks.trip, grant := s.marks.grant }
      ∧ t.bus = s.bus.map fun x => { x with late := true })
  ∧ (∀ (s : State) (pin : Level),
      ∃ t, exec (.powerOnReset pin) s = .next t ∧ PowerOnValues t ∧ t.rstn = pin ∧ t.marks = {}
        ∧ t.bus = s.bus.map fun x => { x with late := true })
  ∧ (∀ (c : Instr) (s : State), HeldLaw s → s.rstn = .low → (∀ pin, c ≠ .powerOnReset pin) →
      ∃ t, exec c s = .next t ∧ t = { s with readData := t.readData, bus := t.bus })
  ∧ ∀ s t : State, HeldLaw s → step s = .next t → HeldLaw t

/-- CTRL.START in OFF checks the four items of configuration: it starts the controller and clears the two rings'
indices, or it sets CFGERR. In RUNNING and HALTED it has no effect (R175, R176). -/
def Obligations.StartChecksTheRingGeometry : Prop :=
  ∀ s : State, Settled s → s.rstn = .high →
    (s.ctrl ≠ .off → exec .ctrlStart s = .next s)
    ∧ (s.ctrl = .off →
        ((s.admBase.toNat % 32 = 0 ∧ s.cplBase.toNat % 32 = 0
            ∧ 2 ≤ s.admCode.toNat ∧ s.admCode.toNat ≤ 8
            ∧ 4 ≤ s.cplCode.toNat ∧ s.cplCode.toNat ≤ 12) →
          ∃ t, exec .ctrlStart s = .next t
            ∧ t.ctrl = .running ∧ t.stat = { s.stat with cfgErr := false }
            ∧ t.holding = s.holding ∧ t.admBase = s.admBase ∧ t.cplBase = s.cplBase
            ∧ t.admCode = s.admCode ∧ t.cplCode = s.cplCode ∧ t.readData = s.readData
            ∧ t.admin.tail = 0 ∧ t.admin.fetch = 0 ∧ t.admin.queue = s.admin.queue
            ∧ t.cpl.write = 0 ∧ t.cpl.release = 0 ∧ t.cpl.unreleased = 0 ∧ t.cpl.lap = true
            ∧ t.cpl.lastServed = s.cpl.lastServed ∧ t.cpl.inFlight = s.cpl.inFlight
            ∧ SameExcept [.registers, .admin, .completion, .requests] s t)
        ∧ (¬(s.admBase.toNat % 32 = 0 ∧ s.cplBase.toNat % 32 = 0
            ∧ 2 ≤ s.admCode.toNat ∧ s.admCode.toNat ≤ 8
            ∧ 4 ≤ s.cplCode.toNat ∧ s.cplCode.toNat ≤ 12) →
          exec .ctrlStart s = .next { s with stat := { s.stat with cfgErr := true } }))

/-- A POST write is taken, or ignored and recorded (R132, R133). A group ring's tail is taken while RUNNING, for a
bound ring, an index below its size and a tail that does not lie behind a fetched slot (R134); the
administrative tail for an index below the ring's size (R135); a release index where it releases no more
than is unreleased, an index equal to the write index releasing every unreleased entry (R136). -/
def Obligations.PostWritesAreTakenOrRecorded : Prop :=
  ∀ (s : State) (g : GroupId) (i : Word16), Settled s → s.rstn = .high →
    let recorded := fun (c : Instr) (ring : BitVec 3) =>
      ∃ t, exec c s = .next t
        ∧ t.evt = s.evt ||| 0b100000#6 ∧ t.evtMask = s.evtMask
        ∧ t.stat = { s.stat with postRing := ring, postIndex := i }
        ∧ Block.Same { s with stat := t.stat } t .registers
        ∧ SameExcept [.registers, .events] s t
    let r := (s.group g).ring
    let ahead := (i.toNat + r.size - r.retire) % r.size
    let n := if i.toNat = s.cpl.write then s.cpl.unreleased
      else (i.toNat + 2 ^ s.cplCode.toNat - s.cpl.release) % 2 ^ s.cplCode.toNat
    (if s.ctrl = .running ∧ r.bound = true ∧ i.toNat < r.size ∧ ¬(0 < ahead ∧ ahead < r.span) then
      ∃ t, exec (.postGroupTail g i) s = .next t
        ∧ t.group g = { s.group g with ring := { r with tail := i.toNat } }
        ∧ SameExcept [.group g] s t
    else recorded (.postGroupTail g i) (BitVec.ofNat 3 g))
    ∧ (if s.ctrl = .running ∧ i.toNat < 2 ^ s.admCode.toNat then
      ∃ t, exec (.postAdminTail i) s = .next t
        ∧ t.admin.tail = i.toNat ∧ t.admin.fetch = s.admin.fetch ∧ t.admin.queue = s.admin.queue
        ∧ SameExcept [.admin, .requests] s t
    else recorded (.postAdminTail i) 4)
    ∧ (if s.ctrl = .running ∧ i.toNat < 2 ^ s.cplCode.toNat ∧ n ≤ s.cpl.unreleased then
      ∃ t, exec (.postCompletionRelease i) s = .next t
        ∧ t.cpl.release = i.toNat ∧ t.cpl.unreleased = s.cpl.unreleased - n
        ∧ t.cpl.write = s.cpl.write ∧ t.cpl.lap = s.cpl.lap ∧ t.cpl.lastServed = s.cpl.lastServed
        ∧ t.cpl.inFlight = s.cpl.inFlight
        ∧ SameExcept [.completion, .requests] s t
    else recorded (.postCompletionRelease i) 5)

/-- The four base registers, the holding word and the two bases (R180): each row of Table 10.5, the lock of the
write rows, and what the resets leave. A read returns the addressed bytes of the word and acts as a full one
(R173). That the data of a read are kept in `readData` (log 15), which narrow reads exist (log 31) and which
bits the lowest address of a register holds (log 32) are the model's choices. -/
def Obligations.BaseRegistersShareTheHoldingWord : Prop :=
  (∀ (s : State) (v : Word32), Settled s → s.rstn = .high → s.ctrl = .off →
      exec (.admbaseLoWrite v) s = .next { s with holding := v }
      ∧ exec (.cplbaseLoWrite v) s = .next { s with holding := v }
      ∧ exec (.admbaseHiWrite v) s = .next { s with admBase := v ++ s.holding }
      ∧ exec (.cplbaseHiWrite v) s = .next { s with cplBase := v ++ s.holding })
  ∧ (∀ (s : State) (v : Word32), Settled s → s.ctrl ≠ .off →
      exec (.admbaseLoWrite v) s = .next s ∧ exec (.cplbaseLoWrite v) s = .next s
      ∧ exec (.admbaseHiWrite v) s = .next s ∧ exec (.cplbaseHiWrite v) s = .next s)
  ∧ (∀ s : State, readValue .admbaseLo s = s.holding ∧ readValue .cplbaseLo s = s.holding)
  ∧ (∀ (s : State) (w : ReadWidth), Settled s → s.rstn = .high →
      exec (.admbaseHiRead w) s = .next { s with
        readData := laneBytes (s.admBase.extractLsb' 32 32) w, holding := s.admBase.extractLsb' 0 32 }
      ∧ exec (.cplbaseHiRead w) s = .next { s with
        readData := laneBytes (s.cplBase.extractLsb' 32 32) w, holding := s.cplBase.extractLsb' 0 32 })
  ∧ (∀ s : State,
      (∀ pin, ∃ t, exec (.powerOnReset pin) s = .next t
          ∧ t.holding = 0 ∧ t.admBase = 0 ∧ t.cplBase = 0)
      ∧ (s.rstn = .high → ∃ t, exec .ctrlReset s = .next t
          ∧ t.holding = 0 ∧ t.admBase = s.admBase ∧ t.cplBase = s.cplBase))

/-- While the controller is RUNNING or HALTED, writes to the base registers and RINGCFG change nothing, and no
command but a reset changes the geometry; in OFF, RINGCFG takes any written codes, which read back; it is 0
after a power-on reset and kept by a controller reset. R181. -/
def Obligations.GeometryIsLockedOutsideOff : Prop :=
  (∀ (s : State) (v : Word32), Settled s → s.ctrl ≠ .off →
      exec (.admbaseLoWrite v) s = .next s ∧ exec (.admbaseHiWrite v) s = .next s
      ∧ exec (.cplbaseLoWrite v) s = .next s ∧ exec (.cplbaseHiWrite v) s = .next s
      ∧ exec (.registerWrite .ringcfg false v) s = .next s)
  ∧ (∀ (c : Instr) (s t : State), s.ctrl ≠ .off → (∀ pin, c ≠ .powerOnReset pin) →
      exec c s = .next t →
      t.admBase = s.admBase ∧ t.cplBase = s.cplBase ∧ t.admCode = s.admCode ∧ t.cplCode = s.cplCode)
  ∧ (∀ (s : State) (v : Word32), Settled s → s.rstn = .high → s.ctrl = .off →
      ∃ t, exec (.registerWrite .ringcfg false v) s = .next t
        ∧ t = { s with admCode := v.extractLsb' 0 4, cplCode := v.extractLsb' 8 4 }
        ∧ readValue .ringcfg t = v &&& 0xF0F)
  ∧ (∀ s : State,
      (∀ pin, ∃ t, exec (.powerOnReset pin) s = .next t ∧ readValue .ringcfg t = 0)
      ∧ ∃ t, exec .ctrlReset s = .next t ∧ readValue .ringcfg t = readValue .ringcfg s)

/-- DEVID reads as 46120104h in every state, and a write to it is ignored. R174. -/
def Obligations.IdentificationIsConstant : Prop :=
  (∀ s : State, readValue .devid s = 0x46120104
    ∧ (readValue .devid s).extractLsb' 16 16 = 0x4612
    ∧ (readValue .devid s).extractLsb' 8 8 = 0x01 ∧ (readValue .devid s).extractLsb' 0 8 = 0x04)
  ∧ (∀ (s : State) (narrow : Bool) (v : Word32), Settled s →
      exec (.registerWrite .devid narrow v) s = .next s)

/-- Every other register write. A write to EVT clears each bit written with 1 and leaves the others, in every
controller state (R183). A narrow write of any register changes nothing (R173), nor does a write of STAT or
of CTRL without an action (R175); a POST write with ring id 6 or 7 is ignored and recorded (R133 case 2). -/
def Obligations.OtherRegisterWrites : Prop :=
  ∀ (s : State) (v : Word32), Settled s → s.rstn = .high →
    (∃ t, exec (.evtWrite v) s = .next t
      ∧ (∀ i : Fin 6, t.evt.getLsbD i = (s.evt.getLsbD i && !v.getLsbD i))
      ∧ t.evtMask = s.evtMask
      ∧ (t.irq = true ↔
          ∃ i : Fin 6, s.evt.getLsbD i = true ∧ v.getLsbD i = false ∧ s.evtMask.getLsbD i = true)
      ∧ SameExcept [.events] s t)
    ∧ (∀ reg : RegName, exec (.registerWrite reg true v) s = .next s)
    ∧ exec (.registerWrite .stat false v) s = .next s
    ∧ (v.getLsbD 0 = false → v.getLsbD 1 = false → exec (.registerWrite .ctrl false v) s = .next s)
    ∧ (6 ≤ (v.extractLsb' 16 3).toNat →
        ∃ t, exec (.registerWrite .post false v) s = .next t
          ∧ t.evt = s.evt ||| 0b100000#6 ∧ t.evtMask = s.evtMask
          ∧ t.stat = { s.stat with postRing := v.extractLsb' 16 3, postIndex := v.extractLsb' 0 16 }
          ∧ Block.Same { s with stat := t.stat } t .registers
          ∧ SameExcept [.registers, .events] s t)

/-! ## The bus master port -/

/-- The arbiter grants while the controller is RUNNING, once a device clock (the model's mark of it, log 17), to
the first requester that is ASKING: the completion writer, the result writer, the administrative
processor, then the group fetchers starting after the one granted last (R147). -/
def Obligations.ArbiterTakesRequestersInItsOrder : Prop :=
  ∀ s : State,
    let ready := s.ctrl = .running ∧ s.marks.grant = false
    (s.granted .completionWriter = true ↔ ready ∧ s.cpl.state = .asking)
    ∧ (s.granted .resultWriter = true ↔ ready ∧ s.writer.write = .asking ∧ s.cpl.state ≠ .asking)
    ∧ (s.granted .adminProcessor = true ↔
        ready ∧ s.admin.state = .asking ∧ s.writer.write ≠ .asking ∧ s.cpl.state ≠ .asking)
    ∧ (∀ g : GroupId, s.granted (.fetcher g) = true ↔
        ready ∧ s.fetcherAsks g = true
          ∧ s.admin.state ≠ .asking ∧ s.writer.write ≠ .asking ∧ s.cpl.state ≠ .asking
          ∧ ∀ k : GroupId, k < g - s.lastFetcher - 1 → s.fetcherAsks (s.lastFetcher + 1 + k) = false)
    ∧ (∀ g : GroupId, s.fetcherAsks g = true ↔
        s.ctrl = .running
          ∧ ((s.group g).state = .armed ∨ (s.group g).state = .running ∨ (s.group g).state = .starved)
          ∧ (s.group g).window.length < 6 ∧ (∀ e ∈ (s.group g).window, e.st ≠ .fetching)
          ∧ (s.group g).ring.span < (s.group g).ring.size
          ∧ s.outstanding (.fetcher g) = false
          ∧ 0 < ((s.group g).ring.tail + (s.group g).ring.size - (s.group g).ring.fetch)
              % (s.group g).ring.size)

/-- The answers to transactions issued before a reset are dropped, and an answer that arrives in HALTED is not
taken: only the bus changes (R150). In HALTED every command but the two resets, and every step that runs none of
them, keeps the groups, the pairs, the tokens, the sets, the rings and the capture path as they are (R61,
R101, R113, R123, R149); a passing device clock clears the model's marks (log 17). -/
def Obligations.LateAndHaltedAnswersChangeNothing : Prop :=
  (∀ (c : Instr) (s : State) (late : Bool) (r : Requester),
    c.wellFormed = true → answersTo c = some (late, r) →
      (late = true →
        exec c s = .next { s with bus := s.bus.eraseP fun x => x.requester == r && x.late })
      ∧ (late = false → s.ctrl = .halted →
        exec c s = .next { s with bus := s.bus.eraseP fun x => x.requester == r && !x.late }))
  ∧ (∀ (c : Instr) (s : State), Settled s → s.ctrl = .halted → c.wellFormed = true → isReset c = false →
      ∃ t, exec c s = .next t ∧ StaysHalted s t ∧ SameExcept [.registers, .events, .tripUnit, .port] s t)
  ∧ ∀ s : State, Settled s → s.ctrl = .halted →
      (∀ c ∈ s.pending.head?, c.wellFormed = true ∧ isReset c = false) →
      ∃ t, step s = .next t ∧ StaysHalted s t

/-! ## Fetching -/

/-- The grant of a group's read (R11, R23): a FETCHING entry for the slot at the fetch index joins the young end
of the window, the fetch index advances, the window span rises, and the 64-byte read is on the bus. -/
def Obligations.FetchIssueOpensAFetchingEntry : Prop :=
  ∀ (s : State) (g : GroupId), Settled s → s.granted (.fetcher g) = true →
    let x := s.group g
    ∃ t, exec (.groupFetchIssue g) s = .next t
      ∧ t.group g = { x with
          window := x.window ++ [{ slot := x.ring.fetch, st := .fetching }]
          ring := { x.ring with
            fetch := (x.ring.fetch + 1) % x.ring.size, span := x.ring.span + 1 } }
      ∧ t.bus = s.bus ++ [{ requester := .fetcher g
                            addr := x.ring.base + BitVec.ofNat 64 (64 * x.ring.fetch)
                            op := .readRecord
                            late := false }]
      ∧ BusOp.readRecord.bytes = 64
      ∧ t.lastFetcher = g ∧ t.marks.grant = true
      ∧ SameExcept [.group g, .port] s t

/-- The answer to a group's read, where it faults no group (R1, R8, R9, R24). An OK answer makes the FETCHING
entry READY with the copy of the slot, or BAD with MALFORMED; an ERROR answer makes it BAD with
FETCH_ERROR and no bytes; its counts are zero and its CRC is FFFFh, as `Entry` declares. The answer to a
cancelled read changes nothing but the bus. A copy is valid where it passes the checks of R8, one by one, on
its bytes; and the record's fields lie where R185 places them. -/
def Obligations.ReadAnswerSettlesTheFetchingEntry : Prop :=
  (∀ (c : Slot64) (mode : CountMode) (boundPairs : Nat),
      Seg.valid c mode boundPairs = true ↔ RecordPasses c mode boundPairs)
  ∧ (∀ c : Slot64, RecordLayout c)
  ∧ ∀ (s : State) (g : GroupId) (slot : Slot64), Settled s → Awaits s (.fetcher g) →
    let x := s.group g
    let settled := fun (f : Entry → Entry) =>
      { x with window := x.window.map fun e => if e.st = .fetching then f e else e }
    let ok := settled fun e =>
      if Seg.valid slot x.mode (s.boundPairs g).length = true
      then { slot := e.slot, st := .ready, copy := slot }
      else { slot := e.slot, st := .bad, copy := slot, status := some .malformed }
    let error := settled fun e => { slot := e.slot, st := .bad, copy := 0, status := some .fetchError }
    ((∀ e ∈ x.window, e.st ≠ .fetching) →
      (∃ t, exec (.groupReadOk false g slot) s = .next t
        ∧ AnswerTaken (.fetcher g) s t ∧ SameExcept [.port] s t)
      ∧ (∃ t, exec (.groupReadError false g) s = .next t
        ∧ AnswerTaken (.fetcher g) s t ∧ SameExcept [.port] s t))
    ∧ ((∃ e ∈ x.window, e.st = .fetching) →
      (ok.readFaults = false → ∃ t, exec (.groupReadOk false g slot) s = .next t
        ∧ t.group g = ok ∧ AnswerTaken (.fetcher g) s t ∧ SameExcept [.group g, .port] s t)
      ∧ (error.readFaults = false → ∃ t, exec (.groupReadError false g) s = .next t
        ∧ t.group g = error ∧ AnswerTaken (.fetcher g) s t ∧ SameExcept [.group g, .port] s t))

/-- An answered read faults an ARMED group whose oldest record is BAD and a STARVED group whose next record is
BAD (R27, R33, R35): every record of the window becomes RETIRING, a READY one with ABORTED, the counter
holds 0, FAULTED is added, and the group's capture work is removed and no other (R95, R96, R111). An ARMED
group's start set is broken (R42): its other members are STOPPED. Outside the set no group changes but for
the finishing of capture work, and no pair unit changes: neither state shows a waveform (R58). -/
def Obligations.BadRecordFaultsAnArmedOrStarvedGroup : Prop :=
  ∀ (s : State) (g : GroupId) (slot : Slot64), Settled s → RingLaw s → RestLaw s → SetLaw s →
    CaptureLaw s → OwnerLaw s → Awaits s (.fetcher g) → (∃ e ∈ (s.group g).window, e.st = .fetching) →
    let x := s.group g
    ∀ (c : Instr) (f : Entry → Entry),
      (c = .groupReadOk false g slot
          ∧ f = Entry.fetched slot (Seg.valid slot x.mode (s.boundPairs g).length))
        ∨ (c = .groupReadError false g ∧ f = Entry.fetchFailed) →
      let w := x.window.map fun e => if e.st = .fetching then f e else e
      (x.state = .armed ∧ ∃ e, w.head? = some e ∧ e.st = .bad)
        ∨ (x.state = .starved ∧ ∃ e, w.find? Entry.isWaiting = some e ∧ e.st = .bad) →
      ∃ t, exec c s = .next t
        ∧ t.group g = { x with
            window := s.retired g .aborted w, state := .faulted
            notices := if x.state = .armed then (x.notices.add .faulted).add .setBroken
              else x.notices.add .faulted
            counter := 0, slope := .up, pendingStop := .noStop }
        ∧ WorkRemoved (fun m => m == g) s t
        ∧ t.sets = (if x.state = .armed then s.sets.filter (fun u => !u.members.getLsbD g) else s.sets)
        ∧ (∀ m : GroupId, m ≠ g → x.state = .armed → s.sharesSet g m = true →
            t.group m = (s.group m).setBroken)
        ∧ (∀ m : GroupId, m ≠ g → ¬(x.state = .armed ∧ s.sharesSet g m = true) →
            t.Drains m (s.group m))
        ∧ AnswerTaken (.fetcher g) s t
        ∧ SameExcept (everyGroup ++ [.sets, .captureQueue, .converter, .resultWriter, .requests, .port]) s t

/-! ## Group ticks -/

/-- A group tick inside a period steps the counter of a group with an ACTIVE record by R48 and Table 3.1 (R49),
and the capture points of the new counter value trigger, in ascending point number (R82, R86); a tick of any
other group passes without effect (R26); the tick that would complete the period is the boundary. What a
trigger does to the record, the capture queue and the converter, `TriggerIsQueuedLostOrTruncated` states; in
the window it counts triggers and losses and sets CAPTURE_LOST or RESULT_TRUNCATED, and nothing more. The tick is
taken: the group has no other on this device clock (R47; log 17). -/
def Obligations.GroupTickStepsTheCounter : Prop :=
  ∀ (s : State) (g : GroupId), Settled s → s.tickDue g = true →
    (s.group g).atBoundary = false → (s.group g).atResume = false →
    let x := s.group g
    (x.producing = false →
      ∃ t, exec (.groupTick g) s = .next t ∧ TakesTick s t g ∧ SameExcept [.groupTicks] s t)
    ∧ ∀ e, x.active? = some e → x.producing = true →
      let stepped := match x.mode, x.slope with
        | .edge, _ => (x.counter + 1, x.slope)
        | .centre, .up =>
            if x.counter + 1 < Seg.period e.copy then (x.counter + 1, .up) else (x.counter, .down)
        | .centre, .down => (x.counter - 1, .down)
      let u := (s.setGroup g { x with counter := stepped.1, slope := stepped.2 }).triggers g
      let uncounted := fun f : Entry => { f with
        triggered := 0, capturesLost := 0
        flags := { f.flags with captureLost := false, resultTruncated := false } }
      (∃ t, exec (.groupTick g) s = .next t
        ∧ TakesTick s t g
        ∧ t.groups = u.groups ∧ t.captureQueue = u.captureQueue ∧ t.converter = u.converter
        ∧ t.marks.conv = u.marks.conv
        ∧ t.group g = { x with
            counter := stepped.1, slope := stepped.2, window := (t.group g).window }
        ∧ (t.group g).window.map uncounted = x.window.map uncounted
        ∧ (∀ f ∈ x.window, f.st ≠ .active → (∀ h ∈ x.window, h.slot = f.slot → h = f) →
            f ∈ (t.group g).window)
        ∧ (Seg.hasCapture e.copy = false →
            (t.group g).window = x.window ∧ SameExcept [.group g, .pairs, .groupTicks] s t)
        ∧ SameExcept [.group g, .pairs, .captureQueue, .converter, .groupTicks] s t)
      ∧ (match x.mode with
          | .edge => x.counter + 1 < Seg.period e.copy
          | .centre => x.slope = .up ∨ x.counter ≠ 0)

/-- On a group tick inside a period each bound pair's raw compare is formed from the new counter value (R51), and
in COMP and COMP_INV each output delays the start of its run and ends it without delay (R53, R54); the pins
show the levels of Table 3.4. A timer that reaches 0 leaves its output's becoming active to DEAD_TIME_EXPIRY
(log 7). -/
def Obligations.GroupTickFormsTheOutputs : Prop :=
  ∀ (s : State) (g : GroupId) (e : Entry), Settled s → s.tickDue g = true →
    (s.group g).atBoundary = false → (s.group g).producing = true → (s.group g).active? = some e →
    ∃ t, exec (.groupTick g) s = .next t
      ∧ PairsOfGroup s t g (RunsOn s t g e.copy (t.group g).counter)

/-- An output whose timer has reached 0 while its source stays active becomes active, and its pin takes the
active level (R53, R54); no other output moves. -/
def Obligations.DeadTimeExpiryActivatesTheOutput : Prop :=
  ∀ (s : State) (p : PairId) (o : Output), Settled s →
    let u := s.pair p
    s.selection u = .waveform → (u.mode = .comp ∨ u.mode = .compInv) →
    (match o with
      | .p => u.raw = true ∧ u.outP = ⟨0, false⟩
      | .n => u.raw = false ∧ u.outN = ⟨0, false⟩) →
    ∃ t, exec (.deadTimeExpiry p o) s = .next t
      ∧ (match o with
          | .p => t.pair p = { u with
              outP := ⟨0, true⟩, pins := ⟨u.mode.activeLevel, u.pins.n⟩ }
          | .n => t.pair p = { u with
              outN := ⟨0, true⟩, pins := ⟨u.pins.p, u.mode.activeLevel⟩ })
      ∧ (∀ q, q ≠ p → t.pair q = s.pair q)
      ∧ SameExcept [.pairs] s t

/-- A capture point triggers where its record is ACTIVE, the counter holds its value and, in CENTRE mode, the
slope is its own (R82), and the points of a tick are judged in ascending number (R86). A capture point that
triggers (R83, R88): beyond the capacity it truncates; otherwise it is counted, and its request joins the
capture queue, from which an IDLE converter takes the head at once (R91), which uses up the converter's tick of
this device clock (log 21), or, where sixteen wait, is lost. A point that does not trigger changes nothing. -/
def Obligations.TriggerIsQueuedLostOrTruncated : Prop :=
  (∀ (s : State) (g : GroupId),
      s.triggers g = (((s.triggerPoint g 0).triggerPoint g 1).triggerPoint g 2).triggerPoint g 3)
  ∧ (∀ (x : Group) (c : Slot64) (j : Nat), x.pointTriggers c j = true ↔
      Seg.hasCapture c = true ∧ j < Seg.pointCount c ∧ x.counter = Seg.pointValue c j
        ∧ (x.mode = .centre → x.slope = if Seg.pointSlope c j = 1 then .down else .up))
  ∧ (∀ (s : State) (g : GroupId) (j : Nat),
      (∀ e, (s.group g).active? = some e → (s.group g).pointTriggers e.copy j = false) →
      s.triggerPoint g j = s)
  ∧ ∀ (s : State) (g : GroupId) (j : Nat) (e : Entry),
    (s.group g).active? = some e → (s.group g).pointTriggers e.copy j = true →
    let position := e.periodsRun * Seg.pointCount e.copy + j
    let request : Request :=
      { group := g, slot := e.slot, position := position
        input := Seg.pointInput e.copy j, oversample := Seg.pointOversample e.copy j }
    let t := s.triggerPoint g j
    (Seg.capacity e.copy ≤ position →
      t = s.modEntry ⟨g, e.slot⟩ fun f => { f with flags := { f.flags with resultTruncated := true } })
    ∧ (position < Seg.capacity e.copy → 16 ≤ s.captureQueue.length →
      t = s.modEntry ⟨g, e.slot⟩ fun f =>
        { f with
          triggered := f.triggered + 1, capturesLost := f.capturesLost + 1
          flags := { f.flags with captureLost := true } })
    ∧ (position < Seg.capacity e.copy → s.captureQueue.length < 16 →
      t.groups = (s.modEntry ⟨g, e.slot⟩ fun f => { f with triggered := f.triggered + 1 }).groups
      ∧ (s.ctrl = .running ∧ s.converter.state = .idle →
          t.captureQueue = (s.captureQueue ++ [request]).tail
          ∧ t.converter = { s.converter with
              state := .converting, current := (s.captureQueue ++ [request]).head?
              step := 0, done := 0, sum := 0 }
          ∧ t.marks.conv = true
          ∧ SameExcept [.group g, .captureQueue, .converter] s t)
      ∧ (¬(s.ctrl = .running ∧ s.converter.state = .idle) →
          t.captureQueue = s.captureQueue ++ [request]
          ∧ SameExcept [.group g, .captureQueue] s t))

/-! ## Boundaries, starvation and start sets -/

/-- A boundary of a RUNNING group at which the record goes on or runs an extension (R29, R31). The period is
counted and the counter starts again at 0. A refused claim extends a record without HOLD, which counts the
extension and gains EXTENDED, and leaves a HOLD record holding. No token changes. The capture points of
counter value 0 trigger (R84), and the group's pairs run on, their raw compare formed from the counter at 0
(R51, R54, R60). A timer that reaches 0 leaves its output's becoming active to DEAD_TIME_EXPIRY (log 7). The
group's tick of this device clock is taken (R47; log 17). -/
def Obligations.BoundaryGoesOnOrExtends : Prop :=
  ∀ (s : State) (g : GroupId) (e : Entry), BoundaryOf s g e → (s.group g).state = .running →
    let x := s.group g
    let periods := satSucc32 e.periodsRun
    let goesOn := fun (extensions : Nat) (extended : Bool) =>
      let u := (s.setGroup g { x with
        counter := 0, slope := .up
        window := x.window.map fun f => if f.slot = e.slot then
          { f with
            periodsRun := periods, extensionPeriods := extensions
            flags := { f.flags with extended := extended } }
          else f }).triggers g
      ∃ t, exec (.periodBoundary g) s = .next t
        ∧ FollowsTriggers u t ∧ TakesTick s t g
        ∧ (∃ e', (t.group g).active? = some e' ∧ e'.slot = e.slot ∧ e'.copy = e.copy
            ∧ e'.status = e.status ∧ e'.periodsRun = periods ∧ e'.extensionPeriods = extensions
            ∧ e'.flags.extended = extended)
        ∧ PairsOfGroup s t g (RunsOn s t g e.copy 0)
        ∧ SameExcept (everyGroup ++ [.pairs, .captureQueue, .converter, .resultWriter, .requests, .groupTicks]) s t
    ((Seg.hold e.copy = false ∧ periods < Seg.repeats e.copy
        ∨ Seg.hold e.copy = true ∧ ∀ n, x.next? = some n → n.st ≠ .ready) →
      goesOn e.extensionPeriods e.flags.extended)
    ∧ ∀ n, x.next? = some n → n.st = .ready →
        runParts s.tokens (endParts e.copy ++ claimParts n.copy ++ startParts n.copy) = none →
        (Seg.hold e.copy = true → goesOn e.extensionPeriods e.flags.extended)
        ∧ (Seg.hold e.copy = false → Seg.repeats e.copy ≤ periods →
            goesOn (satSucc32 e.extensionPeriods) true)

/-- A boundary of a RUNNING group whose end candidate meets a READY next record and a granted request (R30): the
record ends OK, the next becomes ACTIVE with the counter at 0, the request's parts take effect, and a
saturated post marks its record (R68). The ended record drains where its capture work is not finished, and
retires at once where it is (R13; log 33). The successor's capture points of counter value 0 trigger (R84), and
the group's pairs run on with the successor's duties (R51, R54, R60). A timer that reaches 0 leaves its output's
becoming active to DEAD_TIME_EXPIRY (log 7). The group's tick of this device clock is taken (R47; log 17). -/
def Obligations.BoundaryTakesOver : Prop :=
  ∀ (s : State) (g : GroupId) (e n : Entry) (tokens : Vector Nat 16) (sats : List Bool),
    BoundaryOf s g e → (s.group g).state = .running →
    (s.group g).next? = some n → n.st = .ready →
    (Seg.hold e.copy = false → Seg.repeats e.copy ≤ satSucc32 e.periodsRun) →
    runParts s.tokens (endParts e.copy ++ claimParts n.copy ++ startParts n.copy) = some (tokens, sats) →
    let x := s.group g
    let endSaturated := (sats.take (endParts e.copy).length).any id
    let startSaturated := (sats.drop ((endParts e.copy).length + (claimParts n.copy).length)).any id
    let u := (s.setGroup g { x with
      counter := 0, slope := .up
      window := x.window.map fun f =>
        if f.slot = e.slot then
          { f with
            st := .draining, status := some .ok, periodsRun := satSucc32 e.periodsRun
            flags := { f.flags with tokenSaturated := f.flags.tokenSaturated || endSaturated } }
        else if f.slot = n.slot then
          { f with
            st := .active
            flags := { f.flags with tokenSaturated := f.flags.tokenSaturated || startSaturated } }
        else f }).triggers g
    ∃ t, exec (.periodBoundary g) s = .next t
      ∧ t.tokens = tokens
      ∧ FollowsTriggers u t ∧ TakesTick s t g
      ∧ (∃ e', (t.group g).active? = some e' ∧ e'.slot = n.slot ∧ e'.copy = n.copy
          ∧ e'.periodsRun = n.periodsRun ∧ e'.extensionPeriods = n.extensionPeriods
          ∧ e'.flags.tokenSaturated = (n.flags.tokenSaturated || startSaturated))
      ∧ (∃ o ∈ (t.group g).window,
          o = { e with
              st := if u.owesWork g e then .draining else .retiring
              status := some .ok, periodsRun := satSucc32 e.periodsRun
              flags := { e.flags with tokenSaturated := e.flags.tokenSaturated || endSaturated } })
      ∧ PairsOfGroup s t g (RunsOn s t g n.copy 0)
      ∧ SameExcept
          (everyGroup ++ [.pairs, .tokens, .captureQueue, .converter, .resultWriter, .requests, .groupTicks]) s t

/-- A boundary of a RUNNING group whose end candidate has no next record starves the group (R32); with a BAD next
record the group faults (R34): the record ends OK, its AT_END post is made, and at a fault every record
becomes RETIRING, the READY ones with ABORTED, and the capture work of the group is removed and no other
(R95, R96, R111). The group's pairs leave the waveform (R51, R55, R60). A starved group's record drains where its
capture work is not finished, and retires at once where it is (R13; log 33). The group's tick of this device
clock is taken (R47; log 17). -/
def Obligations.BoundaryStarvesOrFaults : Prop :=
  ∀ (s : State) (g : GroupId) (e : Entry), BoundaryOf s g e → (s.group g).state = .running →
    Seg.hold e.copy = false → Seg.repeats e.copy ≤ satSucc32 e.periodsRun →
    let x := s.group g
    let ended := fun f : Entry => if f.slot = e.slot then
        { e with
          st := .draining, status := some .ok, periodsRun := satSucc32 e.periodsRun
          flags := { e.flags with tokenSaturated := e.flags.tokenSaturated || endPostSaturates s e.copy } }
      else f
    let touched := everyGroup ++ [.pairs, .tokens, .captureQueue, .converter, .resultWriter, .requests, .groupTicks]
    (x.next? = none →
      ∃ t, exec (.periodBoundary g) s = .next t
        ∧ TakesTick s t g ∧ t.tokens = tokensAfterEndPost s e.copy
        ∧ FollowsTriggers (s.setGroup g { x with
            window := x.window.map ended
            counter := 0, slope := .up, state := .starved, notices := x.notices.add .starved }) t
        ∧ PairsOfGroup s t g (LeavesTheWaveform s t)
        ∧ SameExcept touched s t)
    ∧ ∀ n, x.next? = some n → n.st = .bad →
      ∃ t, exec (.periodBoundary g) s = .next t
        ∧ TakesTick s t g ∧ t.tokens = tokensAfterEndPost s e.copy
        ∧ t.group g = { x with
            window := s.retired g .ok (x.kept.map ended), ring := x.steppedBack
            counter := 0, slope := .up, pendingStop := .noStop, state := .faulted
            notices := x.notices.add .faulted }
        ∧ WorkRemoved (fun m => m == g) s t
        ∧ (∀ m, m ≠ g → t.Drains m (s.group m))
        ∧ PairsOfGroup s t g (LeavesTheWaveform s t)
        ∧ SameExcept touched s t

/-- A boundary of a STOPPING group (R37, R38). Under SEGMENT_END a record whose repeat has not run out goes on;
otherwise it ends, OK where its repeat has run out or it holds, and CUT under PERIOD_END where not. Then the
waiting records are retired, the pending stop is taken back, and the group is STOPPED once nothing drains; a
BAD next record faults it instead. A record that ends drains where its capture work is not finished, and
retires at once where it is (R13; log 33). The pairs run on with a record that goes on, a timer that reaches 0
leaving its output's becoming active to DEAD_TIME_EXPIRY (log 7), and leave the waveform with one that ends
(R51, R55, R60). The group's tick of this device clock is taken (R47; log 17). -/
def Obligations.BoundaryEndsAStoppingRecord : Prop :=
  ∀ (s : State) (g : GroupId) (e : Entry), BoundaryOf s g e → (s.group g).state = .stopping →
    let x := s.group g
    let done := Seg.hold e.copy || decide (Seg.repeats e.copy ≤ satSucc32 e.periodsRun)
    let saturated := e.flags.tokenSaturated || (done && endPostSaturates s e.copy)
    let ended := fun f : Entry => if f.slot = e.slot then
        { e with
          st := .draining, status := some (if done then .ok else .cut)
          periodsRun := satSucc32 e.periodsRun, flags := { e.flags with tokenSaturated := saturated } }
      else f
    let touched := everyGroup ++ [.pairs, .tokens, .captureQueue, .converter, .resultWriter, .requests, .groupTicks]
    (x.pendingStop = .segmentEnd → done = false →
      let u := (s.setGroup g { x with
        counter := 0, slope := .up
        window := x.window.map fun f => if f.slot = e.slot then
          { f with periodsRun := satSucc32 e.periodsRun } else f }).triggers g
      ∃ t, exec (.periodBoundary g) s = .next t
        ∧ FollowsTriggers u t ∧ TakesTick s t g
        ∧ (∃ e', (t.group g).active? = some e' ∧ e'.slot = e.slot ∧ e'.copy = e.copy
            ∧ e'.status = e.status ∧ e'.periodsRun = satSucc32 e.periodsRun
            ∧ e'.extensionPeriods = e.extensionPeriods)
        ∧ PairsOfGroup s t g (RunsOn s t g e.copy 0)
        ∧ SameExcept (everyGroup ++ [.pairs, .captureQueue, .converter, .resultWriter, .requests, .groupTicks]) s t)
    ∧ ((x.pendingStop = .periodEnd ∨ (x.pendingStop = .segmentEnd ∧ done = true)) →
      ∃ t, exec (.periodBoundary g) s = .next t
        ∧ TakesTick s t g ∧ t.tokens = (if done then tokensAfterEndPost s e.copy else s.tokens)
        ∧ ((∀ n, x.next? = some n → n.st ≠ .bad) →
            FollowsTriggers (s.setGroup g { x with
              window := x.window.map fun f => match f.st with
                | .ready => { f with st := .retiring, status := some .aborted }
                | .bad => { f with st := .retiring }
                | _ => ended f
              counter := 0, slope := .up, pendingStop := .noStop }) t
            ∧ ((t.group g).state = .stopped ↔ ∀ f ∈ (t.group g).window, f.st = .retiring))
        ∧ (∀ n, x.next? = some n → n.st = .bad →
            t.group g = { x with
              window := s.retired g .ok (x.window.map ended)
              counter := 0, slope := .up, pendingStop := .noStop, state := .faulted
              notices := x.notices.add .faulted }
            ∧ WorkRemoved (fun m => m == g) s t
            ∧ (∀ m, m ≠ g → t.Drains m (s.group m)))
        ∧ PairsOfGroup s t g (LeavesTheWaveform s t)
        ∧ SameExcept touched s t)

/-- On a group tick of a STARVED group whose next record is READY (R35): the granted request makes the record
ACTIVE and the group RUNNING, without a notice, its pairs enter the waveform, and its capture points of
counter value 0 trigger (R84); a refused request changes nothing. Either way the group's tick of this
device clock is taken (R47; log 17). -/
def Obligations.StarvedGroupResumes : Prop :=
  ∀ (s : State) (g : GroupId) (n : Entry), Settled s → RingLaw s → ActiveLaw s → s.tickDue g = true →
    (s.group g).state = .starved → (s.group g).next? = some n → n.st = .ready →
    let x := s.group g
    (runParts s.tokens (claimParts n.copy ++ startParts n.copy) = none →
      ∃ t, exec (.starvedResume g) s = .next t ∧ TakesTick s t g ∧ SameExcept [.groupTicks] s t)
    ∧ ∀ tokens sats,
      runParts s.tokens (claimParts n.copy ++ startParts n.copy) = some (tokens, sats) →
      let saturated := n.flags.tokenSaturated || (sats.drop (claimParts n.copy).length).any id
      let u := (s.setGroup g { x with
        state := .running, counter := 0, slope := .up
        window := x.window.map fun f => if f.slot = n.slot then
          { n with st := .active, flags := { n.flags with tokenSaturated := saturated } } else f }).triggers g
      ∃ t, exec (.starvedResume g) s = .next t
        ∧ TakesTick s t g ∧ t.tokens = tokens
        ∧ t.groups = u.groups ∧ t.captureQueue = u.captureQueue ∧ t.converter = u.converter
        ∧ t.marks.conv = u.marks.conv
        ∧ (∃ e', (t.group g).active? = some e' ∧ e'.slot = n.slot ∧ e'.copy = n.copy
            ∧ e'.periodsRun = n.periodsRun ∧ e'.extensionPeriods = n.extensionPeriods
            ∧ e'.flags.tokenSaturated = saturated)
        ∧ PairsOfGroup s t g (EntersTheWaveform s t g n.copy)
        ∧ SameExcept [.group g, .pairs, .tokens, .captureQueue, .converter, .groupTicks] s t

/-- A ready set sends its request on each device clock (R75 to R77): refused, nothing changes but the model's mark
that it has asked (log 17); granted, the set is removed and every member's first record becomes ACTIVE on
that device clock, its prescaler and counter cleared, with STARTED added and with TOKEN_SATURATED where its
own post saturates (R76). The capture points of counter value 0 trigger (R84), each member's in ascending
point number (R86); that the members come in ascending group number is the model's reading (log 4). Other groups
are not touched. -/
def Obligations.ReadySetFiresItsMembers : Prop :=
  ∀ (s : State) (g : GroupId) (u : StartSet), Settled s → SetLaw s → RingLaw s → ActiveLaw s →
    s.ctrl = .running → s.setOf g = some u → u.asked = false →
    (∀ m : GroupId, u.members.getLsbD m = true → ∃ e, (s.group m).window.head? = some e ∧ e.st = .ready) →
    (runParts s.tokens (s.setRequest u) = none →
      ∃ t, exec (.startSetFire g) s = .next t
        ∧ t.sets = s.sets.map (fun v => if v.members.getLsbD g then { v with asked := true } else v)
        ∧ SameExcept [.sets] s t)
    ∧ ∀ tokens sats, runParts s.tokens (s.setRequest u) = some (tokens, sats) →
      let members := allGroups.filter fun m : GroupId => u.members.getLsbD m
      let posters := members.filter fun m => (s.group m).window.head?.any fun e => Seg.postsAtStart e.copy
      let saturated := fun m : GroupId => posters.contains m
        && sats.getD (sats.length - posters.length + (posters.filter fun k => decide (k < m)).length) false
      let begun := fun m : GroupId => { s.group m with
        state := .running, presc := 0, counter := 0, slope := .up
        notices := (s.group m).notices.add .started
        window := (s.group m).window.modifyHead fun e => { e with
          st := .active, flags := { e.flags with tokenSaturated := e.flags.tokenSaturated || saturated m } } }
      let v := members.foldl (fun v m => v.triggers m) (members.foldl (fun v m => v.setGroup m (begun m)) s)
      ∃ t, exec (.startSetFire g) s = .next t
        ∧ t.tokens = tokens
        ∧ t.sets = s.sets.filter (fun v => !v.members.getLsbD g)
        ∧ t.groups = v.groups ∧ t.captureQueue = v.captureQueue ∧ t.converter = v.converter
        ∧ t.marks.conv = v.marks.conv
        ∧ (∀ m, t.marks.group.get m = (s.marks.group.get m || u.members.getLsbD m))
        ∧ (∀ m : GroupId, u.members.getLsbD m = true → ∀ e, (s.group m).window.head? = some e →
            (∃ e', (t.group m).active? = some e' ∧ e'.slot = e.slot ∧ e'.copy = e.copy
              ∧ e'.periodsRun = e.periodsRun ∧ e'.extensionPeriods = e.extensionPeriods
              ∧ e'.flags.tokenSaturated = (e.flags.tokenSaturated || saturated m))
            ∧ t.group m = { s.group m with
                state := .running, presc := 0, counter := 0, slope := .up
                notices := (s.group m).notices.add .started, window := (t.group m).window }
            ∧ (s.tripCondition m = false → ∀ p : PairId, (s.pair p).group = some m →
                EntersTheWaveform s t m e.copy p))
        ∧ (∀ m : GroupId, u.members.getLsbD m = false → t.group m = s.group m)
        ∧ (∀ p : PairId, (∀ m, (s.pair p).group = some m → u.members.getLsbD m = false) →
            t.pair p = s.pair p)
        ∧ SameExcept (everyGroup ++ [.pairs, .tokens, .sets, .captureQueue, .converter, .groupTicks]) s t

/-- The token table takes a request whole (R66 to R68): a claim is granted when the count, as the parts before it
left it, is at least its need; a post stops at 255 and is saturated only where the sum exceeds 255; a refused
claim refuses the whole request; and a request without a claim always takes effect. A record's wait clause
is one claim and its post clause one post (R5, R6). A set's request holds one claim for each token its
members wait on, of the sum of their needs, and then the members' AT_START posts in ascending group number
(R75). -/
def Obligations.TokenRequestsAreTakenWhole : Prop :=
  (∀ (tokens : Vector Nat 16) (k : TokenId) (need : Nat) (rest : List Part),
      runParts tokens (.claim k need :: rest)
        = if need ≤ tokens.get k then
            (runParts (tokens.set k (tokens.get k - need)) rest).map fun r => (r.1, false :: r.2)
          else none)
  ∧ (∀ (tokens : Vector Nat 16) (k : TokenId) (add : Nat) (rest : List Part),
      runParts tokens (.post k add :: rest)
        = (runParts (tokens.set k (min 255 (tokens.get k + add))) rest).map fun r =>
            (r.1, decide (255 < tokens.get k + add) :: r.2))
  ∧ (∀ (tokens : Vector Nat 16) (ps : List Part),
      (∀ p ∈ ps, ∃ k add, p = .post k add) → (runParts tokens ps).isSome = true)
  ∧ (∀ (tokens tokens' : Vector Nat 16) (ps : List Part) (sats : List Bool),
      runParts tokens ps = some (tokens', sats) →
      sats.length = ps.length
        ∧ ((∀ k : TokenId, tokens.get k ≤ 255) → ∀ k : TokenId, tokens'.get k ≤ 255)
        ∧ ∀ k : TokenId, (∀ p ∈ ps, (∀ n, p ≠ .claim k n) ∧ (∀ n, p ≠ .post k n)) →
            tokens'.get k = tokens.get k)
  ∧ (∀ c : Slot64,
      let post := Part.post (Fin.ofNat 16 (fieldOf c 0x16 1)) (fieldOf c 0x17 1)
      claimParts c = (if flagOf c 3 then [.claim (Fin.ofNat 16 (fieldOf c 0x14 1)) (fieldOf c 0x15 1)] else [])
        ∧ startParts c = (if flagOf c 4 = true ∧ fieldOf c 0x18 1 = 0 then [post] else [])
        ∧ endParts c = (if flagOf c 4 = true ∧ fieldOf c 0x18 1 = 1 then [post] else []))
  ∧ ∀ (s : State) (u : StartSet),
      let first := fun m : GroupId => if u.members.getLsbD m then (s.group m).window.head? else none
      let sumNeed := fun k : TokenId => (allGroups.map fun m => match first m with
        | some e =>
            if flagOf e.copy 3 = true ∧ fieldOf e.copy 0x14 1 % 16 = k.val then fieldOf e.copy 0x15 1 else 0
        | none => 0).sum
      let posts := allGroups.flatMap fun m => match first m with
        | some e =>
            if flagOf e.copy 4 = true ∧ fieldOf e.copy 0x18 1 = 0 then
              [Part.post (Fin.ofNat 16 (fieldOf e.copy 0x16 1)) (fieldOf e.copy 0x17 1)]
            else []
        | none => []
      ∃ claims : List Part, s.setRequest u = claims ++ posts ∧ claims.Nodup
        ∧ (∀ p ∈ claims, ∃ k need, p = .claim k need)
        ∧ ∀ (k : TokenId) (need : Nat), .claim k need ∈ claims ↔ 0 < need ∧ need = sumNeed k

/-! ## The converter and the result writer -/

/-- A converter tick raises the step of a CONVERTING converter and samples the input at step 1, and has no other
effect (R90, R92). At the end of a conversion (R92 step 14, R93), while conversions are left the next
begins; otherwise the result joins the result queue, the converter taking the capture queue's head at once
(R91), which uses up its tick of this device clock (log 21), or is held where the queue is full; a writer
without work makes it its job at once (R104), or drops it without a write where its record is faulted or has
passed its position (R105), after which a DRAINING record that still owes words is filled (R106). That the
tick to step 14 leaves the end of the conversion to CONVERSION_END is the model's reading (log 7). -/
def Obligations.ConversionsRunAndDeliverResults : Prop :=
  (∀ (s : State) (v : BitVec 12), Settled s →
    s.ctrl = .running → s.converter.presc = 0 → s.marks.conv = false →
    (s.converter.state = .converting → s.converter.step < 14 →
      exec (.converterTick v) s = .next { s with
        converter := { s.converter with
          step := s.converter.step + 1
          sample := if s.converter.step = 0 then v.toNat else s.converter.sample }
        marks := { s.marks with conv := true } })
    ∧ (s.converter.state ≠ .converting →
      exec (.converterTick v) s = .next { s with marks := { s.marks with conv := true } }))
  ∧ ∀ (s : State) (q : Request), Settled s → RingLaw s → s.ctrl = .running →
    s.converter.state = .converting → s.converter.step = 14 → s.converter.current = some q →
    let sum := s.converter.sum + s.converter.sample
    let done := s.converter.done + 1
    let r : ConvResult := { group := q.group, slot := q.slot, position := q.position, sum := sum }
    let next : Converter := match s.captureQueue.head? with
      | none => { s.converter with state := .idle, current := none, step := 0, done := 0, sum := 0 }
      | some h => { s.converter with
          state := .converting, current := some h, step := 0, done := 0, sum := 0 }
    let takes := fun t : State => t.marks.conv = (s.marks.conv || s.captureQueue.head?.isSome)
    let touched := everyGroup ++ [.captureQueue, .converter, .resultWriter, .requests]
    (done < q.oversample → exec .conversionEnd s = .next { s with
      converter := { s.converter with step := 0, done := done, sum := sum } })
    ∧ (q.oversample ≤ done → s.writer.job.isSome = true → s.writer.queue.length < 4 →
      ∃ t, exec .conversionEnd s = .next t
        ∧ t.writer.queue = s.writer.queue ++ [r] ∧ t.writer.job = s.writer.job
        ∧ t.converter = next ∧ t.captureQueue = s.captureQueue.tail ∧ takes t
        ∧ (CaptureLaw s → t.writer = { s.writer with queue := s.writer.queue ++ [r] } ∧ t.groups = s.groups)
        ∧ (∀ m, t.Drains m (s.group m)) ∧ SameExcept touched s t)
    ∧ (q.oversample ≤ done → s.writer.job.isSome = true → 4 ≤ s.writer.queue.length →
      ∃ t, exec .conversionEnd s = .next t
        ∧ t.writer.queue = s.writer.queue ∧ t.writer.job = s.writer.job
        ∧ t.converter = { s.converter with
            state := .holding, held := some r, current := none, step := 0, done := 0, sum := 0 }
        ∧ t.captureQueue = s.captureQueue ∧ t.marks.conv = s.marks.conv
        ∧ (CaptureLaw s → t.writer = s.writer ∧ t.groups = s.groups)
        ∧ (∀ m, t.Drains m (s.group m)) ∧ SameExcept touched s t)
    ∧ (q.oversample ≤ done → s.writer.job = none → s.writer.queue = [] → s.writer.fill = [] →
      (∀ m, ∀ f ∈ (s.group m).window, f.st = .draining → s.inHand (f.ref m) = true) →
      ∀ e, s.entry? r.ref = some e →
      let dropped := e.faulted = true ∨ r.position < e.nextPos
      let fills := e.st = .draining ∧ e.owes = true ∧ s.hasRequest r.ref = false ∧ s.isHeld r.ref = false
      ∃ t, exec .conversionEnd s = .next t
        ∧ t.writer.job = (if ¬dropped then some (.result r)
            else if fills then some (.fill r.ref e.triggered) else none)
        ∧ t.writer.queue = [] ∧ t.writer.fill = []
        ∧ t.writer.lastSource = (if dropped ∧ fills then .fillList else .resultQueue)
        ∧ t.writer.onBus = s.writer.onBus
        ∧ t.converter = next ∧ t.captureQueue = s.captureQueue.tail ∧ takes t
        ∧ (∀ m, t.Drains m (s.group m)) ∧ SameExcept touched s t)

/-- The grant of a result write (R105 to R107, R190): the word of the job's record at its next position, MISSED
unless it is the result's own, goes to the result address plus twice the position, and the next position
rises by one. -/
def Obligations.ResultWriteCarriesTheNextWord : Prop :=
  (∀ (s : State) (j : Job) (e : Entry), Settled s → s.granted .resultWriter = true →
    s.writer.job = some j → s.entry? j.ref = some e →
    let word : Word16 := match j with
      | .result r => if e.nextPos = r.position then resultWord r.sum else 0x8000
      | .fill _ _ => 0x8000
    ∃ t, exec .resultWriteIssue s = .next t
      ∧ t.bus = s.bus ++ [{ requester := .resultWriter
                            addr := Seg.resultAddr e.copy + BitVec.ofNat 64 (2 * e.nextPos)
                            op := .writeWord word
                            late := false }]
      ∧ (BusOp.writeWord word).bytes = 2
      ∧ t.group j.ref.group = { s.group j.ref.group with
          window := (s.group j.ref.group).window.map fun f =>
            if f.slot = j.ref.slot then { f with nextPos := f.nextPos + 1 } else f }
      ∧ t.writer = { s.writer with write := .onBus, onBus := some ⟨j.ref, word⟩ }
      ∧ t.lastFetcher = s.lastFetcher ∧ t.marks.grant = true
      ∧ SameExcept [.group j.ref.group, .resultWriter, .requests, .port] s t)
  ∧ ∀ sum : Nat, sum ≤ 32760 → (resultWord sum).toNat = sum

/-- The answer to a result write (R108, R109). An OK counts the word and takes it into the CRC, low byte first; an
ERROR gives RESULT_FAULT, sets the faulted mark and ends the job; the answer for a RETIRING record is not
counted. A job with a position left asks for its next write, and an answer that ends no job leaves the rest of
the capture path as it is; the OK of its last write ends it, as an ERROR does, and the writer chooses its next
job at once (R104, R107): by turns where both sources hold work, from the one that holds work where only one
does, whichever was served last. A result whose record is faulted or has passed its position
gives no job: it is dropped, and the writer chooses again (R105). A result that a HOLDING converter holds joins
the tail of the result queue when a result is taken, and the converter takes the capture queue's head (R94). A
DRAINING record with nothing in hand and not listed joins the tail of the fill list where it owes words (R106),
and goes to RETIRING where it owes none (R110; log 33). -/
def Obligations.ResultAnswerIsCountedOnce : Prop :=
  (∀ c w : Word16, crcWord c w = byteIntoCrc (byteIntoCrc c (w.extractLsb' 0 8)) (w.extractLsb' 8 8))
  ∧ (∀ (s : State) (ref : EntryRef) (e : Entry), s.entry? ref = some e →
    let free := (∀ q ∈ s.captureQueue, q.ref ≠ ref) ∧ (∀ q ∈ s.converter.current, q.ref ≠ ref)
      ∧ (∀ r ∈ s.converter.held, r.ref ≠ ref) ∧ (∀ r ∈ s.writer.queue, r.ref ≠ ref)
      ∧ (∀ j ∈ s.writer.job, j.ref ≠ ref) ∧ ref ∉ s.writer.fill
    let owes := e.nextPos < e.triggered ∧ e.faulted = false
    (e.st = .draining → free → owes →
      s.drainOne ref = { s with writer := { s.writer with fill := s.writer.fill ++ [ref] } })
    ∧ (e.st = .draining → free → ¬owes →
      s.drainOne ref = s.modEntry ref fun f => { f with st := .retiring })
    ∧ (¬(e.st = .draining ∧ free) → s.drainOne ref = s))
  ∧ (∀ s : State, RingLaw s → ∀ m, ∀ f ∈ (s.drain.group m).window, f.st = .draining →
      s.drain.inHand (f.ref m) = true ∨ s.drain.inFill (f.ref m) = true)
  ∧ ∀ (s : State) (w : WordOnBus) (e : Entry), Settled s → RingLaw s → Awaits s .resultWriter →
    s.writer.onBus = some w → s.entry? w.ref = some e →
    let touched := everyGroup ++ [.captureQueue, .converter, .resultWriter, .requests, .port]
    let withEntry := fun (counted : Entry) (m : GroupId) =>
      if m = w.ref.group then Group.modSlot w.ref.slot (fun _ => counted) (s.group m) else s.group m
    let okEntry := { e with wordsWritten := e.wordsWritten + 1, crc := crcWord e.crc w.word }
    let errorEntry := { e with flags := { e.flags with resultFault := true }, faulted := true }
    let stays := fun t : State =>
      t.converter = s.converter ∧ t.captureQueue = s.captureQueue ∧ t.marks.conv = s.marks.conv
    let freed := fun t : State =>
      if s.converter.state = .holding then
        t.converter = s.converter.freed s.captureQueue ∧ t.captureQueue = s.captureQueue.tail
          ∧ t.marks.conv = (s.marks.conv || s.captureQueue.head?.isSome)
      else stays t
    let after := fun (c : Instr) (counted : Entry) =>
      ∃ t f, exec c s = .next t ∧ t.entry? w.ref = some f
        ∧ (f = counted ∨ (e.st = .draining ∧ f = { counted with st := .retiring }))
        ∧ t.writer.onBus = none
        ∧ (∀ m, t.Drains m (withEntry counted m))
        ∧ (t.converter = s.converter → t.marks.conv = s.marks.conv)
        ∧ AnswerTaken .resultWriter s t ∧ SameExcept touched s t
    let onlyAnswers := fun (c : Instr) (counted : Entry) =>
      ∃ t, exec c s = .next t ∧ (∀ m, t.group m = withEntry counted m) ∧ stays t
        ∧ t.writer = { s.writer with
            onBus := none, write := if s.writer.job.isSome then .asking else .idle }
    let endsTheJob := fun (c : Instr) (counted : Entry) (j : Job) =>
      let dropped := fun r : ConvResult =>
        ∀ f ∈ (if r.ref = w.ref then some counted else s.entry? r.ref), f.faulted = true ∨ r.position < f.nextPos
      let fills := counted.st = .draining ∧ counted.owes = true ∧ s.hasRequest w.ref = false
        ∧ s.isConverting w.ref = false ∧ s.isHeld w.ref = false ∧ s.hasResult w.ref = false
        ∧ s.inFill w.ref = false
      let joined := if fills then [w.ref] else []
      ∃ t, exec c s = .next t
        ∧ (s.inFill w.ref = false → t.writer.job ≠ some j)
        ∧ (s.writer.queue = [] → s.writer.fill = [] → s.converter.state ≠ .holding →
            (∀ m, ∀ f ∈ (s.group m).window, f.st = .draining → f.ref m ≠ w.ref → s.inHand (f.ref m) = true) →
            t.writer.job = (if fills then some (.fill w.ref e.triggered) else none)
              ∧ t.writer.write = (if fills then .asking else .idle))
        ∧ (∀ r rest, s.writer.queue = r :: rest → ¬dropped r → s.writer.lastSource = .fillList →
            t.writer.job = some (.result r) ∧ t.writer.lastSource = .resultQueue ∧ t.writer.write = .asking
              ∧ (CaptureLaw s → t.writer.queue = rest ++ s.converter.held.toList ∧ freed t
                  ∧ t.writer.fill = s.writer.fill ++ joined))
        ∧ (∀ ref rest f, s.writer.fill = ref :: rest → s.entry? ref = some f →
            let turn := s.writer.lastSource = .resultQueue
              ∨ (s.writer.queue = [] ∧ s.converter.state ≠ .holding)
            (turn ∨ ∃ r, s.writer.queue.head? = some r ∧ dropped r) →
            t.writer.job = some (.fill ref f.triggered) ∧ t.writer.lastSource = .fillList
              ∧ t.writer.write = .asking
              ∧ (turn → CaptureLaw s → t.writer.queue = s.writer.queue ∧ stays t
                  ∧ t.writer.fill = rest ++ joined))
        ∧ (∀ r, dropped r → t.writer.job ≠ some (.result r))
        ∧ (s.writer.fill = [] → s.writer.queue.length ≤ 4 → s.converter.state ≠ .holding ∨ CaptureLaw s →
            (∀ m, ∀ f ∈ (s.group m).window, f.st ≠ .draining) →
            let waiting := if s.converter.state = .holding then s.writer.queue ++ s.converter.held.toList
              else s.writer.queue
            let taken := waiting.dropWhile fun r => decide (dropped r)
            t.writer.job = taken.head?.map Job.result ∧ t.writer.queue = taken.tail
              ∧ t.writer.fill = []
              ∧ t.writer.lastSource = (if waiting = [] then s.writer.lastSource else .resultQueue)
              ∧ t.writer.write = (if taken = [] then .idle else .asking)
              ∧ (CaptureLaw s → freed t))
    (e.st = .retiring →
      after (.resultWriteOk false) e ∧ after (.resultWriteError false) e
        ∧ (CaptureLaw s → OwnerLaw s →
          onlyAnswers (.resultWriteOk false) e ∧ onlyAnswers (.resultWriteError false) e))
    ∧ (e.st ≠ .retiring →
      after (.resultWriteOk false) okEntry ∧ after (.resultWriteError false) errorEntry)
    ∧ (e.st ≠ .retiring → ∀ j, s.writer.job = some j → j.ref = w.ref →
      (e.nextPos < j.limit →
        (∃ t, exec (.resultWriteOk false) s = .next t ∧ t.writer.job = some j ∧ t.writer.write = .asking)
          ∧ (CaptureLaw s → onlyAnswers (.resultWriteOk false) okEntry))
      ∧ (j.limit ≤ e.nextPos → endsTheJob (.resultWriteOk false) okEntry j)
      ∧ endsTheJob (.resultWriteError false) errorEntry j)
    ∧ (e.st ≠ .retiring → s.inFill w.ref = false →
      ∃ t, exec (.resultWriteError false) s = .next t ∧ t.hasJob w.ref = false)

/-! ## Records and notices leave -/

/-- The oldest record leaves when it is RETIRING, no result write of its own is on the bus, and it is silent or
the holding queue has room (R16, R17): the retire index moves on (R19), and a record that is not silent
leaves its completion entry (R18). Otherwise it stays. A notice is queued with the kinds, the state and the
retire index of its happening where there is room and no record competes for it, and the set is emptied;
otherwise it waits (R44, R45). That a RETIRING record has its status, `EveryStepKeepsRestingWindowsRetiring`
states. -/
def Obligations.RecordsAndNoticesJoinTheHoldingQueue : Prop :=
  ∀ (s : State) (g : GroupId), Settled s → s.ctrl = .running →
    let x := s.group g
    let silent := fun e : Entry =>
      decide (e.status = some .ok ∧ e.flags = {} ∧ Seg.complete e.copy = false)
    let passed := fun e : Entry => decide (e.st = .retiring) && silent e
    (∀ (e : Entry) (rest : List Entry) (status : SegStatus), x.window = e :: rest →
      e.st = .retiring → e.status = some status → s.writeOnBus (e.ref g) = false →
      (silent e = true ∨ x.queue.length < 4) →
      let ring := if rest = [] then { x.ring with retire := x.ring.fetch, span := 0 }
        else { x.ring with retire := (x.ring.retire + 1) % x.ring.size, span := x.ring.span - 1 }
      ∃ t, exec (.recordLeave g) s = .next t
        ∧ t.group g = { x with
            window := rest
            ring := ring
            queue := if silent e then x.queue else x.queue ++
              [.segment g (Seg.tag e.copy) status (Seg.notify e.copy) e.flags ring.retire
                e.wordsWritten e.crc e.capturesLost e.periodsRun e.extensionPeriods] }
        ∧ SameExcept [.group g, .requests] s t)
    ∧ (∀ (e : Entry) (rest : List Entry), x.window = e :: rest →
      (e.st ≠ .retiring ∨ s.writeOnBus (e.ref g) = true ∨ (silent e = false ∧ 4 ≤ x.queue.length)) →
      exec (.recordLeave g) s = .next s)
    ∧ (x.window = [] → exec (.recordLeave g) s = .next s)
    ∧ (x.notices ≠ {} → x.queue.length < 4 →
      (∀ e, x.window.find? (fun f => !passed f) = some e →
        ¬(e.st = .retiring ∧ s.writeOnBus (e.ref g) = false)) →
      ∃ t, exec (.noticeQueue g) s = .next t
        ∧ t.group g = { x with
            queue := x.queue ++ [.notice g x.notices x.state x.ring.retire], notices := {} }
        ∧ SameExcept [.group g, .requests] s t)
    ∧ ((x.notices = {} ∨ 4 ≤ x.queue.length
        ∨ ∃ e, x.window.find? (fun f => !passed f) = some e
          ∧ e.st = .retiring ∧ s.writeOnBus (e.ref g) = false) →
      exec (.noticeQueue g) s = .next s)

/-! ## The administrative fetch and the completion writer -/

/-- The grant of a command read (R137) and of a completion write (R142): the head of the first holding queue after
the one last served goes to the write index with the current lap, the write index advances, the lap toggles
at the wrap, and the unreleased count rises. The 32 bytes of an entry are its fields at the places of Table
11.5, every other byte 0 (R187 to R189). -/
def Obligations.GrantedReadsAndWritesAdvanceTheirRings : Prop :=
  (∀ (e : CplEntry) (lap : Bool), (e.encode lap).toNat = spelled (entryFields lap e))
  ∧ (∀ s : State, Settled s → s.granted .adminProcessor = true →
    ∃ t, exec .adminFetchIssue s = .next t
      ∧ t.bus = s.bus ++ [{ requester := .adminProcessor
                            addr := s.admBase + BitVec.ofNat 64 (32 * s.admin.fetch)
                            op := .readCommand
                            late := false }]
      ∧ BusOp.readCommand.bytes = 32
      ∧ t.admin = { s.admin with
          fetch := (s.admin.fetch + 1) % 2 ^ s.admCode.toNat, state := .onBus }
      ∧ t.lastFetcher = s.lastFetcher ∧ t.marks.grant = true
      ∧ SameExcept [.admin, .requests, .port] s t)
  ∧ ∀ (s : State) (v : Server) (e : CplEntry) (rest : List CplEntry), Settled s →
    s.granted .completionWriter = true → s.holdingQueue v = e :: rest →
    (∀ u ∈ (serverOrder s.cpl.lastServed).takeWhile (fun u => u != v), s.holdingQueue u = []) →
    ∃ t, exec .completionWriteIssue s = .next t
      ∧ t.bus = s.bus ++ [{ requester := .completionWriter
                            addr := s.cplBase + BitVec.ofNat 64 (32 * s.cpl.write)
                            op := .writeEntry (e.encode s.cpl.lap)
                            late := false }]
      ∧ (BusOp.writeEntry (e.encode s.cpl.lap)).bytes = 32
      ∧ (e.encode s.cpl.lap).getLsbD 0 = s.cpl.lap
      ∧ t.holdingQueue v = rest ∧ (∀ u, u ≠ v → t.holdingQueue u = s.holdingQueue u)
      ∧ (∀ g, t.group g = { s.group g with queue := (t.group g).queue })
      ∧ t.admin.tail = s.admin.tail ∧ t.admin.fetch = s.admin.fetch
      ∧ t.cpl = { s.cpl with
          write := (s.cpl.write + 1) % 2 ^ s.cplCode.toNat
          lap := if s.cpl.write + 1 = 2 ^ s.cplCode.toNat then !s.cpl.lap else s.cpl.lap
          unreleased := s.cpl.unreleased + 1
          state := .onBus, lastServed := v, inFlight := some e }
      ∧ t.lastFetcher = s.lastFetcher ∧ t.marks.grant = true
      ∧ SameExcept (everyGroup ++ [.admin, .completion, .requests, .port]) s t

/-- The OK answer to a completion write sets the event bit of the entry's form (Table 8.5) and frees the writer
(R143). An ERROR answer to an administrative read or to a completion write halts the controller (R139,
R144, R149, R177): the halt cause and EVT.HALT are set, every bound pair moves to its safe levels (R61), the
requester stays ON_BUS (R139; log 11 for the completion writer), and everything else keeps its value. -/
def Obligations.CompletionAnswersAndFatalErrors : Prop :=
  (∀ (s : State) (e : CplEntry), Settled s → Awaits s .completionWriter → s.cpl.inFlight = some e →
    ∃ t, exec (.completionWriteOk false) s = .next t
      ∧ t.evt = s.evt ||| (match e with
          | .segment _ _ _ notify _ _ _ _ _ _ _ => if notify then 0b000001 else 0
          | .admin _ _ _ _ _ => 0b000010
          | .notice _ _ _ _ => 0b000100)
      ∧ t.evtMask = s.evtMask
      ∧ t.cpl = { s.cpl with state := t.cpl.state, inFlight := none } ∧ t.cpl.state ≠ .onBus
      ∧ AnswerTaken .completionWriter s t
      ∧ SameExcept [.events, .completion, .requests, .port] s t)
  ∧ ∀ s : State, Settled s →
    let halted := fun (cause : HaltCause) (t : State) =>
      t.ctrl = .halted ∧ t.stat = { s.stat with cause := cause }
        ∧ t.holding = s.holding ∧ t.admBase = s.admBase ∧ t.cplBase = s.cplBase
        ∧ t.admCode = s.admCode ∧ t.cplCode = s.cplCode ∧ t.readData = s.readData
        ∧ t.evt = s.evt ||| 0b010000#6 ∧ t.evtMask = s.evtMask
        ∧ (∀ p, t.pair p =
            if (s.pair p).group = none then s.pair p else { s.pair p with pins := (s.pair p).safe })
    (Awaits s .adminProcessor → s.admin.state = .onBus →
      ∃ t, exec (.adminReadError false) s = .next t ∧ halted .adminFetch t
        ∧ t.admin = s.admin
        ∧ AnswerTaken .adminProcessor s t
        ∧ SameExcept [.registers, .events, .pairs, .requests, .port] s t)
    ∧ (Awaits s .completionWriter → s.cpl.state = .onBus →
      ∃ t, exec (.completionWriteError false) s = .next t ∧ halted .completionWrite t
        ∧ t.cpl = { s.cpl with inFlight := none }
        ∧ AnswerTaken .completionWriter s t
        ∧ SameExcept [.registers, .events, .pairs, .completion, .requests, .port] s t)

/-! ## The trip unit -/

/-- A sample tick (R116, R117): a sample that agrees with the filtered level clears the run count, one that
differs raises it, and one that completes the run is left for FILTERED_LEVEL_CHANGE (log 8), which changes the
filtered level; a change to active on a line with a non-empty mask sets the latch and EVT.TRIP (R118). -/
def Obligations.TripLinesAreFilteredAndLatched : Prop :=
  (∀ (s : State) (pins : Vector Level 4), Settled s → s.rstn = .high → s.tripPresc = 0 →
    s.marks.trip = false →
    ∃ t, exec (.tripSample pins) s = .next t
      ∧ (∀ l : LineId,
          let ln := s.line l
          t.line l =
            if decide (pins.get l = ln.active) = ln.filtered then { ln with run := 0, sample := none }
            else if ln.run < ln.filterLen then { ln with run := ln.run + 1, sample := none }
            else { ln with sample := some (pins.get l) })
      ∧ t.tripPresc = s.tripPresc ∧ t.marks.trip = true
      ∧ SameExcept [.tripUnit] s t)
  ∧ ∀ (s : State) (l : LineId) (level : Level), Settled s → s.rstn = .high →
    (s.line l).sample = some level →
    let ln := s.line l
    let rises := ln.filtered = false ∧ ln.mask ≠ 0
    (decide (level = ln.active) ≠ ln.filtered → ln.filterLen ≤ ln.run →
      ∃ t, exec (.filteredLevelChange l) s = .next t
        ∧ t.line l = { ln with
            filtered := !ln.filtered, run := 0, sample := none
            latch := if rises then true else ln.latch }
        ∧ (∀ m, m ≠ l → t.line m = s.line m) ∧ t.tripPresc = s.tripPresc ∧ t.marks.trip = s.marks.trip
        ∧ t.evt = (if rises then s.evt ||| 0b001000#6 else s.evt) ∧ t.evtMask = s.evtMask
        ∧ (¬rises → SameExcept [.tripUnit] s t)
        ∧ (s.ctrl ≠ .running → SameExcept [.tripUnit, .events, .pairs] s t)
        ∧ (rises → ∀ p g, (s.pair p).group = some g → ln.mask.getLsbD g = true →
            (t.pair p).pins = (s.pair p).safe))
    ∧ (¬(decide (level = ln.active) ≠ ln.filtered ∧ ln.filterLen ≤ ln.run) →
      ∃ t, exec (.filteredLevelChange l) s = .next t
        ∧ t.line l = { ln with
            run := if decide (level = ln.active) = ln.filtered then 0 else ln.run + 1, sample := none }
        ∧ (∀ m, m ≠ l → t.line m = s.line m) ∧ t.tripPresc = s.tripPresc ∧ t.marks.trip = s.marks.trip
        ∧ SameExcept [.tripUnit] s t)

/-- A line that latches while the controller is RUNNING moves every bound group whose trip condition becomes true
to TRIPPED (R121, R122): the ACTIVE record ends TRIPPED, READY records are ABORTED, every record is RETIRING,
a FETCHING entry is cancelled (R25), the capture work of these groups is removed and no other (R95, R96,
R111), RESULT_INCOMPLETE being judged before any of it is removed (for several groups the model's choice, log
34), and the sets of ARMED ones are broken (R42). An UNBOUND group stays as it is, a group outside these sets
changes only by the finishing of capture work, and no token request is made. The pairs of the groups
whose condition becomes true, UNBOUND ones too, go to their safe levels, and no other pair unit changes (R55,
R58, R121). -/
def Obligations.TripMovesEveryNamedGroup : Prop :=
  ∀ (s : State) (l : LineId) (level : Level), Settled s → RingLaw s → RestLaw s → SetLaw s → TripLaw s →
    ActiveLaw s → CaptureLaw s → OwnerLaw s → s.ctrl = .running → s.rstn = .high →
    (s.line l).sample = some level →
    decide (level = (s.line l).active) ≠ (s.line l).filtered → (s.line l).filterLen ≤ (s.line l).run →
    (s.line l).filtered = false →
    let trips := fun m : GroupId => (s.line l).mask.getLsbD m && !s.tripCondition m
    let breaks := fun u : StartSet => allGroups.any fun m : GroupId => u.members.getLsbD m && trips m
    ∃ t, exec (.filteredLevelChange l) s = .next t
      ∧ (∀ g : GroupId, trips g = true →
          let x := s.group g
          let y := t.group g
          t.tripCondition g = true
          ∧ (x.state = .unbound → y = x)
          ∧ (x.state ≠ .unbound → y = { x with
              window := s.retired g .tripped x.kept, ring := x.steppedBack, state := .tripped
              notices := if x.state = .armed then (x.notices.add .tripped).add .setBroken
                else x.notices.add .tripped
              counter := 0, slope := .up, pendingStop := .noStop }))
      ∧ (∀ m : GroupId, trips m = false → (∃ u ∈ s.sets, u.members.getLsbD m = true ∧ breaks u = true) →
          t.group m = (s.group m).setBroken)
      ∧ (∀ m : GroupId, trips m = false → (∀ u ∈ s.sets, u.members.getLsbD m = true → breaks u = false) →
          t.Drains m (s.group m))
      ∧ t.sets = s.sets.filter (fun u => !breaks u)
      ∧ WorkRemoved trips s t
      ∧ (∀ (p : PairId) (g : GroupId), (s.pair p).group = some g → trips g = true → GoesSafe s t p)
      ∧ (∀ p : PairId, (∀ g, (s.pair p).group = some g → trips g = false) → t.pair p = s.pair p)
      ∧ SameExcept (everyGroup ++ [.events, .pairs, .sets, .captureQueue, .converter, .resultWriter,
          .tripUnit, .requests]) s t

/-! ## Administrative commands -/

/-- BIND_RING, UNBIND_RING and SET_GROUP (R22, R152, R154 to R157): which parameters give BAD_PARAM, which group
states BAD_STATE and BUSY, and what an accepted command sets. That an accepted SET_GROUP leaves the group tick
of its device clock due, also where the group has had its tick on it, is the model's reading (log 21). -/
def Obligations.RingAndGroupCommands : Prop :=
  ∀ (s : State) (cmd : Slot32), Settled s → Awaits s .adminProcessor →
    (opcodeOf cmd = 0x01 →
      let params := byteOf cmd 4 < 4 ∧ 2 ≤ numberOf cmd ∧ numberOf cmd ≤ 12
        ∧ (cmd.extractLsb' 192 64).toNat % 64 = 0
        ∧ OnlyUses cmd [4, 12, 13, 24, 25, 26, 27, 28, 29, 30, 31]
      (¬params → Refused (.bindRing false cmd) cmd .badParam s)
      ∧ (params → ∀ g : GroupId, byteOf cmd 4 = g →
        let x := s.group g
        (x.state ≠ .unbound → x.state ≠ .stopped → Refused (.bindRing false cmd) cmd .badState s)
        ∧ (x.state = .stopped → x.window ≠ [] → Refused (.bindRing false cmd) cmd .busy s)
        ∧ (x.state = .unbound ∨ (x.state = .stopped ∧ x.window = []) →
          ∃ t, exec (.bindRing false cmd) s = .next t
            ∧ t.group g = { x with
                ring := { bound := true, base := cmd.extractLsb' 192 64, size := 2 ^ numberOf cmd
                          tail := 0, fetch := 0, retire := 0, span := 0 }
                state := if x.state = .unbound ∧ s.tripCondition g = true then .tripped else .stopped
                notices := if x.state = .unbound ∧ s.tripCondition g = true
                  then x.notices.add .tripped else x.notices }
            ∧ Reported cmd .ok 0 s t ∧ SameExcept [.group g, .admin, .requests, .port] s t)))
    ∧ (opcodeOf cmd = 0x02 →
      let params := byteOf cmd 4 < 4 ∧ OnlyUses cmd [4]
      (¬params → Refused (.unbindRing false cmd) cmd .badParam s)
      ∧ (params → ∀ g : GroupId, byteOf cmd 4 = g →
        let x := s.group g
        (x.state ≠ .stopped → Refused (.unbindRing false cmd) cmd .badState s)
        ∧ (x.state = .stopped → x.window ≠ [] → Refused (.unbindRing false cmd) cmd .busy s)
        ∧ (x.state = .stopped → x.window = [] →
          ∃ t, exec (.unbindRing false cmd) s = .next t
            ∧ t.group g = { x with state := .unbound, ring := { x.ring with bound := false } }
            ∧ Reported cmd .ok 0 s t ∧ SameExcept [.group g, .admin, .requests, .port] s t)))
    ∧ (opcodeOf cmd = 0x03 →
      let params := byteOf cmd 4 < 4 ∧ numberOf cmd ≤ 7 ∧ byteOf cmd 8 ≤ 1 ∧ OnlyUses cmd [4, 8, 12, 13]
      (¬params → Refused (.setGroup false cmd) cmd .badParam s)
      ∧ (params → ∀ g : GroupId, byteOf cmd 4 = g →
        let x := s.group g
        (x.state ≠ .unbound → x.state ≠ .stopped → Refused (.setGroup false cmd) cmd .badState s)
        ∧ (x.state = .unbound ∨ x.state = .stopped →
          ∃ t, exec (.setGroup false cmd) s = .next t
            ∧ t.group g = { x with
                d := numberOf cmd, mode := if byteOf cmd 8 = 0 then .edge else .centre, presc := 0 }
            ∧ t.tickDue g = true ∧ t.marks.group = s.marks.group.set g false
            ∧ Reported cmd .ok 0 s t ∧ SameExcept [.group g, .admin, .requests, .port, .groupTicks] s t)))

/-- SET_PAIR (R57, R63, R64, R152, R158): the parameter checks, among them that no idle or safe levels put both
outputs of a complementary pair at the active level; the state checks on the pair's present and named
groups; and the pair an accepted command leaves, its pins at the new idle levels, or at the new safe levels
where the new group's trip condition holds. -/
def Obligations.SetPairConfiguresThePair : Prop :=
  ∀ (s : State) (cmd : Slot32), Settled s → Awaits s .adminProcessor → opcodeOf cmd = 0x04 →
    let c := Instr.setPair false cmd
    let levels := fun off => byteOf cmd off ≤ 1 ∧ byteOf cmd (off + 1) ≤ 1
      ∧ ¬(byteOf cmd 8 = 0 ∧ byteOf cmd off = 1 ∧ byteOf cmd (off + 1) = 1)
      ∧ ¬(byteOf cmd 8 = 1 ∧ byteOf cmd off = 0 ∧ byteOf cmd (off + 1) = 0)
    let params := byteOf cmd 5 < 6 ∧ (byteOf cmd 4 < 4 ∨ byteOf cmd 4 = 0xFF) ∧ byteOf cmd 8 ≤ 3
      ∧ numberOf cmd ≤ 63 ∧ levels 14 ∧ levels 16
      ∧ OnlyUses cmd [4, 5, 8, 12, 13, 14, 15, 16, 17]
    (¬params → Refused c cmd .badParam s)
    ∧ (params → ∀ p : PairId, byteOf cmd 5 = p →
      let level := fun off => if byteOf cmd off = 0 then Level.low else Level.high
      let named : Option GroupId := if byteOf cmd 4 = 0xFF then none else some (Fin.ofNat 4 (byteOf cmd 4))
      let concerns := fun g => (s.pair p).group = some g ∨ named = some g
      ((∃ g, concerns g ∧ (s.group g).state ≠ .unbound ∧ (s.group g).state ≠ .stopped) →
        Refused c cmd .badState s)
      ∧ ((∀ g, concerns g → (s.group g).state = .unbound ∨ (s.group g).state = .stopped) →
        (∃ g, concerns g ∧ (s.group g).state = .stopped ∧ (s.group g).window ≠ []) →
        Refused c cmd .busy s)
      ∧ ((∀ g, concerns g →
            (s.group g).state = .unbound ∨ ((s.group g).state = .stopped ∧ (s.group g).window = [])) →
        ∃ t, exec c s = .next t
          ∧ t.pair p =
              { group := named
                mode := match byteOf cmd 8 with
                  | 0 => .comp
                  | 1 => .compInv
                  | 2 => .same
                  | _ => .pOnly
                dead := numberOf cmd
                idle := ⟨level 14, level 15⟩, safe := ⟨level 16, level 17⟩
                outP := ⟨0, false⟩, outN := ⟨0, false⟩, raw := false
                pins := if ∃ g, named = some g ∧ s.tripCondition g = true then ⟨level 16, level 17⟩
                  else ⟨level 14, level 15⟩ }
          ∧ (∀ q, q ≠ p → t.pair q = s.pair q)
          ∧ Reported cmd .ok 0 s t ∧ SameExcept [.pairs, .admin, .requests, .port] s t))

/-- SET_CONVERTER (R99, R159), SET_TRIP (R127, R160) and SET_TOKEN (R70, R162). That an accepted SET_CONVERTER
leaves the converter tick of its device clock due is the model's reading (log 21), and that a SET_TRIP keeps
a sample of its device clock that waits for FILTERED_LEVEL_CHANGE is the model's choice (log 8). -/
def Obligations.ConverterTripAndTokenCommands : Prop :=
  ∀ (s : State) (cmd : Slot32), Settled s → Awaits s .adminProcessor →
    (opcodeOf cmd = 0x05 →
      let params := 1 ≤ numberOf cmd ∧ numberOf cmd ≤ 32 ∧ OnlyUses cmd [12, 13]
      (¬params → Refused (.setConverter false cmd) cmd .badParam s)
      ∧ (params → ¬(s.converter.state = .idle ∧ s.captureQueue = []) →
        Refused (.setConverter false cmd) cmd .busy s)
      ∧ (params → s.converter.state = .idle → s.captureQueue = [] →
        ∃ t, exec (.setConverter false cmd) s = .next t
          ∧ t.converter = { s.converter with k := numberOf cmd, presc := 0 }
          ∧ t.convTickDue = true ∧ t.marks.conv = false
          ∧ Reported cmd .ok 0 s t ∧ SameExcept [.converter, .admin, .requests, .port] s t))
    ∧ (opcodeOf cmd = 0x06 →
      let params := byteOf cmd 6 < 4 ∧ byteOf cmd 9 ≤ 1 ∧ numberOf cmd ≤ 15 ∧ byteOf cmd 10 < 16
        ∧ OnlyUses cmd [6, 9, 10, 12, 13]
      (¬params → Refused (.setTrip false cmd) cmd .badParam s)
      ∧ (params → ∀ l : LineId, byteOf cmd 6 = l →
        ((s.line l).latch = true → Refused (.setTrip false cmd) cmd .badState s)
        ∧ ((s.line l).latch = false →
          ∃ t, exec (.setTrip false cmd) s = .next t
            ∧ t.line l = { s.line l with
                active := if byteOf cmd 9 = 0 then .low else .high
                filterLen := numberOf cmd, mask := BitVec.ofNat 4 (byteOf cmd 10)
                filtered := false, run := 0 }
            ∧ (∀ m, m ≠ l → t.line m = s.line m) ∧ t.tripPresc = s.tripPresc ∧ t.marks.trip = s.marks.trip
            ∧ (∀ g, t.tripCondition g = s.tripCondition g)
            ∧ Reported cmd .ok 0 s t ∧ SameExcept [.tripUnit, .admin, .requests, .port] s t)))
    ∧ (opcodeOf cmd = 0x0A →
      let params := byteOf cmd 7 < 16 ∧ numberOf cmd ≤ 255 ∧ OnlyUses cmd [7, 12, 13]
      (¬params → Refused (.setToken false cmd) cmd .badParam s)
      ∧ (params → ∀ k : TokenId, byteOf cmd 7 = k →
        ∃ t, exec (.setToken false cmd) s = .next t
          ∧ t.token k = numberOf cmd ∧ (∀ m, m ≠ k → t.token m = s.token m)
          ∧ Reported cmd .ok 0 s t ∧ SameExcept [.tokens, .admin, .requests, .port] s t))

/-- START (R73, R74, R163): its five checks in order; an accepted START creates a set record of the named groups,
and every member enters ARMED. No token is claimed and no notice is added. -/
def Obligations.StartCreatesASet : Prop :=
  ∀ (s : State) (cmd : Slot32), Settled s → Awaits s .adminProcessor → opcodeOf cmd = 0x07 →
    let c := Instr.start false cmd
    let named := fun g : GroupId => (cmd.extractLsb' 80 8).getLsbD g = true
    let params := 0 < byteOf cmd 10 ∧ byteOf cmd 10 < 16 ∧ OnlyUses cmd [10]
    (¬params → Refused c cmd .badParam s)
    ∧ (params → 4 ≤ s.sets.length → Refused c cmd .busy s)
    ∧ (params → s.sets.length < 4 → (∃ g, named g ∧ s.tripCondition g = true) →
      Refused c cmd .tripLatched s)
    ∧ (params → s.sets.length < 4 → (∀ g, named g → s.tripCondition g = false) →
      ((∃ g, named g ∧ (s.group g).state ≠ .stopped) → Refused c cmd .badState s)
      ∧ ((∀ g, named g → (s.group g).state = .stopped) → (∃ g, named g ∧ (s.group g).window ≠ []) →
        Refused c cmd .busy s)
      ∧ ((∀ g, named g → (s.group g).state = .stopped ∧ (s.group g).window = []) →
        ∃ t, exec c s = .next t
          ∧ t.sets = s.sets ++ [{ members := cmd.extractLsb' 80 4, asked := false }]
          ∧ (∀ g, named g → t.group g = { s.group g with state := .armed })
          ∧ (∀ g, ¬named g → t.group g = s.group g)
          ∧ Reported cmd .ok 0 s t
          ∧ SameExcept (everyGroup ++ [.sets, .admin, .requests, .port]) s t))

/-- STOP (R36 to R38, R42, R164). A RUNNING group enters STOPPING with the mode pending, or, under NOW, its record
ends CUT at once, to drain or, with its capture work finished, to retire (R13; log 33), and its pairs leave the
waveform for their idle levels (R38, R55); a STARVED group retires what waits and stops when nothing drains; an
ARMED group stops and its set is broken; in every other state the command is refused. A FETCHING entry is
cancelled (R25). No other pair unit changes. Capture work goes on (R89, R95, R98): where no consequence on the
capture path was left undone, a STOP changes nothing of it, but that a record that ends under NOW may join the
fill list and be taken from it (R104, R106). -/
def Obligations.StopEndsAGroupByItsState : Prop :=
  ∀ (s : State) (cmd : Slot32), Settled s → RingLaw s → ActiveLaw s → RestLaw s → SetLaw s →
    Awaits s .adminProcessor → opcodeOf cmd = 0x08 →
    let c := Instr.stop false cmd
    let params := byteOf cmd 4 < 4 ∧ byteOf cmd 8 ≤ 2 ∧ OnlyUses cmd [4, 8]
    (¬params → Refused c cmd .badParam s)
    ∧ (params → ∀ g : GroupId, byteOf cmd 4 = g →
      let x := s.group g
      let ring := x.steppedBack
      let kept := x.kept
      let retired := kept.map fun e => match e.st with
        | .ready => { e with st := .retiring, status := some .aborted }
        | .bad => { e with st := .retiring }
        | .active => { e with st := .draining, status := some .cut }
        | _ => e
      let touched := everyGroup ++ [.captureQueue, .converter, .resultWriter, .admin, .requests, .port]
      let keepsWork := fun (changed : List Block) (t : State) =>
        CaptureLaw s → SameExcept (changed ++ [.admin, .requests, .port]) s t
      (x.state ≠ .running → x.state ≠ .starved → x.state ≠ .armed → Refused c cmd .badState s)
      ∧ (x.state = .running → byteOf cmd 8 < 2 →
        ∃ t, exec c s = .next t
          ∧ t.Drains g { x with
              window := kept, ring := ring, state := .stopping
              pendingStop := if byteOf cmd 8 = 0 then .periodEnd else .segmentEnd }
          ∧ (t.group g).state = .stopping
          ∧ (∀ m, m ≠ g → t.Drains m (s.group m))
          ∧ keepsWork [.group g] t
          ∧ Reported cmd .ok 0 s t ∧ SameExcept touched s t)
      ∧ (x.state = .running → byteOf cmd 8 = 2 →
        ∃ t, exec c s = .next t
          ∧ t.Drains g { x with
              window := retired, ring := ring, state := .stopping, pendingStop := .noStop
              counter := 0, slope := .up }
          ∧ ((∀ e ∈ (t.group g).window, e.st = .retiring) ↔ (t.group g).state = .stopped)
          ∧ (∀ m, m ≠ g → t.Drains m (s.group m))
          ∧ (CaptureLaw s →
              s.RetiresFinished t g { x with window := retired }
              ∧ (∀ m, m ≠ g → s.RetiresFinished t m (s.group m))
              ∧ KeepsCaptureWork (s.setGroup g { x with window := retired }) t)
          ∧ keepsWork [.group g, .pairs, .resultWriter] t
          ∧ EndsTheWaveform s t g
          ∧ Reported cmd .ok 0 s t ∧ SameExcept (touched ++ [.pairs]) s t)
      ∧ (x.state = .starved →
        ∃ t, exec c s = .next t
          ∧ t.Drains g { x with window := retired, ring := ring, state := .stopping }
          ∧ ((∀ e ∈ (t.group g).window, e.st = .retiring) ↔ (t.group g).state = .stopped)
          ∧ (∀ m, m ≠ g → t.Drains m (s.group m))
          ∧ keepsWork [.group g] t
          ∧ Reported cmd .ok 0 s t ∧ SameExcept touched s t)
      ∧ (x.state = .armed →
        ∃ t, exec c s = .next t
          ∧ t.group g = { x with
              window := retired, ring := ring, state := .stopped
              notices := (x.notices.add .stopped).add .setBroken }
          ∧ t.sets = s.sets.filter (fun u => !u.members.getLsbD g)
          ∧ (∀ m : GroupId, m ≠ g → s.sharesSet g m = true → t.group m = (s.group m).setBroken)
          ∧ (∀ m : GroupId, m ≠ g → s.sharesSet g m = false → t.Drains m (s.group m))
          ∧ keepsWork (everyGroup ++ [.sets]) t
          ∧ Reported cmd .ok 0 s t ∧ SameExcept (touched ++ [.sets]) s t))

/-- ABORT (R39 to R42, R95, R96, R111, R166). Every record of the window becomes RETIRING: the ACTIVE one and the
READY ones ABORTED, the others with the status they hold; the group's capture work is removed and no other,
which leaves RESULT_INCOMPLETE where it was outstanding; the group moves to STOPPED, or stays STOPPED or
TRIPPED; an ARMED group's set is broken. With DISCARD the fetch index goes to the tail. No token changes,
and outside the set no group changes but for the finishing of capture work. The group's pairs leave the
waveform for their idle levels (R39, R55), and no other pair unit changes. -/
def Obligations.AbortRetiresTheWindow : Prop :=
  ∀ (s : State) (cmd : Slot32), Settled s → RingLaw s → RestLaw s → SetLaw s → CaptureLaw s →
    OwnerLaw s → Awaits s .adminProcessor → opcodeOf cmd = 0x09 →
    let c := Instr.abort false cmd
    let params := byteOf cmd 4 < 4 ∧ byteOf cmd 11 ≤ 1 ∧ OnlyUses cmd [4, 11]
    (¬params → Refused c cmd .badParam s)
    ∧ (params → ∀ g : GroupId, byteOf cmd 4 = g →
      let x := s.group g
      let r := x.steppedBack
      (x.state = .unbound → Refused c cmd .badState s)
      ∧ (x.state ≠ .unbound →
        ∃ t, exec c s = .next t
          ∧ t.group g = { x with
              window := s.retired g .aborted x.kept
              ring := if byteOf cmd 11 = 0 then r
                else if x.kept = [] then { r with fetch := r.tail, retire := r.tail, span := 0 }
                else { r with fetch := r.tail, span := r.span + (r.tail + r.size - r.fetch) % r.size }
              state := if x.state = .tripped then .tripped else .stopped
              notices :=
                if x.state = .stopped ∨ x.state = .tripped then x.notices
                else if x.state = .armed then (x.notices.add .stopped).add .setBroken
                else x.notices.add .stopped
              counter := 0, slope := .up, pendingStop := .noStop }
          ∧ WorkRemoved (fun m => m == g) s t
          ∧ (∀ e, s.hasWork g e = s.workOutstanding (e.ref g) e)
          ∧ t.sets = (if x.state = .armed then s.sets.filter (fun u => !u.members.getLsbD g) else s.sets)
          ∧ (∀ m : GroupId, m ≠ g → x.state = .armed → s.sharesSet g m = true →
              t.group m = (s.group m).setBroken)
          ∧ (∀ m : GroupId, m ≠ g → ¬(x.state = .armed ∧ s.sharesSet g m = true) →
              t.Drains m (s.group m))
          ∧ EndsTheWaveform s t g
          ∧ Reported cmd .ok 0 s t
          ∧ SameExcept (everyGroup ++ [.pairs, .sets, .captureQueue, .converter, .resultWriter, .admin,
              .requests, .port]) s t))

/-- CLEAR_TRIP (R126, R161): refused while the filtered level is active; otherwise the latch is cleared, every
TRIPPED group whose condition has become false enters STOPPED with TRIP_CLEARED, and the pairs of every
such group, UNBOUND ones too, take their idle levels, and no other pair unit changes. Neither the filter nor
EVT.TRIP changes. -/
def Obligations.ClearTripReleasesTheGroups : Prop :=
  ∀ (s : State) (cmd : Slot32), Settled s → TripLaw s →
    Awaits s .adminProcessor → opcodeOf cmd = 0x0B →
    let c := Instr.clearTrip false cmd
    let params := byteOf cmd 6 < 4 ∧ OnlyUses cmd [6]
    (¬params → Refused c cmd .badParam s)
    ∧ (params → ∀ l : LineId, byteOf cmd 6 = l →
      ((s.line l).filtered = true → Refused c cmd .tripActive s)
      ∧ ((s.line l).filtered = false → (s.line l).latch = false →
        ∃ t, exec c s = .next t ∧ Reported cmd .ok 0 s t ∧ SameExcept [.admin, .requests, .port] s t)
      ∧ ((s.line l).filtered = false → (s.line l).latch = true →
        ∃ t, exec c s = .next t
          ∧ t.line l = { s.line l with latch := false } ∧ (∀ m, m ≠ l → t.line m = s.line m)
          ∧ t.tripPresc = s.tripPresc ∧ t.marks.trip = s.marks.trip
          ∧ (∀ g, t.group g =
              if (s.group g).state = .tripped ∧ t.tripCondition g = false then
                { s.group g with state := .stopped, notices := (s.group g).notices.add .tripCleared }
              else s.group g)
          ∧ (∀ p g, (s.pair p).group = some g → s.tripCondition g = true → t.tripCondition g = false →
              t.pair p = { s.pair p with pins := (s.pair p).idle })
          ∧ (∀ p, (∀ g, (s.pair p).group = some g → s.tripCondition g = true → t.tripCondition g = true) →
              t.pair p = s.pair p)
          ∧ Reported cmd .ok 0 s t
          ∧ SameExcept (everyGroup ++ [.pairs, .tripUnit, .admin, .requests, .port]) s t))

/-- QUERY (R168 to R170, R189): refused with BAD_PARAM for a target that is none of the four, a group above 3, or a
nonzero reserved byte; otherwise its entry carries the snapshot of Tables 11.13 to 11.16, every bit that they do
not name as 0, and nothing else changes. The row of a QUERY whose target is none of the four is the model's
choice (log 19). A sample tick of which lines' steps still wait for FILTERED_LEVEL_CHANGE (log 8) is finished first, so that QUERY TRIPS
shows it wholly (R128). -/
def Obligations.QueriesReportSnapshots : Prop :=
  ∀ (s : State) (cmd : Slot32), Settled s → Awaits s .adminProcessor → opcodeOf cmd = 0x0C →
    let touched : List Block := [.admin, .requests, .port]
    (byteOf cmd 8 ≠ 1 → byteOf cmd 8 ≠ 2 → byteOf cmd 8 ≠ 3 →
      (¬(byteOf cmd 8 = 0 ∧ byteOf cmd 4 < 4 ∧ OnlyUses cmd [4, 8]) →
        Refused (.queryGroup false cmd) cmd .badParam s)
      ∧ (byteOf cmd 8 = 0 → OnlyUses cmd [4, 8] → ∀ g : GroupId, byteOf cmd 4 = g →
        ∃ t value, exec (.queryGroup false cmd) s = .next t
          ∧ Reported cmd .ok value s t ∧ SameExcept touched s t
          ∧ value.extractLsb' 0 8 = BitVec.ofNat 8 (groupStateCode (s.group g).state)
          ∧ value.extractLsb' 8 8 = BitVec.ofNat 8 (s.group g).window.length
          ∧ value.getLsbD 16 = (s.group g).hasActive
          ∧ value.getLsbD 17
              = ((s.group g).mode == .centre && (s.group g).hasActive && (s.group g).slope == .down)
          ∧ value.extractLsb' 18 2 = (match (s.group g).pendingStop with
              | .noStop => 0
              | .periodEnd => 1
              | .segmentEnd => 2)
          ∧ value.extractLsb' 20 12 = 0
          ∧ value.extractLsb' 32 16 = BitVec.ofNat 16 (s.group g).ring.retire
          ∧ value.extractLsb' 48 16 = BitVec.ofNat 16 (s.group g).ring.fetch
          ∧ value.extractLsb' 64 16 = BitVec.ofNat 16 (s.group g).counter
          ∧ value.extractLsb' 80 16 = ((s.group g).active?.map fun e => Seg.tag e.copy).getD 0
          ∧ value.extractLsb' 96 32
              = ((s.group g).active?.map fun e => BitVec.ofNat 32 e.periodsRun).getD 0))
    ∧ (byteOf cmd 8 = 1 →
      (¬OnlyUses cmd [8] → Refused (.queryTokens false cmd) cmd .badParam s)
      ∧ (OnlyUses cmd [8] →
        ∃ t value, exec (.queryTokens false cmd) s = .next t
          ∧ Reported cmd .ok value s t ∧ SameExcept touched s t
          ∧ ∀ k : TokenId, value.extractLsb' (8 * k) 8 = BitVec.ofNat 8 (s.token k)))
    ∧ (byteOf cmd 8 = 2 →
      (¬OnlyUses cmd [8] → Refused (.queryTrips false cmd) cmd .badParam s)
      ∧ (OnlyUses cmd [8] → s.rstn = .high →
        ∃ t value s1 s2 s3 s4, exec (.queryTrips false cmd) s = .next t
          ∧ exec (.filteredLevelChange 0) s = .next s1 ∧ exec (.filteredLevelChange 1) s1 = .next s2
          ∧ exec (.filteredLevelChange 2) s2 = .next s3 ∧ exec (.filteredLevelChange 3) s3 = .next s4
          ∧ Reported cmd .ok value s t ∧ SameExcept touched s4 t
          ∧ ((∀ l, (s.line l).sample = none) → SameExcept touched s t)
          ∧ ∀ l : LineId, (t.line l).sample = none
            ∧ value.getLsbD (32 * l) = (t.line l).latch
            ∧ value.getLsbD (32 * l + 1) = (t.line l).filtered
            ∧ value.getLsbD (32 * l + 2) = ((t.line l).active == .high)
            ∧ value.extractLsb' (32 * l + 3) 5 = 0
            ∧ value.extractLsb' (32 * l + 8) 8 = BitVec.ofNat 8 (t.line l).run
            ∧ value.extractLsb' (32 * l + 16) 8 = BitVec.ofNat 8 (t.line l).filterLen
            ∧ value.extractLsb' (32 * l + 24) 4 = (t.line l).mask
            ∧ value.extractLsb' (32 * l + 28) 4 = 0))
    ∧ (byteOf cmd 8 = 3 →
      (¬OnlyUses cmd [8] → Refused (.queryConverter false cmd) cmd .badParam s)
      ∧ (OnlyUses cmd [8] →
        ∃ t value, exec (.queryConverter false cmd) s = .next t
          ∧ Reported cmd .ok value s t ∧ SameExcept touched s t
          ∧ value.extractLsb' 0 8 = BitVec.ofNat 8 s.captureQueue.length
          ∧ value.extractLsb' 8 8 = (match s.converter.state with
              | .idle => 0
              | .converting => 1
              | .holding => 2)
          ∧ value.extractLsb' 16 8 = BitVec.ofNat 8 s.converter.k
          ∧ value.extractLsb' 56 72 = 0
          ∧ (s.converter.state = .idle → value.extractLsb' 24 32 = 0)
          ∧ (s.converter.state = .converting → ∀ r, s.converter.current = some r →
              value.extractLsb' 24 8 = BitVec.ofNat 8 r.group
              ∧ value.extractLsb' 32 16 = BitVec.ofNat 16 r.position
              ∧ value.extractLsb' 48 8 = BitVec.ofNat 8 s.converter.done)
          ∧ (s.converter.state = .holding → ∀ r, s.converter.held = some r →
              value.extractLsb' 24 8 = BitVec.ofNat 8 r.group
              ∧ value.extractLsb' 32 16 = BitVec.ofNat 16 r.position
              ∧ value.extractLsb' 48 8 = 0)))

/-- A command that fails a check, UNKNOWN among them, changes no state but what the execution of any command
changes, and gets one entry with its status and a zero value (R138, R151); an opcode that names none of
the twelve commands gives UNKNOWN whatever its other bytes hold (R152). -/
def Obligations.RefusedCommandsChangeNothing : Prop :=
  (∀ (c : Instr) (s : State) (cmd : Slot32) (status : AdminStatus), Settled s → Awaits s .adminProcessor →
    c.wellFormed = true → answersTo c = some (false, .adminProcessor) →
    adminVerdict c s = some (cmd, status) → status ≠ .ok → Refused c cmd status s)
  ∧ ∀ (s : State) (cmd : Slot32), Settled s → Awaits s .adminProcessor →
    (byteOf cmd 0 = 0 ∨ 12 < byteOf cmd 0) → Refused (.unknown false cmd) cmd .unknown s
end

