-- ==== Sys2Proof/Laws/State.lean ====
section
/-! SUPPORT. Laws/State.lean: the field of each update of the state, and reading back what was written. -/

namespace Sys2Proof.Machine

/-- Reading a vector at an index. -/
theorem vector_get {α : Type} {n : Nat} (v : Vector α n) (i : Fin n) : v.get i = v[i.val] := rfl

variable (s : State)

/-! ## One lemma per field per update -/

/-! ### setGroup -/

@[simp] theorem State.setGroup_rstn (g : GroupId) (x : Group) : (s.setGroup g x).rstn = s.rstn := rfl
@[simp] theorem State.setGroup_ctrl (g : GroupId) (x : Group) : (s.setGroup g x).ctrl = s.ctrl := rfl
@[simp] theorem State.setGroup_stat (g : GroupId) (x : Group) : (s.setGroup g x).stat = s.stat := rfl
@[simp] theorem State.setGroup_evt (g : GroupId) (x : Group) : (s.setGroup g x).evt = s.evt := rfl
@[simp] theorem State.setGroup_evtMask (g : GroupId) (x : Group) : (s.setGroup g x).evtMask = s.evtMask := rfl
@[simp] theorem State.setGroup_irq (g : GroupId) (x : Group) : (s.setGroup g x).irq = s.irq := rfl
@[simp] theorem State.setGroup_holding (g : GroupId) (x : Group) : (s.setGroup g x).holding = s.holding := rfl
@[simp] theorem State.setGroup_admBase (g : GroupId) (x : Group) : (s.setGroup g x).admBase = s.admBase := rfl
@[simp] theorem State.setGroup_cplBase (g : GroupId) (x : Group) : (s.setGroup g x).cplBase = s.cplBase := rfl
@[simp] theorem State.setGroup_admCode (g : GroupId) (x : Group) : (s.setGroup g x).admCode = s.admCode := rfl
@[simp] theorem State.setGroup_cplCode (g : GroupId) (x : Group) : (s.setGroup g x).cplCode = s.cplCode := rfl
@[simp] theorem State.setGroup_readData (g : GroupId) (x : Group) : (s.setGroup g x).readData = s.readData := rfl
@[simp] theorem State.setGroup_pairs (g : GroupId) (x : Group) : (s.setGroup g x).pairs = s.pairs := rfl
@[simp] theorem State.setGroup_tokens (g : GroupId) (x : Group) : (s.setGroup g x).tokens = s.tokens := rfl
@[simp] theorem State.setGroup_sets (g : GroupId) (x : Group) : (s.setGroup g x).sets = s.sets := rfl
@[simp] theorem State.setGroup_captureQueue (g : GroupId) (x : Group) : (s.setGroup g x).captureQueue = s.captureQueue := rfl
@[simp] theorem State.setGroup_converter (g : GroupId) (x : Group) : (s.setGroup g x).converter = s.converter := rfl
@[simp] theorem State.setGroup_writer (g : GroupId) (x : Group) : (s.setGroup g x).writer = s.writer := rfl
@[simp] theorem State.setGroup_lines (g : GroupId) (x : Group) : (s.setGroup g x).lines = s.lines := rfl
@[simp] theorem State.setGroup_tripPresc (g : GroupId) (x : Group) : (s.setGroup g x).tripPresc = s.tripPresc := rfl
@[simp] theorem State.setGroup_admin (g : GroupId) (x : Group) : (s.setGroup g x).admin = s.admin := rfl
@[simp] theorem State.setGroup_cpl (g : GroupId) (x : Group) : (s.setGroup g x).cpl = s.cpl := rfl
@[simp] theorem State.setGroup_bus (g : GroupId) (x : Group) : (s.setGroup g x).bus = s.bus := rfl
@[simp] theorem State.setGroup_lastFetcher (g : GroupId) (x : Group) : (s.setGroup g x).lastFetcher = s.lastFetcher := rfl
@[simp] theorem State.setGroup_marks (g : GroupId) (x : Group) : (s.setGroup g x).marks = s.marks := rfl
@[simp] theorem State.setGroup_clock (g : GroupId) (x : Group) : (s.setGroup g x).clock = s.clock := rfl
@[simp] theorem State.setGroup_pending (g : GroupId) (x : Group) : (s.setGroup g x).pending = s.pending := rfl

/-! ### modGroup -/

@[simp] theorem State.modGroup_rstn (g : GroupId) (f : Group → Group) : (s.modGroup g f).rstn = s.rstn := rfl
@[simp] theorem State.modGroup_ctrl (g : GroupId) (f : Group → Group) : (s.modGroup g f).ctrl = s.ctrl := rfl
@[simp] theorem State.modGroup_stat (g : GroupId) (f : Group → Group) : (s.modGroup g f).stat = s.stat := rfl
@[simp] theorem State.modGroup_evt (g : GroupId) (f : Group → Group) : (s.modGroup g f).evt = s.evt := rfl
@[simp] theorem State.modGroup_evtMask (g : GroupId) (f : Group → Group) : (s.modGroup g f).evtMask = s.evtMask := rfl
@[simp] theorem State.modGroup_irq (g : GroupId) (f : Group → Group) : (s.modGroup g f).irq = s.irq := rfl
@[simp] theorem State.modGroup_holding (g : GroupId) (f : Group → Group) : (s.modGroup g f).holding = s.holding := rfl
@[simp] theorem State.modGroup_admBase (g : GroupId) (f : Group → Group) : (s.modGroup g f).admBase = s.admBase := rfl
@[simp] theorem State.modGroup_cplBase (g : GroupId) (f : Group → Group) : (s.modGroup g f).cplBase = s.cplBase := rfl
@[simp] theorem State.modGroup_admCode (g : GroupId) (f : Group → Group) : (s.modGroup g f).admCode = s.admCode := rfl
@[simp] theorem State.modGroup_cplCode (g : GroupId) (f : Group → Group) : (s.modGroup g f).cplCode = s.cplCode := rfl
@[simp] theorem State.modGroup_readData (g : GroupId) (f : Group → Group) : (s.modGroup g f).readData = s.readData := rfl
@[simp] theorem State.modGroup_pairs (g : GroupId) (f : Group → Group) : (s.modGroup g f).pairs = s.pairs := rfl
@[simp] theorem State.modGroup_tokens (g : GroupId) (f : Group → Group) : (s.modGroup g f).tokens = s.tokens := rfl
@[simp] theorem State.modGroup_sets (g : GroupId) (f : Group → Group) : (s.modGroup g f).sets = s.sets := rfl
@[simp] theorem State.modGroup_captureQueue (g : GroupId) (f : Group → Group) : (s.modGroup g f).captureQueue = s.captureQueue := rfl
@[simp] theorem State.modGroup_converter (g : GroupId) (f : Group → Group) : (s.modGroup g f).converter = s.converter := rfl
@[simp] theorem State.modGroup_writer (g : GroupId) (f : Group → Group) : (s.modGroup g f).writer = s.writer := rfl
@[simp] theorem State.modGroup_lines (g : GroupId) (f : Group → Group) : (s.modGroup g f).lines = s.lines := rfl
@[simp] theorem State.modGroup_tripPresc (g : GroupId) (f : Group → Group) : (s.modGroup g f).tripPresc = s.tripPresc := rfl
@[simp] theorem State.modGroup_admin (g : GroupId) (f : Group → Group) : (s.modGroup g f).admin = s.admin := rfl
@[simp] theorem State.modGroup_cpl (g : GroupId) (f : Group → Group) : (s.modGroup g f).cpl = s.cpl := rfl
@[simp] theorem State.modGroup_bus (g : GroupId) (f : Group → Group) : (s.modGroup g f).bus = s.bus := rfl
@[simp] theorem State.modGroup_lastFetcher (g : GroupId) (f : Group → Group) : (s.modGroup g f).lastFetcher = s.lastFetcher := rfl
@[simp] theorem State.modGroup_marks (g : GroupId) (f : Group → Group) : (s.modGroup g f).marks = s.marks := rfl
@[simp] theorem State.modGroup_clock (g : GroupId) (f : Group → Group) : (s.modGroup g f).clock = s.clock := rfl
@[simp] theorem State.modGroup_pending (g : GroupId) (f : Group → Group) : (s.modGroup g f).pending = s.pending := rfl

/-! ### modEntry -/

@[simp] theorem State.modEntry_rstn (r : EntryRef) (f : Entry → Entry) : (s.modEntry r f).rstn = s.rstn := rfl
@[simp] theorem State.modEntry_ctrl (r : EntryRef) (f : Entry → Entry) : (s.modEntry r f).ctrl = s.ctrl := rfl
@[simp] theorem State.modEntry_stat (r : EntryRef) (f : Entry → Entry) : (s.modEntry r f).stat = s.stat := rfl
@[simp] theorem State.modEntry_evt (r : EntryRef) (f : Entry → Entry) : (s.modEntry r f).evt = s.evt := rfl
@[simp] theorem State.modEntry_evtMask (r : EntryRef) (f : Entry → Entry) : (s.modEntry r f).evtMask = s.evtMask := rfl
@[simp] theorem State.modEntry_irq (r : EntryRef) (f : Entry → Entry) : (s.modEntry r f).irq = s.irq := rfl
@[simp] theorem State.modEntry_holding (r : EntryRef) (f : Entry → Entry) : (s.modEntry r f).holding = s.holding := rfl
@[simp] theorem State.modEntry_admBase (r : EntryRef) (f : Entry → Entry) : (s.modEntry r f).admBase = s.admBase := rfl
@[simp] theorem State.modEntry_cplBase (r : EntryRef) (f : Entry → Entry) : (s.modEntry r f).cplBase = s.cplBase := rfl
@[simp] theorem State.modEntry_admCode (r : EntryRef) (f : Entry → Entry) : (s.modEntry r f).admCode = s.admCode := rfl
@[simp] theorem State.modEntry_cplCode (r : EntryRef) (f : Entry → Entry) : (s.modEntry r f).cplCode = s.cplCode := rfl
@[simp] theorem State.modEntry_readData (r : EntryRef) (f : Entry → Entry) : (s.modEntry r f).readData = s.readData := rfl
@[simp] theorem State.modEntry_pairs (r : EntryRef) (f : Entry → Entry) : (s.modEntry r f).pairs = s.pairs := rfl
@[simp] theorem State.modEntry_tokens (r : EntryRef) (f : Entry → Entry) : (s.modEntry r f).tokens = s.tokens := rfl
@[simp] theorem State.modEntry_sets (r : EntryRef) (f : Entry → Entry) : (s.modEntry r f).sets = s.sets := rfl
@[simp] theorem State.modEntry_captureQueue (r : EntryRef) (f : Entry → Entry) : (s.modEntry r f).captureQueue = s.captureQueue := rfl
@[simp] theorem State.modEntry_converter (r : EntryRef) (f : Entry → Entry) : (s.modEntry r f).converter = s.converter := rfl
@[simp] theorem State.modEntry_writer (r : EntryRef) (f : Entry → Entry) : (s.modEntry r f).writer = s.writer := rfl
@[simp] theorem State.modEntry_lines (r : EntryRef) (f : Entry → Entry) : (s.modEntry r f).lines = s.lines := rfl
@[simp] theorem State.modEntry_tripPresc (r : EntryRef) (f : Entry → Entry) : (s.modEntry r f).tripPresc = s.tripPresc := rfl
@[simp] theorem State.modEntry_admin (r : EntryRef) (f : Entry → Entry) : (s.modEntry r f).admin = s.admin := rfl
@[simp] theorem State.modEntry_cpl (r : EntryRef) (f : Entry → Entry) : (s.modEntry r f).cpl = s.cpl := rfl
@[simp] theorem State.modEntry_bus (r : EntryRef) (f : Entry → Entry) : (s.modEntry r f).bus = s.bus := rfl
@[simp] theorem State.modEntry_lastFetcher (r : EntryRef) (f : Entry → Entry) : (s.modEntry r f).lastFetcher = s.lastFetcher := rfl
@[simp] theorem State.modEntry_marks (r : EntryRef) (f : Entry → Entry) : (s.modEntry r f).marks = s.marks := rfl
@[simp] theorem State.modEntry_clock (r : EntryRef) (f : Entry → Entry) : (s.modEntry r f).clock = s.clock := rfl
@[simp] theorem State.modEntry_pending (r : EntryRef) (f : Entry → Entry) : (s.modEntry r f).pending = s.pending := rfl

/-! ### setPair -/

@[simp] theorem State.setPair_rstn (p : PairId) (x : PairUnit) : (s.setPair p x).rstn = s.rstn := rfl
@[simp] theorem State.setPair_ctrl (p : PairId) (x : PairUnit) : (s.setPair p x).ctrl = s.ctrl := rfl
@[simp] theorem State.setPair_stat (p : PairId) (x : PairUnit) : (s.setPair p x).stat = s.stat := rfl
@[simp] theorem State.setPair_evt (p : PairId) (x : PairUnit) : (s.setPair p x).evt = s.evt := rfl
@[simp] theorem State.setPair_evtMask (p : PairId) (x : PairUnit) : (s.setPair p x).evtMask = s.evtMask := rfl
@[simp] theorem State.setPair_irq (p : PairId) (x : PairUnit) : (s.setPair p x).irq = s.irq := rfl
@[simp] theorem State.setPair_holding (p : PairId) (x : PairUnit) : (s.setPair p x).holding = s.holding := rfl
@[simp] theorem State.setPair_admBase (p : PairId) (x : PairUnit) : (s.setPair p x).admBase = s.admBase := rfl
@[simp] theorem State.setPair_cplBase (p : PairId) (x : PairUnit) : (s.setPair p x).cplBase = s.cplBase := rfl
@[simp] theorem State.setPair_admCode (p : PairId) (x : PairUnit) : (s.setPair p x).admCode = s.admCode := rfl
@[simp] theorem State.setPair_cplCode (p : PairId) (x : PairUnit) : (s.setPair p x).cplCode = s.cplCode := rfl
@[simp] theorem State.setPair_readData (p : PairId) (x : PairUnit) : (s.setPair p x).readData = s.readData := rfl
@[simp] theorem State.setPair_groups (p : PairId) (x : PairUnit) : (s.setPair p x).groups = s.groups := rfl
@[simp] theorem State.setPair_tokens (p : PairId) (x : PairUnit) : (s.setPair p x).tokens = s.tokens := rfl
@[simp] theorem State.setPair_sets (p : PairId) (x : PairUnit) : (s.setPair p x).sets = s.sets := rfl
@[simp] theorem State.setPair_captureQueue (p : PairId) (x : PairUnit) : (s.setPair p x).captureQueue = s.captureQueue := rfl
@[simp] theorem State.setPair_converter (p : PairId) (x : PairUnit) : (s.setPair p x).converter = s.converter := rfl
@[simp] theorem State.setPair_writer (p : PairId) (x : PairUnit) : (s.setPair p x).writer = s.writer := rfl
@[simp] theorem State.setPair_lines (p : PairId) (x : PairUnit) : (s.setPair p x).lines = s.lines := rfl
@[simp] theorem State.setPair_tripPresc (p : PairId) (x : PairUnit) : (s.setPair p x).tripPresc = s.tripPresc := rfl
@[simp] theorem State.setPair_admin (p : PairId) (x : PairUnit) : (s.setPair p x).admin = s.admin := rfl
@[simp] theorem State.setPair_cpl (p : PairId) (x : PairUnit) : (s.setPair p x).cpl = s.cpl := rfl
@[simp] theorem State.setPair_bus (p : PairId) (x : PairUnit) : (s.setPair p x).bus = s.bus := rfl
@[simp] theorem State.setPair_lastFetcher (p : PairId) (x : PairUnit) : (s.setPair p x).lastFetcher = s.lastFetcher := rfl
@[simp] theorem State.setPair_marks (p : PairId) (x : PairUnit) : (s.setPair p x).marks = s.marks := rfl
@[simp] theorem State.setPair_clock (p : PairId) (x : PairUnit) : (s.setPair p x).clock = s.clock := rfl
@[simp] theorem State.setPair_pending (p : PairId) (x : PairUnit) : (s.setPair p x).pending = s.pending := rfl

/-! ### setLine -/

@[simp] theorem State.setLine_rstn (l : LineId) (x : TripLine) : (s.setLine l x).rstn = s.rstn := rfl
@[simp] theorem State.setLine_ctrl (l : LineId) (x : TripLine) : (s.setLine l x).ctrl = s.ctrl := rfl
@[simp] theorem State.setLine_stat (l : LineId) (x : TripLine) : (s.setLine l x).stat = s.stat := rfl
@[simp] theorem State.setLine_evt (l : LineId) (x : TripLine) : (s.setLine l x).evt = s.evt := rfl
@[simp] theorem State.setLine_evtMask (l : LineId) (x : TripLine) : (s.setLine l x).evtMask = s.evtMask := rfl
@[simp] theorem State.setLine_irq (l : LineId) (x : TripLine) : (s.setLine l x).irq = s.irq := rfl
@[simp] theorem State.setLine_holding (l : LineId) (x : TripLine) : (s.setLine l x).holding = s.holding := rfl
@[simp] theorem State.setLine_admBase (l : LineId) (x : TripLine) : (s.setLine l x).admBase = s.admBase := rfl
@[simp] theorem State.setLine_cplBase (l : LineId) (x : TripLine) : (s.setLine l x).cplBase = s.cplBase := rfl
@[simp] theorem State.setLine_admCode (l : LineId) (x : TripLine) : (s.setLine l x).admCode = s.admCode := rfl
@[simp] theorem State.setLine_cplCode (l : LineId) (x : TripLine) : (s.setLine l x).cplCode = s.cplCode := rfl
@[simp] theorem State.setLine_readData (l : LineId) (x : TripLine) : (s.setLine l x).readData = s.readData := rfl
@[simp] theorem State.setLine_groups (l : LineId) (x : TripLine) : (s.setLine l x).groups = s.groups := rfl
@[simp] theorem State.setLine_pairs (l : LineId) (x : TripLine) : (s.setLine l x).pairs = s.pairs := rfl
@[simp] theorem State.setLine_tokens (l : LineId) (x : TripLine) : (s.setLine l x).tokens = s.tokens := rfl
@[simp] theorem State.setLine_sets (l : LineId) (x : TripLine) : (s.setLine l x).sets = s.sets := rfl
@[simp] theorem State.setLine_captureQueue (l : LineId) (x : TripLine) : (s.setLine l x).captureQueue = s.captureQueue := rfl
@[simp] theorem State.setLine_converter (l : LineId) (x : TripLine) : (s.setLine l x).converter = s.converter := rfl
@[simp] theorem State.setLine_writer (l : LineId) (x : TripLine) : (s.setLine l x).writer = s.writer := rfl
@[simp] theorem State.setLine_tripPresc (l : LineId) (x : TripLine) : (s.setLine l x).tripPresc = s.tripPresc := rfl
@[simp] theorem State.setLine_admin (l : LineId) (x : TripLine) : (s.setLine l x).admin = s.admin := rfl
@[simp] theorem State.setLine_cpl (l : LineId) (x : TripLine) : (s.setLine l x).cpl = s.cpl := rfl
@[simp] theorem State.setLine_bus (l : LineId) (x : TripLine) : (s.setLine l x).bus = s.bus := rfl
@[simp] theorem State.setLine_lastFetcher (l : LineId) (x : TripLine) : (s.setLine l x).lastFetcher = s.lastFetcher := rfl
@[simp] theorem State.setLine_marks (l : LineId) (x : TripLine) : (s.setLine l x).marks = s.marks := rfl
@[simp] theorem State.setLine_clock (l : LineId) (x : TripLine) : (s.setLine l x).clock = s.clock := rfl
@[simp] theorem State.setLine_pending (l : LineId) (x : TripLine) : (s.setLine l x).pending = s.pending := rfl

/-! ### markTick -/

@[simp] theorem State.markTick_rstn (g : GroupId) : (s.markTick g).rstn = s.rstn := rfl
@[simp] theorem State.markTick_ctrl (g : GroupId) : (s.markTick g).ctrl = s.ctrl := rfl
@[simp] theorem State.markTick_stat (g : GroupId) : (s.markTick g).stat = s.stat := rfl
@[simp] theorem State.markTick_evt (g : GroupId) : (s.markTick g).evt = s.evt := rfl
@[simp] theorem State.markTick_evtMask (g : GroupId) : (s.markTick g).evtMask = s.evtMask := rfl
@[simp] theorem State.markTick_irq (g : GroupId) : (s.markTick g).irq = s.irq := rfl
@[simp] theorem State.markTick_holding (g : GroupId) : (s.markTick g).holding = s.holding := rfl
@[simp] theorem State.markTick_admBase (g : GroupId) : (s.markTick g).admBase = s.admBase := rfl
@[simp] theorem State.markTick_cplBase (g : GroupId) : (s.markTick g).cplBase = s.cplBase := rfl
@[simp] theorem State.markTick_admCode (g : GroupId) : (s.markTick g).admCode = s.admCode := rfl
@[simp] theorem State.markTick_cplCode (g : GroupId) : (s.markTick g).cplCode = s.cplCode := rfl
@[simp] theorem State.markTick_readData (g : GroupId) : (s.markTick g).readData = s.readData := rfl
@[simp] theorem State.markTick_groups (g : GroupId) : (s.markTick g).groups = s.groups := rfl
@[simp] theorem State.markTick_pairs (g : GroupId) : (s.markTick g).pairs = s.pairs := rfl
@[simp] theorem State.markTick_tokens (g : GroupId) : (s.markTick g).tokens = s.tokens := rfl
@[simp] theorem State.markTick_sets (g : GroupId) : (s.markTick g).sets = s.sets := rfl
@[simp] theorem State.markTick_captureQueue (g : GroupId) : (s.markTick g).captureQueue = s.captureQueue := rfl
@[simp] theorem State.markTick_converter (g : GroupId) : (s.markTick g).converter = s.converter := rfl
@[simp] theorem State.markTick_writer (g : GroupId) : (s.markTick g).writer = s.writer := rfl
@[simp] theorem State.markTick_lines (g : GroupId) : (s.markTick g).lines = s.lines := rfl
@[simp] theorem State.markTick_tripPresc (g : GroupId) : (s.markTick g).tripPresc = s.tripPresc := rfl
@[simp] theorem State.markTick_admin (g : GroupId) : (s.markTick g).admin = s.admin := rfl
@[simp] theorem State.markTick_cpl (g : GroupId) : (s.markTick g).cpl = s.cpl := rfl
@[simp] theorem State.markTick_bus (g : GroupId) : (s.markTick g).bus = s.bus := rfl
@[simp] theorem State.markTick_lastFetcher (g : GroupId) : (s.markTick g).lastFetcher = s.lastFetcher := rfl
@[simp] theorem State.markTick_marks (g : GroupId) :
    (s.markTick g).marks = { s.marks with group := s.marks.group.set g true } := rfl
@[simp] theorem State.markTick_clock (g : GroupId) : (s.markTick g).clock = s.clock := rfl
@[simp] theorem State.markTick_pending (g : GroupId) : (s.markTick g).pending = s.pending := rfl

/-! ### issue -/

@[simp] theorem State.issue_rstn (t : BusTxn) : (s.issue t).rstn = s.rstn := rfl
@[simp] theorem State.issue_ctrl (t : BusTxn) : (s.issue t).ctrl = s.ctrl := rfl
@[simp] theorem State.issue_stat (t : BusTxn) : (s.issue t).stat = s.stat := rfl
@[simp] theorem State.issue_evt (t : BusTxn) : (s.issue t).evt = s.evt := rfl
@[simp] theorem State.issue_evtMask (t : BusTxn) : (s.issue t).evtMask = s.evtMask := rfl
@[simp] theorem State.issue_irq (t : BusTxn) : (s.issue t).irq = s.irq := rfl
@[simp] theorem State.issue_holding (t : BusTxn) : (s.issue t).holding = s.holding := rfl
@[simp] theorem State.issue_admBase (t : BusTxn) : (s.issue t).admBase = s.admBase := rfl
@[simp] theorem State.issue_cplBase (t : BusTxn) : (s.issue t).cplBase = s.cplBase := rfl
@[simp] theorem State.issue_admCode (t : BusTxn) : (s.issue t).admCode = s.admCode := rfl
@[simp] theorem State.issue_cplCode (t : BusTxn) : (s.issue t).cplCode = s.cplCode := rfl
@[simp] theorem State.issue_readData (t : BusTxn) : (s.issue t).readData = s.readData := rfl
@[simp] theorem State.issue_groups (t : BusTxn) : (s.issue t).groups = s.groups := rfl
@[simp] theorem State.issue_pairs (t : BusTxn) : (s.issue t).pairs = s.pairs := rfl
@[simp] theorem State.issue_tokens (t : BusTxn) : (s.issue t).tokens = s.tokens := rfl
@[simp] theorem State.issue_sets (t : BusTxn) : (s.issue t).sets = s.sets := rfl
@[simp] theorem State.issue_captureQueue (t : BusTxn) : (s.issue t).captureQueue = s.captureQueue := rfl
@[simp] theorem State.issue_converter (t : BusTxn) : (s.issue t).converter = s.converter := rfl
@[simp] theorem State.issue_writer (t : BusTxn) : (s.issue t).writer = s.writer := rfl
@[simp] theorem State.issue_lines (t : BusTxn) : (s.issue t).lines = s.lines := rfl
@[simp] theorem State.issue_tripPresc (t : BusTxn) : (s.issue t).tripPresc = s.tripPresc := rfl
@[simp] theorem State.issue_admin (t : BusTxn) : (s.issue t).admin = s.admin := rfl
@[simp] theorem State.issue_cpl (t : BusTxn) : (s.issue t).cpl = s.cpl := rfl
@[simp] theorem State.issue_lastFetcher (t : BusTxn) : (s.issue t).lastFetcher = s.lastFetcher := rfl
@[simp] theorem State.issue_clock (t : BusTxn) : (s.issue t).clock = s.clock := rfl
@[simp] theorem State.issue_pending (t : BusTxn) : (s.issue t).pending = s.pending := rfl

/-! ### answered -/

@[simp] theorem State.answered_rstn (r : Requester) : (s.answered r).rstn = s.rstn := rfl
@[simp] theorem State.answered_ctrl (r : Requester) : (s.answered r).ctrl = s.ctrl := rfl
@[simp] theorem State.answered_stat (r : Requester) : (s.answered r).stat = s.stat := rfl
@[simp] theorem State.answered_evt (r : Requester) : (s.answered r).evt = s.evt := rfl
@[simp] theorem State.answered_evtMask (r : Requester) : (s.answered r).evtMask = s.evtMask := rfl
@[simp] theorem State.answered_irq (r : Requester) : (s.answered r).irq = s.irq := rfl
@[simp] theorem State.answered_holding (r : Requester) : (s.answered r).holding = s.holding := rfl
@[simp] theorem State.answered_admBase (r : Requester) : (s.answered r).admBase = s.admBase := rfl
@[simp] theorem State.answered_cplBase (r : Requester) : (s.answered r).cplBase = s.cplBase := rfl
@[simp] theorem State.answered_admCode (r : Requester) : (s.answered r).admCode = s.admCode := rfl
@[simp] theorem State.answered_cplCode (r : Requester) : (s.answered r).cplCode = s.cplCode := rfl
@[simp] theorem State.answered_readData (r : Requester) : (s.answered r).readData = s.readData := rfl
@[simp] theorem State.answered_groups (r : Requester) : (s.answered r).groups = s.groups := rfl
@[simp] theorem State.answered_pairs (r : Requester) : (s.answered r).pairs = s.pairs := rfl
@[simp] theorem State.answered_tokens (r : Requester) : (s.answered r).tokens = s.tokens := rfl
@[simp] theorem State.answered_sets (r : Requester) : (s.answered r).sets = s.sets := rfl
@[simp] theorem State.answered_captureQueue (r : Requester) : (s.answered r).captureQueue = s.captureQueue := rfl
@[simp] theorem State.answered_converter (r : Requester) : (s.answered r).converter = s.converter := rfl
@[simp] theorem State.answered_writer (r : Requester) : (s.answered r).writer = s.writer := rfl
@[simp] theorem State.answered_lines (r : Requester) : (s.answered r).lines = s.lines := rfl
@[simp] theorem State.answered_tripPresc (r : Requester) : (s.answered r).tripPresc = s.tripPresc := rfl
@[simp] theorem State.answered_admin (r : Requester) : (s.answered r).admin = s.admin := rfl
@[simp] theorem State.answered_cpl (r : Requester) : (s.answered r).cpl = s.cpl := rfl
@[simp] theorem State.answered_lastFetcher (r : Requester) : (s.answered r).lastFetcher = s.lastFetcher := rfl
@[simp] theorem State.answered_marks (r : Requester) : (s.answered r).marks = s.marks := rfl
@[simp] theorem State.answered_clock (r : Requester) : (s.answered r).clock = s.clock := rfl
@[simp] theorem State.answered_pending (r : Requester) : (s.answered r).pending = s.pending := rfl

/-! ### dropLate -/

@[simp] theorem State.dropLate_rstn (r : Requester) : (s.dropLate r).rstn = s.rstn := rfl
@[simp] theorem State.dropLate_ctrl (r : Requester) : (s.dropLate r).ctrl = s.ctrl := rfl
@[simp] theorem State.dropLate_stat (r : Requester) : (s.dropLate r).stat = s.stat := rfl
@[simp] theorem State.dropLate_evt (r : Requester) : (s.dropLate r).evt = s.evt := rfl
@[simp] theorem State.dropLate_evtMask (r : Requester) : (s.dropLate r).evtMask = s.evtMask := rfl
@[simp] theorem State.dropLate_irq (r : Requester) : (s.dropLate r).irq = s.irq := rfl
@[simp] theorem State.dropLate_holding (r : Requester) : (s.dropLate r).holding = s.holding := rfl
@[simp] theorem State.dropLate_admBase (r : Requester) : (s.dropLate r).admBase = s.admBase := rfl
@[simp] theorem State.dropLate_cplBase (r : Requester) : (s.dropLate r).cplBase = s.cplBase := rfl
@[simp] theorem State.dropLate_admCode (r : Requester) : (s.dropLate r).admCode = s.admCode := rfl
@[simp] theorem State.dropLate_cplCode (r : Requester) : (s.dropLate r).cplCode = s.cplCode := rfl
@[simp] theorem State.dropLate_readData (r : Requester) : (s.dropLate r).readData = s.readData := rfl
@[simp] theorem State.dropLate_groups (r : Requester) : (s.dropLate r).groups = s.groups := rfl
@[simp] theorem State.dropLate_pairs (r : Requester) : (s.dropLate r).pairs = s.pairs := rfl
@[simp] theorem State.dropLate_tokens (r : Requester) : (s.dropLate r).tokens = s.tokens := rfl
@[simp] theorem State.dropLate_sets (r : Requester) : (s.dropLate r).sets = s.sets := rfl
@[simp] theorem State.dropLate_captureQueue (r : Requester) : (s.dropLate r).captureQueue = s.captureQueue := rfl
@[simp] theorem State.dropLate_converter (r : Requester) : (s.dropLate r).converter = s.converter := rfl
@[simp] theorem State.dropLate_writer (r : Requester) : (s.dropLate r).writer = s.writer := rfl
@[simp] theorem State.dropLate_lines (r : Requester) : (s.dropLate r).lines = s.lines := rfl
@[simp] theorem State.dropLate_tripPresc (r : Requester) : (s.dropLate r).tripPresc = s.tripPresc := rfl
@[simp] theorem State.dropLate_admin (r : Requester) : (s.dropLate r).admin = s.admin := rfl
@[simp] theorem State.dropLate_cpl (r : Requester) : (s.dropLate r).cpl = s.cpl := rfl
@[simp] theorem State.dropLate_lastFetcher (r : Requester) : (s.dropLate r).lastFetcher = s.lastFetcher := rfl
@[simp] theorem State.dropLate_marks (r : Requester) : (s.dropLate r).marks = s.marks := rfl
@[simp] theorem State.dropLate_clock (r : Requester) : (s.dropLate r).clock = s.clock := rfl
@[simp] theorem State.dropLate_pending (r : Requester) : (s.dropLate r).pending = s.pending := rfl

/-! ### setEvt -/

@[simp] theorem State.setEvt_rstn (b : BitVec 6) : (s.setEvt b).rstn = s.rstn := rfl
@[simp] theorem State.setEvt_ctrl (b : BitVec 6) : (s.setEvt b).ctrl = s.ctrl := rfl
@[simp] theorem State.setEvt_stat (b : BitVec 6) : (s.setEvt b).stat = s.stat := rfl
@[simp] theorem State.setEvt_evtMask (b : BitVec 6) : (s.setEvt b).evtMask = s.evtMask := rfl
@[simp] theorem State.setEvt_irq (b : BitVec 6) : (s.setEvt b).irq = s.irq := rfl
@[simp] theorem State.setEvt_holding (b : BitVec 6) : (s.setEvt b).holding = s.holding := rfl
@[simp] theorem State.setEvt_admBase (b : BitVec 6) : (s.setEvt b).admBase = s.admBase := rfl
@[simp] theorem State.setEvt_cplBase (b : BitVec 6) : (s.setEvt b).cplBase = s.cplBase := rfl
@[simp] theorem State.setEvt_admCode (b : BitVec 6) : (s.setEvt b).admCode = s.admCode := rfl
@[simp] theorem State.setEvt_cplCode (b : BitVec 6) : (s.setEvt b).cplCode = s.cplCode := rfl
@[simp] theorem State.setEvt_readData (b : BitVec 6) : (s.setEvt b).readData = s.readData := rfl
@[simp] theorem State.setEvt_groups (b : BitVec 6) : (s.setEvt b).groups = s.groups := rfl
@[simp] theorem State.setEvt_pairs (b : BitVec 6) : (s.setEvt b).pairs = s.pairs := rfl
@[simp] theorem State.setEvt_tokens (b : BitVec 6) : (s.setEvt b).tokens = s.tokens := rfl
@[simp] theorem State.setEvt_sets (b : BitVec 6) : (s.setEvt b).sets = s.sets := rfl
@[simp] theorem State.setEvt_captureQueue (b : BitVec 6) : (s.setEvt b).captureQueue = s.captureQueue := rfl
@[simp] theorem State.setEvt_converter (b : BitVec 6) : (s.setEvt b).converter = s.converter := rfl
@[simp] theorem State.setEvt_writer (b : BitVec 6) : (s.setEvt b).writer = s.writer := rfl
@[simp] theorem State.setEvt_lines (b : BitVec 6) : (s.setEvt b).lines = s.lines := rfl
@[simp] theorem State.setEvt_tripPresc (b : BitVec 6) : (s.setEvt b).tripPresc = s.tripPresc := rfl
@[simp] theorem State.setEvt_admin (b : BitVec 6) : (s.setEvt b).admin = s.admin := rfl
@[simp] theorem State.setEvt_cpl (b : BitVec 6) : (s.setEvt b).cpl = s.cpl := rfl
@[simp] theorem State.setEvt_bus (b : BitVec 6) : (s.setEvt b).bus = s.bus := rfl
@[simp] theorem State.setEvt_lastFetcher (b : BitVec 6) : (s.setEvt b).lastFetcher = s.lastFetcher := rfl
@[simp] theorem State.setEvt_marks (b : BitVec 6) : (s.setEvt b).marks = s.marks := rfl
@[simp] theorem State.setEvt_clock (b : BitVec 6) : (s.setEvt b).clock = s.clock := rfl
@[simp] theorem State.setEvt_pending (b : BitVec 6) : (s.setEvt b).pending = s.pending := rfl

/-! ### clearEvt -/

@[simp] theorem State.clearEvt_rstn (b : BitVec 6) : (s.clearEvt b).rstn = s.rstn := rfl
@[simp] theorem State.clearEvt_ctrl (b : BitVec 6) : (s.clearEvt b).ctrl = s.ctrl := rfl
@[simp] theorem State.clearEvt_stat (b : BitVec 6) : (s.clearEvt b).stat = s.stat := rfl
@[simp] theorem State.clearEvt_evtMask (b : BitVec 6) : (s.clearEvt b).evtMask = s.evtMask := rfl
@[simp] theorem State.clearEvt_irq (b : BitVec 6) : (s.clearEvt b).irq = s.irq := rfl
@[simp] theorem State.clearEvt_holding (b : BitVec 6) : (s.clearEvt b).holding = s.holding := rfl
@[simp] theorem State.clearEvt_admBase (b : BitVec 6) : (s.clearEvt b).admBase = s.admBase := rfl
@[simp] theorem State.clearEvt_cplBase (b : BitVec 6) : (s.clearEvt b).cplBase = s.cplBase := rfl
@[simp] theorem State.clearEvt_admCode (b : BitVec 6) : (s.clearEvt b).admCode = s.admCode := rfl
@[simp] theorem State.clearEvt_cplCode (b : BitVec 6) : (s.clearEvt b).cplCode = s.cplCode := rfl
@[simp] theorem State.clearEvt_readData (b : BitVec 6) : (s.clearEvt b).readData = s.readData := rfl
@[simp] theorem State.clearEvt_groups (b : BitVec 6) : (s.clearEvt b).groups = s.groups := rfl
@[simp] theorem State.clearEvt_pairs (b : BitVec 6) : (s.clearEvt b).pairs = s.pairs := rfl
@[simp] theorem State.clearEvt_tokens (b : BitVec 6) : (s.clearEvt b).tokens = s.tokens := rfl
@[simp] theorem State.clearEvt_sets (b : BitVec 6) : (s.clearEvt b).sets = s.sets := rfl
@[simp] theorem State.clearEvt_captureQueue (b : BitVec 6) : (s.clearEvt b).captureQueue = s.captureQueue := rfl
@[simp] theorem State.clearEvt_converter (b : BitVec 6) : (s.clearEvt b).converter = s.converter := rfl
@[simp] theorem State.clearEvt_writer (b : BitVec 6) : (s.clearEvt b).writer = s.writer := rfl
@[simp] theorem State.clearEvt_lines (b : BitVec 6) : (s.clearEvt b).lines = s.lines := rfl
@[simp] theorem State.clearEvt_tripPresc (b : BitVec 6) : (s.clearEvt b).tripPresc = s.tripPresc := rfl
@[simp] theorem State.clearEvt_admin (b : BitVec 6) : (s.clearEvt b).admin = s.admin := rfl
@[simp] theorem State.clearEvt_cpl (b : BitVec 6) : (s.clearEvt b).cpl = s.cpl := rfl
@[simp] theorem State.clearEvt_bus (b : BitVec 6) : (s.clearEvt b).bus = s.bus := rfl
@[simp] theorem State.clearEvt_lastFetcher (b : BitVec 6) : (s.clearEvt b).lastFetcher = s.lastFetcher := rfl
@[simp] theorem State.clearEvt_marks (b : BitVec 6) : (s.clearEvt b).marks = s.marks := rfl
@[simp] theorem State.clearEvt_clock (b : BitVec 6) : (s.clearEvt b).clock = s.clock := rfl
@[simp] theorem State.clearEvt_pending (b : BitVec 6) : (s.clearEvt b).pending = s.pending := rfl

/-! ### settle -/

@[simp] theorem State.settle_rstn : s.settle.rstn = s.rstn := rfl
@[simp] theorem State.settle_ctrl : s.settle.ctrl = s.ctrl := rfl
@[simp] theorem State.settle_stat : s.settle.stat = s.stat := rfl
@[simp] theorem State.settle_evt : s.settle.evt = s.evt := rfl
@[simp] theorem State.settle_evtMask : s.settle.evtMask = s.evtMask := rfl
@[simp] theorem State.settle_holding : s.settle.holding = s.holding := rfl
@[simp] theorem State.settle_admBase : s.settle.admBase = s.admBase := rfl
@[simp] theorem State.settle_cplBase : s.settle.cplBase = s.cplBase := rfl
@[simp] theorem State.settle_admCode : s.settle.admCode = s.admCode := rfl
@[simp] theorem State.settle_cplCode : s.settle.cplCode = s.cplCode := rfl
@[simp] theorem State.settle_readData : s.settle.readData = s.readData := rfl
@[simp] theorem State.settle_groups : s.settle.groups = s.groups := rfl
@[simp] theorem State.settle_tokens : s.settle.tokens = s.tokens := rfl
@[simp] theorem State.settle_sets : s.settle.sets = s.sets := rfl
@[simp] theorem State.settle_captureQueue : s.settle.captureQueue = s.captureQueue := rfl
@[simp] theorem State.settle_converter : s.settle.converter = s.converter := rfl
@[simp] theorem State.settle_lines : s.settle.lines = s.lines := rfl
@[simp] theorem State.settle_tripPresc : s.settle.tripPresc = s.tripPresc := rfl
@[simp] theorem State.settle_bus : s.settle.bus = s.bus := rfl
@[simp] theorem State.settle_lastFetcher : s.settle.lastFetcher = s.lastFetcher := rfl
@[simp] theorem State.settle_marks : s.settle.marks = s.marks := rfl
@[simp] theorem State.settle_clock : s.settle.clock = s.clock := rfl
@[simp] theorem State.settle_pending : s.settle.pending = s.pending := rfl

/-! ### tickOutputs -/

@[simp] theorem State.tickOutputs_rstn (g : GroupId) : (s.tickOutputs g).rstn = s.rstn := rfl
@[simp] theorem State.tickOutputs_ctrl (g : GroupId) : (s.tickOutputs g).ctrl = s.ctrl := rfl
@[simp] theorem State.tickOutputs_stat (g : GroupId) : (s.tickOutputs g).stat = s.stat := rfl
@[simp] theorem State.tickOutputs_evt (g : GroupId) : (s.tickOutputs g).evt = s.evt := rfl
@[simp] theorem State.tickOutputs_evtMask (g : GroupId) : (s.tickOutputs g).evtMask = s.evtMask := rfl
@[simp] theorem State.tickOutputs_irq (g : GroupId) : (s.tickOutputs g).irq = s.irq := rfl
@[simp] theorem State.tickOutputs_holding (g : GroupId) : (s.tickOutputs g).holding = s.holding := rfl
@[simp] theorem State.tickOutputs_admBase (g : GroupId) : (s.tickOutputs g).admBase = s.admBase := rfl
@[simp] theorem State.tickOutputs_cplBase (g : GroupId) : (s.tickOutputs g).cplBase = s.cplBase := rfl
@[simp] theorem State.tickOutputs_admCode (g : GroupId) : (s.tickOutputs g).admCode = s.admCode := rfl
@[simp] theorem State.tickOutputs_cplCode (g : GroupId) : (s.tickOutputs g).cplCode = s.cplCode := rfl
@[simp] theorem State.tickOutputs_readData (g : GroupId) : (s.tickOutputs g).readData = s.readData := rfl
@[simp] theorem State.tickOutputs_groups (g : GroupId) : (s.tickOutputs g).groups = s.groups := rfl
@[simp] theorem State.tickOutputs_tokens (g : GroupId) : (s.tickOutputs g).tokens = s.tokens := rfl
@[simp] theorem State.tickOutputs_sets (g : GroupId) : (s.tickOutputs g).sets = s.sets := rfl
@[simp] theorem State.tickOutputs_captureQueue (g : GroupId) : (s.tickOutputs g).captureQueue = s.captureQueue := rfl
@[simp] theorem State.tickOutputs_converter (g : GroupId) : (s.tickOutputs g).converter = s.converter := rfl
@[simp] theorem State.tickOutputs_writer (g : GroupId) : (s.tickOutputs g).writer = s.writer := rfl
@[simp] theorem State.tickOutputs_lines (g : GroupId) : (s.tickOutputs g).lines = s.lines := rfl
@[simp] theorem State.tickOutputs_tripPresc (g : GroupId) : (s.tickOutputs g).tripPresc = s.tripPresc := rfl
@[simp] theorem State.tickOutputs_admin (g : GroupId) : (s.tickOutputs g).admin = s.admin := rfl
@[simp] theorem State.tickOutputs_cpl (g : GroupId) : (s.tickOutputs g).cpl = s.cpl := rfl
@[simp] theorem State.tickOutputs_bus (g : GroupId) : (s.tickOutputs g).bus = s.bus := rfl
@[simp] theorem State.tickOutputs_lastFetcher (g : GroupId) : (s.tickOutputs g).lastFetcher = s.lastFetcher := rfl
@[simp] theorem State.tickOutputs_marks (g : GroupId) : (s.tickOutputs g).marks = s.marks := rfl
@[simp] theorem State.tickOutputs_clock (g : GroupId) : (s.tickOutputs g).clock = s.clock := rfl
@[simp] theorem State.tickOutputs_pending (g : GroupId) : (s.tickOutputs g).pending = s.pending := rfl

/-! ### enterOutputs -/

@[simp] theorem State.enterOutputs_rstn (g : GroupId) : (s.enterOutputs g).rstn = s.rstn := rfl
@[simp] theorem State.enterOutputs_ctrl (g : GroupId) : (s.enterOutputs g).ctrl = s.ctrl := rfl
@[simp] theorem State.enterOutputs_stat (g : GroupId) : (s.enterOutputs g).stat = s.stat := rfl
@[simp] theorem State.enterOutputs_evt (g : GroupId) : (s.enterOutputs g).evt = s.evt := rfl
@[simp] theorem State.enterOutputs_evtMask (g : GroupId) : (s.enterOutputs g).evtMask = s.evtMask := rfl
@[simp] theorem State.enterOutputs_irq (g : GroupId) : (s.enterOutputs g).irq = s.irq := rfl
@[simp] theorem State.enterOutputs_holding (g : GroupId) : (s.enterOutputs g).holding = s.holding := rfl
@[simp] theorem State.enterOutputs_admBase (g : GroupId) : (s.enterOutputs g).admBase = s.admBase := rfl
@[simp] theorem State.enterOutputs_cplBase (g : GroupId) : (s.enterOutputs g).cplBase = s.cplBase := rfl
@[simp] theorem State.enterOutputs_admCode (g : GroupId) : (s.enterOutputs g).admCode = s.admCode := rfl
@[simp] theorem State.enterOutputs_cplCode (g : GroupId) : (s.enterOutputs g).cplCode = s.cplCode := rfl
@[simp] theorem State.enterOutputs_readData (g : GroupId) : (s.enterOutputs g).readData = s.readData := rfl
@[simp] theorem State.enterOutputs_groups (g : GroupId) : (s.enterOutputs g).groups = s.groups := rfl
@[simp] theorem State.enterOutputs_tokens (g : GroupId) : (s.enterOutputs g).tokens = s.tokens := rfl
@[simp] theorem State.enterOutputs_sets (g : GroupId) : (s.enterOutputs g).sets = s.sets := rfl
@[simp] theorem State.enterOutputs_captureQueue (g : GroupId) : (s.enterOutputs g).captureQueue = s.captureQueue := rfl
@[simp] theorem State.enterOutputs_converter (g : GroupId) : (s.enterOutputs g).converter = s.converter := rfl
@[simp] theorem State.enterOutputs_writer (g : GroupId) : (s.enterOutputs g).writer = s.writer := rfl
@[simp] theorem State.enterOutputs_lines (g : GroupId) : (s.enterOutputs g).lines = s.lines := rfl
@[simp] theorem State.enterOutputs_tripPresc (g : GroupId) : (s.enterOutputs g).tripPresc = s.tripPresc := rfl
@[simp] theorem State.enterOutputs_admin (g : GroupId) : (s.enterOutputs g).admin = s.admin := rfl
@[simp] theorem State.enterOutputs_cpl (g : GroupId) : (s.enterOutputs g).cpl = s.cpl := rfl
@[simp] theorem State.enterOutputs_bus (g : GroupId) : (s.enterOutputs g).bus = s.bus := rfl
@[simp] theorem State.enterOutputs_lastFetcher (g : GroupId) : (s.enterOutputs g).lastFetcher = s.lastFetcher := rfl
@[simp] theorem State.enterOutputs_marks (g : GroupId) : (s.enterOutputs g).marks = s.marks := rfl
@[simp] theorem State.enterOutputs_clock (g : GroupId) : (s.enterOutputs g).clock = s.clock := rfl
@[simp] theorem State.enterOutputs_pending (g : GroupId) : (s.enterOutputs g).pending = s.pending := rfl

/-! ### The five fields that `settle` works out -/

@[simp] theorem State.settle_irq : s.settle.irq = irqLevel s.evt s.evtMask := rfl
@[simp] theorem State.settle_pair (p : PairId) : s.settle.pair p = s.settledPair (s.pair p) := by
  simp [State.pair, State.settle, vector_get]
@[simp] theorem State.settle_admin : s.settle.admin = { s.admin with state := s.settledAdmin } := rfl
@[simp] theorem State.settle_writer : s.settle.writer = { s.writer with write := s.settledWriter } := rfl
@[simp] theorem State.settle_cpl : s.settle.cpl = { s.cpl with state := s.settledCpl } := rfl

/-! ## Reading back -/

/-- A group is what was last put there. -/
@[simp] theorem State.group_setGroup_same (g : GroupId) (x : Group) : (s.setGroup g x).group g = x := by
  simp [State.group, State.setGroup, vector_get]

/-- The other groups are as they were. -/
theorem State.group_setGroup_ne {g h : GroupId} (x : Group) (hne : h ≠ g) :
    (s.setGroup g x).group h = s.group h := by
  have hv : g.val ≠ h.val := fun e => hne (Fin.ext e.symm)
  simp [State.group, State.setGroup, vector_get, hv]

@[simp] theorem State.group_modGroup_same (g : GroupId) (f : Group → Group) :
    (s.modGroup g f).group g = f (s.group g) := by simp [State.modGroup]

theorem State.group_modGroup_ne {g h : GroupId} (f : Group → Group) (hne : h ≠ g) :
    (s.modGroup g f).group h = s.group h := State.group_setGroup_ne s _ hne

/-- A group after a change of one group. -/
theorem State.group_modGroup (g h : GroupId) (f : Group → Group) :
    (s.modGroup g f).group h = if h = g then f (s.group h) else s.group h := by
  by_cases e : h = g
  · subst e; simp
  · simp [e, State.group_modGroup_ne s f e]

/-- A pair unit after a change of one pair unit. -/
theorem State.pair_setPair (p q : PairId) (x : PairUnit) :
    (s.setPair p x).pair q = if q = p then x else s.pair q := by
  by_cases e : q = p
  · subst e; simp [State.pair, State.setPair, vector_get]
  · have hv : p.val ≠ q.val := fun h => e (Fin.ext h.symm)
    simp [State.pair, State.setPair, vector_get, hv, e]

/-- A trip line after a change of one line. -/
theorem State.line_setLine (l m : LineId) (x : TripLine) :
    (s.setLine l x).line m = if m = l then x else s.line m := by
  by_cases e : m = l
  · subst e; simp [State.line, State.setLine, vector_get]
  · have hv : l.val ≠ m.val := fun h => e (Fin.ext h.symm)
    simp [State.line, State.setLine, vector_get, hv, e]

/-- A token table after one count is written. -/
theorem tokens_set_get (v : Vector Nat 16) (t u : TokenId) (n : Nat) :
    (v.set t n).get u = if u = t then n else v.get u := by
  by_cases e : u = t
  · subst e; simp [vector_get]
  · have hv : t.val ≠ u.val := fun h => e (Fin.ext h.symm)
    simp [vector_get, hv, e]

/-! ## Accessors follow their fields -/

@[simp] theorem State.settle_group (g : GroupId) : s.settle.group g = s.group g := rfl
@[simp] theorem State.settle_line (l : LineId) : s.settle.line l = s.line l := rfl
@[simp] theorem State.settle_token (t : TokenId) : s.settle.token t = s.token t := rfl
@[simp] theorem State.modGroup_token (g : GroupId) (f : Group → Group) (t : TokenId) :
    (s.modGroup g f).token t = s.token t := rfl
@[simp] theorem State.modGroup_line (g : GroupId) (f : Group → Group) (l : LineId) :
    (s.modGroup g f).line l = s.line l := rfl
@[simp] theorem State.modGroup_pair (g : GroupId) (f : Group → Group) (p : PairId) :
    (s.modGroup g f).pair p = s.pair p := rfl
@[simp] theorem State.answered_group (r : Requester) (g : GroupId) : (s.answered r).group g = s.group g := rfl
@[simp] theorem State.dropLate_group (r : Requester) (g : GroupId) : (s.dropLate r).group g = s.group g := rfl
@[simp] theorem State.setLine_group (l : LineId) (x : TripLine) (g : GroupId) :
    (s.setLine l x).group g = s.group g := rfl
@[simp] theorem State.markTick_group (g h : GroupId) : (s.markTick g).group h = s.group h := rfl
@[simp] theorem State.tickOutputs_group (g h : GroupId) : (s.tickOutputs g).group h = s.group h := rfl
@[simp] theorem State.enterOutputs_group (g h : GroupId) : (s.enterOutputs g).group h = s.group h := rfl
@[simp] theorem State.issue_group (t : BusTxn) (g : GroupId) : (s.issue t).group g = s.group g := rfl
@[simp] theorem State.setEvt_group (b : BitVec 6) (g : GroupId) : (s.setEvt b).group g = s.group g := rfl

end Sys2Proof.Machine
end

