-- ==== Sys2Proof/Laws/Frame.lean ====
section
/-! SUPPORT. Laws/Frame.lean: what the shared operations of the sequencers and of the capture path leave
unchanged. `State.fixed` is the part of the state none of them touches. -/

namespace Sys2Proof.Machine

/-- The part of the state that the sequencers and the capture path leave alone: the register window, the
trip unit, the administrative processor, the completion path and the bus port, with their marks. -/
structure Fixed where
  rstn : Level
  ctrl : Ctrl
  stat : StatReg
  evt : BitVec 6
  evtMask : BitVec 6
  irq : Bool
  holding : Word32
  admBase : Addr
  cplBase : Addr
  admCode : BitVec 4
  cplCode : BitVec 4
  readData : List Byte
  lines : Vector TripLine 4
  tripPresc : Nat
  admin : AdminProc
  cpl : CplWriter
  bus : List BusTxn
  lastFetcher : GroupId
  /-- The marks of the trip sample and of the arbiter's grant of this device clock. -/
  tripMark : Bool
  grantMark : Bool
  clock : Nat
  pending : List Instr

/-- That part of a state. -/
def State.fixed (s : State) : Fixed :=
  { s with tripMark := s.marks.trip, grantMark := s.marks.grant }

variable (s : State)

/-! ## Single updates -/

@[simp] theorem State.fixed_setGroup (g : GroupId) (x : Group) : (s.setGroup g x).fixed = s.fixed := rfl
@[simp] theorem State.fixed_modGroup (g : GroupId) (f : Group → Group) : (s.modGroup g f).fixed = s.fixed := rfl
@[simp] theorem State.fixed_modEntry (r : EntryRef) (f : Entry → Entry) :
    (s.modEntry r f).fixed = s.fixed := rfl
@[simp] theorem State.fixed_setPair (p : PairId) (x : PairUnit) : (s.setPair p x).fixed = s.fixed := rfl
@[simp] theorem State.fixed_markTick (g : GroupId) : (s.markTick g).fixed = s.fixed := rfl
@[simp] theorem State.fixed_tickOutputs (g : GroupId) : (s.tickOutputs g).fixed = s.fixed := rfl
@[simp] theorem State.fixed_enterOutputs (g : GroupId) : (s.enterOutputs g).fixed = s.fixed := rfl
@[simp] theorem State.fixed_removeWork (g : GroupId) (st : SegStatus) :
    (s.removeWork g st).fixed = s.fixed := rfl

/-! ## A fold keeps what its step keeps -/

theorem foldl_keeps {α β γ : Type} (k : α → γ) (f : α → β → α) (h : ∀ a b, k (f a b) = k a)
    (l : List β) (a : α) : k (l.foldl f a) = k a := by
  induction l generalizing a with
  | nil => rfl
  | cons b l ih => rw [List.foldl_cons, ih, h]

/-- A property that a fold's step keeps holds after the fold. -/
theorem foldl_inv {α β : Type} (P : α → Prop) (f : α → β → α) (h : ∀ a b, P a → P (f a b))
    (l : List β) (a : α) (ha : P a) : P (l.foldl f a) := by
  induction l generalizing a with
  | nil => exact ha
  | cons b l ih => exact ih _ (h _ _ ha)

/-! ## The capture path -/

@[simp] theorem State.fixed_converterTake : s.converterTake.fixed = s.fixed := by
  unfold State.converterTake; split
  · split <;> rfl
  · rfl

@[simp] theorem State.fixed_offerRequest (r : Request) : (s.offerRequest r).fixed = s.fixed := by
  unfold State.offerRequest; split
  · rw [State.fixed_converterTake]; rfl
  · rfl

@[simp] theorem State.fixed_triggerPoint (g : GroupId) (j : Nat) : (s.triggerPoint g j).fixed = s.fixed := by
  unfold State.triggerPoint
  split
  · rfl
  · split
    · dsimp only; split <;> simp
    · rfl

@[simp] theorem State.fixed_triggers (g : GroupId) : (s.triggers g).fixed = s.fixed :=
  foldl_keeps State.fixed _ (fun a j => State.fixed_triggerPoint a g j) _ _

@[simp] theorem State.fixed_offerHeld : s.offerHeld.fixed = s.fixed := by
  unfold State.offerHeld; split
  · split
    · rw [State.fixed_converterTake]; rfl
    · rfl
  · rfl

@[simp] theorem State.fixed_chooseJob : s.chooseJob.fixed = s.fixed := by
  unfold State.chooseJob; split <;> (try split) <;> rfl

@[simp] theorem State.fixed_drainOne (r : EntryRef) : (s.drainOne r).fixed = s.fixed := by
  unfold State.drainOne; repeat' split
  all_goals rfl

@[simp] theorem State.fixed_drain : s.drain.fixed = s.fixed :=
  foldl_keeps State.fixed _ (fun a r => State.fixed_drainOne a r) _ _

@[simp] theorem State.fixed_pumpOnce : s.pumpOnce.fixed = s.fixed := by simp [State.pumpOnce]

@[simp] theorem State.fixed_pumpRounds (n : Nat) : (State.pumpRounds n s).fixed = s.fixed := by
  induction n generalizing s with
  | zero => rfl
  | succ n ih => rw [State.pumpRounds, ih, State.fixed_pumpOnce]

@[simp] theorem State.fixed_pump : s.pump.fixed = s.fixed := by
  unfold State.pump; split
  · rw [foldl_keeps State.fixed _ (fun a g => State.fixed_modGroup a g _), State.fixed_pumpRounds]
  · rfl

/-! ## The sequencers -/

@[simp] theorem State.fixed_endPost (g : GroupId) (e : Entry) : (s.endPost g e).fixed = s.fixed := by
  unfold State.endPost; split <;> rfl

@[simp] theorem State.fixed_breakSet (g : GroupId) : (s.breakSet g).fixed = s.fixed := by
  unfold State.breakSet; split
  · rfl
  · rw [foldl_keeps State.fixed]
    · rfl
    · intro a m; dsimp only; split <;> rfl

@[simp] theorem State.fixed_faultGroup (g : GroupId) : (s.faultGroup g).fixed = s.fixed := by
  unfold State.faultGroup; dsimp only; split <;> simp

@[simp] theorem State.fixed_tripGroup (g : GroupId) : (s.tripGroup g).fixed = s.fixed := by
  unfold State.tripGroup; split <;> simp

@[simp] theorem State.fixed_abortGroup (g : GroupId) : (s.abortGroup g).fixed = s.fixed := by
  unfold State.abortGroup; dsimp only; split <;> simp

@[simp] theorem State.fixed_stopGroup (g : GroupId) (m : StopMode) : (s.stopGroup g m).fixed = s.fixed := by
  unfold State.stopGroup; split <;> simp

@[simp] theorem State.fixed_starve (g : GroupId) (e : Entry) : (s.starve g e).fixed = s.fixed := by
  simp [State.starve]

@[simp] theorem State.fixed_endAndFault (g : GroupId) (e : Entry) : (s.endAndFault g e).fixed = s.fixed := by
  simp [State.endAndFault]

theorem State.fixed_takeover (g : GroupId) (e n : Entry) (t : State) (h : s.takeover g e n = some t) :
    t.fixed = s.fixed := by
  unfold State.takeover at h; dsimp only at h
  split at h
  · simp at h
  · simp only [Option.some.injEq] at h; subst h; rfl

@[simp] theorem State.fixed_takeover_getD (g : GroupId) (e n : Entry) (d : State) (hd : d.fixed = s.fixed) :
    ((s.takeover g e n).getD d).fixed = s.fixed := by
  cases h : s.takeover g e n with
  | none => exact hd
  | some t => exact s.fixed_takeover g e n t h

@[simp] theorem State.fixed_runningBoundary (g : GroupId) (e : Entry) :
    (s.runningBoundary g e).fixed = s.fixed := by
  unfold State.runningBoundary
  repeat' split
  all_goals first
    | rfl
    | (apply State.fixed_takeover_getD; rfl)
    | simp only [State.fixed_endAndFault, State.fixed_starve]

@[simp] theorem State.fixed_stopEnding (g : GroupId) (e : Entry) (st : SegStatus) :
    (s.stopEnding g e st).fixed = s.fixed := by
  unfold State.stopEnding; dsimp only; repeat' split
  all_goals simp

@[simp] theorem State.fixed_stoppingBoundary (g : GroupId) (e : Entry) :
    (s.stoppingBoundary g e).fixed = s.fixed := by
  unfold State.stoppingBoundary; repeat' split
  all_goals simp

@[simp] theorem State.fixed_boundary (g : GroupId) (e : Entry) : (s.boundary g e).fixed = s.fixed := by
  unfold State.boundary; dsimp only; split <;> simp

@[simp] theorem State.fixed_afterBoundary (g : GroupId) : (s.afterBoundary g).fixed = s.fixed := by
  unfold State.afterBoundary; split <;> simp

@[simp] theorem State.fixed_periodBoundary (g : GroupId) : (s.periodBoundary g).fixed = s.fixed := by
  unfold State.periodBoundary; split <;> simp

@[simp] theorem State.fixed_stepTick (g : GroupId) : (s.stepTick g).fixed = s.fixed := by
  unfold State.stepTick; repeat' split
  all_goals simp

@[simp] theorem State.fixed_resume (g : GroupId) : (s.resume g).fixed = s.fixed := by
  unfold State.resume; split
  · rfl
  · dsimp only; split
    · rfl
    · simp; rfl

@[simp] theorem State.fixed_fireMember (ps : List (GroupId × Bool)) (g : GroupId) :
    (State.fireMember ps s g).fixed = s.fixed := by
  unfold State.fireMember; split <;> simp

@[simp] theorem State.fixed_fireSet (g : GroupId) : (s.fireSet g).fixed = s.fixed := by
  unfold State.fireSet; split
  · rfl
  · split
    · rfl
    · rw [foldl_keeps State.fixed _ (fun a m => State.fixed_fireMember a _ m)]; rfl

/-! ## The converter and the result writer -/

@[simp] theorem State.fixed_convTick (v : BitVec 12) : (s.convTick v).fixed = s.fixed := by
  unfold State.convTick; dsimp only; split <;> rfl

@[simp] theorem State.fixed_offerResult (r : ConvResult) : (s.offerResult r).fixed = s.fixed := by
  unfold State.offerResult; dsimp only; split <;> rfl

@[simp] theorem State.fixed_conversionEnd : s.conversionEnd.fixed = s.fixed := by
  unfold State.conversionEnd; split
  · rfl
  · dsimp only; split
    · rfl
    · simp

@[simp] theorem State.fixed_endJob (r : EntryRef) : (s.endJob r).fixed = s.fixed := by
  unfold State.endJob; split <;> rfl

@[simp] theorem State.fixed_countWord (w : WordOnBus) : (s.countWord w).fixed = s.fixed := by
  unfold State.countWord; dsimp only; repeat' split
  all_goals simp

@[simp] theorem State.fixed_faultWord (w : WordOnBus) : (s.faultWord w).fixed = s.fixed := by
  simp [State.faultWord]

end Sys2Proof.Machine
end

