-- ==== Sys2Proof/Laws/Step.lean ====
section
/-! SUPPORT. Laws/Step.lean: what one command can do, said once. A command that is due takes its effect, which
`Happens` lists with its guards, and then settles; every other command drops an answer or changes nothing. -/

namespace Sys2Proof.Machine

/-- An administrative command that reaches the processor: RUNNING, with its read outstanding. -/
structure Arrives (s : State) : Prop where
  running : s.ctrl = .running
  outstanding : s.outstanding .adminProcessor = true

/-- An answer that is taken: RUNNING, with the requester's transaction outstanding. -/
structure Taken (r : Requester) (s : State) : Prop where
  running : s.ctrl = .running
  outstanding : s.outstanding r = true

/-- The state on which a command is executed: its read is no longer outstanding. -/
abbrev State.received (s : State) : State := s.answered .adminProcessor

/-- The effect of a command that is due, before it settles, with the guards under which it is due. -/
inductive Happens : Instr → State → State → Prop where
  | powerOnReset (rstn) (s : State) : Happens (.powerOnReset rstn) s { s.powerOn with rstn := rstn }
  | ctrlReset (s : State) (h : s.inReset = false) : Happens .ctrlReset s s.controllerReset
  | ctrlStart (s : State) (h : s.inReset = false) : Happens .ctrlStart s s.ctrlStart
  | evtWrite (v) (s : State) (h : s.inReset = false) : Happens (.evtWrite v) s (s.clearEvt (v.extractLsb' 0 6))
  | evtmaskWrite (v) (s : State) (h : s.inReset = false) : Happens (.evtmaskWrite v) s (s.writeMask v)
  | postGroupTail (g i) (s : State) (h : s.inReset = false) : Happens (.postGroupTail g i) s (s.postGroup g i)
  | postAdminTail (i) (s : State) (h : s.inReset = false) : Happens (.postAdminTail i) s (s.postAdmin i)
  | postCompletionRelease (i) (s : State) (h : s.inReset = false) : Happens (.postCompletionRelease i) s (s.postRelease i)
  | admbaseLoWrite (v) (s : State) (h : s.inReset = false) : Happens (.admbaseLoWrite v) s (State.whenOff (s.writeHolding v) s)
  | cplbaseLoWrite (v) (s : State) (h : s.inReset = false) : Happens (.cplbaseLoWrite v) s (State.whenOff (s.writeHolding v) s)
  | admbaseHiWrite (v) (s : State) (h : s.inReset = false) : Happens (.admbaseHiWrite v) s (State.whenOff (s.writeAdmBase v) s)
  | cplbaseHiWrite (v) (s : State) (h : s.inReset = false) : Happens (.cplbaseHiWrite v) s (State.whenOff (s.writeCplBase v) s)
  | admbaseHiRead (w) (s : State) : Happens (.admbaseHiRead w) s
      { s with readData := laneBytes (readValue .admbaseHi s) w, holding := if s.inReset then s.holding else s.admBase.extractLsb' 0 32 }
  | cplbaseHiRead (w) (s : State) : Happens (.cplbaseHiRead w) s
      { s with readData := laneBytes (readValue .cplbaseHi s) w, holding := if s.inReset then s.holding else s.cplBase.extractLsb' 0 32 }
  | registerWrite (r v) (s : State) (h : s.inReset = false) : Happens (.registerWrite r false v) s (s.writeReg r v)
  | groupFetchIssue (g) (s : State) (h : s.granted (.fetcher g) = true) : Happens (.groupFetchIssue g) s
      { ((s.modGroup g Group.beginFetch).issue
          { requester := .fetcher g, addr := slotAddr (s.group g).ring.base 64 (s.group g).ring.fetch,
            op := .readRecord }) with lastFetcher := g }
  | groupReadOk (g slot s) (h : Taken (.fetcher g) s) : Happens (.groupReadOk false g slot) s
      (s.readAnswered g (Entry.fetched slot (Seg.valid slot (s.group g).mode (s.boundPairs g).length)))
  | groupReadError (g s) (h : Taken (.fetcher g) s) : Happens (.groupReadError false g) s
      (s.readAnswered g Entry.fetchFailed)
  | groupTick (g s) (h : s.tickDue g = true) (hb : (s.group g).atBoundary = false)
      (hr : (s.group g).atResume = false) : Happens (.groupTick g) s ((s.markTick g).stepTick g)
  | periodBoundary (g s) (h : s.tickDue g = true) (hb : (s.group g).atBoundary = true) :
      Happens (.periodBoundary g) s (s.periodBoundary g)
  | deadTimeExpiry (p o s) (h : s.expiryDue p o = true) :
      Happens (.deadTimeExpiry p o) s (s.setPair p ((s.pair p).expire o))
  | starvedResume (g s) (h : s.tickDue g = true) (hr : (s.group g).atResume = true) :
      Happens (.starvedResume g) s ((s.markTick g).resume g)
  | startSetFire (g s) (h : s.setDue g = true) : Happens (.startSetFire g) s (s.fireSet g)
  | converterTick (v s) (h : s.convTickDue = true) : Happens (.converterTick v) s (s.convTick v)
  | conversionEnd (s) (h : s.conversionAtEnd = true) : Happens .conversionEnd s s.conversionEnd
  | resultWriteIssue (s) (h : s.granted .resultWriter = true) : Happens .resultWriteIssue s s.issueWord
  | resultWriteOk (s) (h : Taken .resultWriter s) :
      Happens (.resultWriteOk false) s (s.resultAnswered State.countWord)
  | resultWriteError (s) (h : Taken .resultWriter s) :
      Happens (.resultWriteError false) s (s.resultAnswered State.faultWord)
  | recordLeave (g s) (h : s.leaveDue g = true) : Happens (.recordLeave g) s (s.modGroup g (Group.leave g))
  | noticeQueue (g s) (h : s.noticeDue g = true) :
      Happens (.noticeQueue g) s (s.modGroup g (Group.queueNotice g))
  | adminFetchIssue (s) (h : s.granted .adminProcessor = true) :
      Happens .adminFetchIssue s s.issueCommandRead
  | adminReadError (s) (h : Taken .adminProcessor s) :
      Happens (.adminReadError false) s (s.received.halt .adminFetch)
  | completionWriteIssue (s) (h : s.granted .completionWriter = true) :
      Happens .completionWriteIssue s s.issueEntry
  | completionWriteOk (s) (h : Taken .completionWriter s) : Happens (.completionWriteOk false) s
      { (s.answered .completionWriter).setEvt s.inFlightEvent with
        cpl := { s.cpl with state := .idle, inFlight := none } }
  | completionWriteError (s) (h : Taken .completionWriter s) : Happens (.completionWriteError false) s
      { (s.answered .completionWriter).halt .completionWrite with cpl := { s.cpl with inFlight := none } }
  | tripSample (pins : Vector Level 4) (s : State) (h : s.tripSampleDue = true) : Happens (.tripSample pins) s
      { s with
        lines := Vector.ofFn fun l => (s.line l).sampled (pins.get l)
        marks := { s.marks with trip := true } }
  | filteredLevelChange (l level) (s : State) (h : s.inReset = false) (hl : (s.line l).sample = some level) :
      Happens (.filteredLevelChange l) s (s.judgeSample l level)
  | refused (i cmd status) (s : State) (h : Arrives s) (hs : status ≠ .ok) :
      Happens i s (s.received.report cmd status 0)
  | bindRing (cmd s) (h : Arrives s) (hv : bindRingVerdict cmd s = .ok) :
      Happens (.bindRing false cmd) s ((bindRingEffect cmd s.received).report cmd .ok 0)
  | unbindRing (cmd s) (h : Arrives s) (hv : unbindRingVerdict cmd s = .ok) :
      Happens (.unbindRing false cmd) s ((unbindRingEffect cmd s.received).report cmd .ok 0)
  | setGroup (cmd s) (h : Arrives s) (hv : setGroupVerdict cmd s = .ok) :
      Happens (.setGroup false cmd) s ((setGroupEffect cmd s.received).report cmd .ok 0)
  | setPair (cmd s) (h : Arrives s) (hv : setPairVerdict cmd s = .ok) :
      Happens (.setPair false cmd) s ((setPairEffect cmd s.received).report cmd .ok 0)
  | setConverter (cmd s) (h : Arrives s) (hv : setConverterVerdict cmd s = .ok) :
      Happens (.setConverter false cmd) s ((setConverterEffect cmd s.received).report cmd .ok 0)
  | setTrip (cmd s) (h : Arrives s) (hv : setTripVerdict cmd s = .ok) :
      Happens (.setTrip false cmd) s ((setTripEffect cmd s.received).report cmd .ok 0)
  | start (cmd s) (h : Arrives s) (hv : startVerdict cmd s = .ok) :
      Happens (.start false cmd) s ((startEffect cmd s.received).report cmd .ok 0)
  | stop (cmd s) (h : Arrives s) (hv : stopVerdict cmd s = .ok) :
      Happens (.stop false cmd) s ((stopEffect cmd s.received).report cmd .ok 0)
  | abort (cmd s) (h : Arrives s) (hv : abortVerdict cmd s = .ok) :
      Happens (.abort false cmd) s ((abortEffect cmd s.received).report cmd .ok 0)
  | setToken (cmd s) (h : Arrives s) (hv : setTokenVerdict cmd s = .ok) :
      Happens (.setToken false cmd) s ((setTokenEffect cmd s.received).report cmd .ok 0)
  | clearTrip (cmd s) (h : Arrives s) (hv : clearTripVerdict cmd s = .ok) :
      Happens (.clearTrip false cmd) s ((clearTripEffect cmd s.received).report cmd .ok 0)
  | query (i cmd value) (s : State) (h : Arrives s) : Happens i s (s.received.report cmd .ok value)
  | queryTrips (cmd value) (s : State) (h : Arrives s) :
      Happens (.queryTrips false cmd) s (s.received.finishSample.report cmd .ok value)

/-! ## How a happening ends -/

theorem happen_next {due : Bool} {s t u : State} (h : happen due s t = .next u) :
    u = s ∨ (due = true ∧ u = t.settle) := by
  cases due <;> simp_all [happen]

/-- A line without a waiting sample has no step left on this sample tick. -/
@[simp] theorem State.lineStep_of_none {s : State} {l : LineId} (h : (s.line l).sample = none) :
    s.lineStep l = s := by
  simp [State.lineStep, h]

/-- A sample tick of which no line's step waits is at its end. -/
theorem State.finishSample_of_none {s : State} (h : ∀ l : LineId, (s.line l).sample = none) :
    s.finishSample = s := by
  simp [State.finishSample, allLines, h]

theorem access_next {s t u : State} (h : access s t = .next u) :
    u = s ∨ (s.inReset = false ∧ u = t.settle) := by
  unfold access at h
  split at h <;> simp_all

theorem answer_next {late : Bool} {r : Requester} {s t u : State} (h : answer late r s t = .next u) :
    u = s ∨ u = s.dropLate r ∨ u = s.answered r ∨ (late = false ∧ Taken r s ∧ u = t.settle) := by
  unfold answer at h
  split at h
  · simp only [Host.Outcome.next.injEq] at h; exact .inr (.inl h.symm)
  · split at h
    · simp only [Host.Outcome.next.injEq] at h; exact .inr (.inr (.inl h.symm))
    · rcases happen_next h with h | ⟨hd, h⟩
      · exact .inl h
      · simp only [Bool.and_eq_true, State.isRunning, beq_iff_eq] at hd
        exact .inr (.inr (.inr ⟨by simpa using ‹¬late = true›, ⟨hd.1, hd.2⟩, h⟩))

theorem command_next {late isRow : Bool} {cmd : Slot32} {v : AdminStatus} {value : BitVec 128}
    {f : State → State} {s u : State} (h : command late isRow cmd v value f s = .next u) :
    u = s ∨ u = s.dropLate .adminProcessor ∨ u = s.answered .adminProcessor
      ∨ (late = false ∧ Arrives s ∧
          ((v = .ok ∧ u = ((f s.received).report cmd .ok value).settle)
            ∨ (v ≠ .ok ∧ u = (s.received.report cmd v 0).settle))) := by
  unfold command at h
  split at h
  · rcases answer_next h with h | h | h | ⟨hl, ht, h⟩
    · exact .inl h
    · exact .inr (.inl h)
    · exact .inr (.inr (.inl h))
    · refine .inr (.inr (.inr ⟨hl, ⟨ht.1, ht.2⟩, ?_⟩))
      by_cases hv : v = .ok
      · simp only [hv, ↓reduceIte] at h; exact .inl ⟨hv, h⟩
      · simp only [hv, ↓reduceIte] at h; exact .inr ⟨hv, h⟩
  · simp only [Host.Outcome.next.injEq] at h; exact .inl h.symm

/-- What one command can do: nothing, dropping an answer, passing an answer over, or its effect. -/
theorem exec_next {c : Instr} {s t : State} (h : exec c s = .next t) :
    t = s ∨ (∃ r, t = s.dropLate r) ∨ (∃ r, t = s.answered r) ∨ ∃ u, Happens c s u ∧ t = u.settle := by
  have viaHappen : ∀ {due : Bool} {u : State}, happen due s u = .next t → (due = true → Happens c s u) →
      t = s ∨ (∃ r, t = s.dropLate r) ∨ (∃ r, t = s.answered r) ∨ ∃ u, Happens c s u ∧ t = u.settle := by
    intro due u hh hu
    rcases happen_next hh with h | ⟨hd, h⟩
    · exact .inl h
    · exact .inr (.inr (.inr ⟨u, hu hd, h⟩))
  have viaAnswer : ∀ {late : Bool} {r : Requester} {u : State}, answer late r s u = .next t →
      (late = false → Taken r s → Happens c s u) →
      t = s ∨ (∃ r, t = s.dropLate r) ∨ (∃ r, t = s.answered r) ∨ ∃ u, Happens c s u ∧ t = u.settle := by
    intro late r u hh hu
    rcases answer_next hh with h | h | h | ⟨hl, ht, h⟩
    · exact .inl h
    · exact .inr (.inl ⟨_, h⟩)
    · exact .inr (.inr (.inl ⟨_, h⟩))
    · exact .inr (.inr (.inr ⟨u, hu hl ht, h⟩))
  have viaCommand : ∀ {late isRow : Bool} {cmd : Slot32} {v : AdminStatus} {value : BitVec 128}
      {f : State → State}, command late isRow cmd v value f s = .next t →
      (late = false → Arrives s → v = .ok → Happens c s ((f s.received).report cmd .ok value)) →
      t = s ∨ (∃ r, t = s.dropLate r) ∨ (∃ r, t = s.answered r) ∨ ∃ u, Happens c s u ∧ t = u.settle := by
    intro late isRow cmd v value f hh hu
    rcases command_next hh with h | h | h | ⟨hl, ha, ⟨hv, h⟩ | ⟨hv, h⟩⟩
    · exact .inl h
    · exact .inr (.inl ⟨_, h⟩)
    · exact .inr (.inr (.inl ⟨_, h⟩))
    · exact .inr (.inr (.inr ⟨_, hu hl ha hv, h⟩))
    · exact .inr (.inr (.inr ⟨_, .refused _ _ _ _ ha hv, h⟩))
  have always : ∀ {u : State}, (Host.Outcome.next u.settle : StepResult) = .next t → Happens c s u →
      t = s ∨ (∃ r, t = s.dropLate r) ∨ (∃ r, t = s.answered r) ∨ ∃ u, Happens c s u ∧ t = u.settle := by
    intro u hh hu
    simp only [Host.Outcome.next.injEq] at hh
    exact .inr (.inr (.inr ⟨u, hu, hh.symm⟩))
  have viaAccess : ∀ {u : State}, access s u = .next t → (s.inReset = false → Happens c s u) →
      t = s ∨ (∃ r, t = s.dropLate r) ∨ (∃ r, t = s.answered r) ∨ ∃ u, Happens c s u ∧ t = u.settle := by
    intro u hh hu
    rcases access_next hh with h | ⟨hr, h⟩
    · exact .inl h
    · exact .inr (.inr (.inr ⟨u, hu hr, h⟩))
  cases c with
  | powerOnReset r => exact always h (.powerOnReset _ _)
  | ctrlReset => exact viaAccess h fun hr => .ctrlReset _ hr
  | ctrlStart => exact viaAccess h fun hr => .ctrlStart _ hr
  | evtWrite v => exact viaAccess h fun hr => .evtWrite _ _ hr
  | evtmaskWrite v => exact viaAccess h fun hr => .evtmaskWrite _ _ hr
  | postGroupTail g i => exact viaAccess h fun hr => .postGroupTail _ _ _ hr
  | postAdminTail i => exact viaAccess h fun hr => .postAdminTail _ _ hr
  | postCompletionRelease i => exact viaAccess h fun hr => .postCompletionRelease _ _ hr
  | admbaseLoWrite v => exact viaAccess h fun hr => .admbaseLoWrite _ _ hr
  | cplbaseLoWrite v => exact viaAccess h fun hr => .cplbaseLoWrite _ _ hr
  | admbaseHiWrite v => exact viaAccess h fun hr => .admbaseHiWrite _ _ hr
  | cplbaseHiWrite v => exact viaAccess h fun hr => .cplbaseHiWrite _ _ hr
  | admbaseHiRead w => exact always h (.admbaseHiRead _ _)
  | cplbaseHiRead w => exact always h (.cplbaseHiRead _ _)
  | registerWrite r n v =>
    cases n with
    | true => simp only [exec, execRegisterWrite, ↓reduceIte, Host.Outcome.next.injEq] at h; exact .inl h.symm
    | false => exact viaAccess h fun hr => .registerWrite _ _ _ hr
  | groupFetchIssue g => exact viaHappen h fun hd => .groupFetchIssue _ _ hd
  | groupReadOk l g x => exact viaAnswer h fun hl ht => hl ▸ .groupReadOk _ _ _ ht
  | groupReadError l g => exact viaAnswer h fun hl ht => hl ▸ .groupReadError _ _ ht
  | groupTick g =>
    refine viaHappen h fun hd => ?_
    simp only [Bool.and_eq_true, Bool.not_eq_true'] at hd
    exact .groupTick _ _ hd.1.1 hd.1.2 hd.2
  | periodBoundary g =>
    refine viaHappen h fun hd => ?_
    simp only [Bool.and_eq_true] at hd
    exact .periodBoundary _ _ hd.1 hd.2
  | deadTimeExpiry p o => exact viaHappen h fun hd => .deadTimeExpiry _ _ _ hd
  | starvedResume g =>
    refine viaHappen h fun hd => ?_
    simp only [Bool.and_eq_true] at hd
    exact .starvedResume _ _ hd.1 hd.2
  | startSetFire g => exact viaHappen h fun hd => .startSetFire _ _ hd
  | converterTick v => exact viaHappen h fun hd => .converterTick _ _ hd
  | conversionEnd => exact viaHappen h fun hd => .conversionEnd _ hd
  | resultWriteIssue => exact viaHappen h fun hd => .resultWriteIssue _ hd
  | resultWriteOk l => exact viaAnswer h fun hl ht => hl ▸ .resultWriteOk _ ht
  | resultWriteError l => exact viaAnswer h fun hl ht => hl ▸ .resultWriteError _ ht
  | recordLeave g => exact viaHappen h fun hd => .recordLeave _ _ hd
  | noticeQueue g => exact viaHappen h fun hd => .noticeQueue _ _ hd
  | adminFetchIssue => exact viaHappen h fun hd => .adminFetchIssue _ hd
  | adminReadError l => exact viaAnswer h fun hl ht => hl ▸ .adminReadError _ ht
  | completionWriteIssue => exact viaHappen h fun hd => .completionWriteIssue _ hd
  | completionWriteOk l => exact viaAnswer h fun hl ht => hl ▸ .completionWriteOk _ ht
  | completionWriteError l => exact viaAnswer h fun hl ht => hl ▸ .completionWriteError _ ht
  | tripSample p => exact viaHappen h fun hd => .tripSample _ _ hd
  | filteredLevelChange l =>
    simp only [exec, execFilteredLevelChange, State.lineStep, Host.Outcome.next.injEq] at h
    split at h
    · exact .inl h.symm
    · split at h
      · exact .inl h.symm
      · exact .inr (.inr (.inr ⟨_, .filteredLevelChange _ _ _ (eq_false_of_ne_true ‹_›) ‹_›, h.symm⟩))
  | bindRing l cmd => exact viaCommand h fun hl ha hv => hl ▸ .bindRing _ _ ha hv
  | unbindRing l cmd => exact viaCommand h fun hl ha hv => hl ▸ .unbindRing _ _ ha hv
  | setGroup l cmd => exact viaCommand h fun hl ha hv => hl ▸ .setGroup _ _ ha hv
  | setPair l cmd => exact viaCommand h fun hl ha hv => hl ▸ .setPair _ _ ha hv
  | setConverter l cmd => exact viaCommand h fun hl ha hv => hl ▸ .setConverter _ _ ha hv
  | setTrip l cmd => exact viaCommand h fun hl ha hv => hl ▸ .setTrip _ _ ha hv
  | start l cmd => exact viaCommand h fun hl ha hv => hl ▸ .start _ _ ha hv
  | stop l cmd => exact viaCommand h fun hl ha hv => hl ▸ .stop _ _ ha hv
  | abort l cmd => exact viaCommand h fun hl ha hv => hl ▸ .abort _ _ ha hv
  | setToken l cmd => exact viaCommand h fun hl ha hv => hl ▸ .setToken _ _ ha hv
  | clearTrip l cmd => exact viaCommand h fun hl ha hv => hl ▸ .clearTrip _ _ ha hv
  | queryGroup l cmd => exact viaCommand h fun _ ha _ => .query _ _ _ _ ha
  | queryTokens l cmd => exact viaCommand h fun _ ha _ => .query _ _ _ _ ha
  | queryTrips l cmd => exact viaCommand h fun hl ha _ => hl ▸ .queryTrips _ _ _ ha
  | queryConverter l cmd => exact viaCommand h fun _ ha _ => .query _ _ _ _ ha
  | unknown l cmd => exact viaCommand h fun _ _ hv => by cases hv

/-- What one step can do: a command's effect, or the passing of a device clock. -/
theorem step_next {s t : State} (h : step s = .next t) :
    (∃ c rest, s.pending = c :: rest ∧ exec c { s with pending := rest } = .next t)
      ∨ (∃ c, s.pending = [] ∧ s.nextOwn = some c ∧ exec c s = .next t)
      ∨ (s.pending = [] ∧ s.nextOwn = none ∧ t = s.passClock) := by
  unfold step at h
  split at h
  · exact .inl ⟨_, _, ‹_›, h⟩
  · split at h
    · exact .inr (.inl ⟨_, ‹_›, ‹_›, h⟩)
    · simp only [Host.Outcome.next.injEq] at h
      exact .inr (.inr ⟨‹_›, ‹_›, h.symm⟩)

/-- A law that the queue of waiting commands does not touch, that every effect, every settling, every dropped
or passed-over answer and every passing device clock keeps, is kept by every step. -/
theorem step_keeps (P : State → Prop)
    (hq : ∀ s q, P s → P { s with pending := q })
    (hdrop : ∀ s r, P s → P (s.dropLate r))
    (hans : ∀ s r, P s → P (s.answered r))
    (heff : ∀ c s u, P s → Happens c s u → P u.settle)
    (hclk : ∀ s : State, P s → P s.passClock)
    {s t : State} (hs : P s) (h : step s = .next t) : P t := by
  have hexec : ∀ c s, P s → exec c s = .next t → P t := by
    intro c s hs h
    rcases exec_next h with h | ⟨r, h⟩ | ⟨r, h⟩ | ⟨u, hu, h⟩
    · exact h ▸ hs
    · exact h ▸ hdrop _ _ hs
    · exact h ▸ hans _ _ hs
    · exact h ▸ heff _ _ _ hs hu
  rcases step_next h with ⟨c, rest, _, h⟩ | ⟨c, _, _, h⟩ | ⟨_, _, h⟩
  · exact hexec c _ (hq _ _ hs) h
  · exact hexec c _ hs h
  · exact h ▸ hclk _ hs

end Sys2Proof.Machine
end

