-- ==== Sys2Proof/Laws/Settle.lean ====
section
/-! SUPPORT. Laws/Settle.lean: `settle` works its five fields out of the rest of the state, so settling twice is
settling once, and a change that touches none of its inputs leaves a settled state settled. -/

namespace Sys2Proof.Machine

/-- What the output selection reads. -/
structure SameSelection (s t : State) : Prop where
  ctrl : t.ctrl = s.ctrl
  lines : t.lines = s.lines
  producing : ∀ g, (t.group g).producing = (s.group g).producing

theorem SameSelection.tripCondition {s t : State} (h : SameSelection s t) (g : GroupId) :
    t.tripCondition g = s.tripCondition g := by
  simp [State.tripCondition, State.line, h.lines]

theorem SameSelection.selection {s t : State} (h : SameSelection s t) (u : PairUnit) :
    t.selection u = s.selection u := by
  cases hg : u.group with
  | none => simp [State.selection, hg]
  | some g => simp [State.selection, hg, h.ctrl, h.tripCondition, h.producing]

theorem SameSelection.settledPair {s t : State} (h : SameSelection s t) (u : PairUnit) :
    t.settledPair u = s.settledPair u := by
  simp [State.settledPair, h.selection, h.ctrl]

/-- Settling a pair keeps its selection. -/
theorem State.selection_settledPair (s : State) (u : PairUnit) :
    s.selection (s.settledPair u) = s.selection u := by
  have hg : (s.settledPair u).group = u.group := by
    simp only [State.settledPair]; split <;> rfl
  simp [State.selection, hg]

/-- A pair under a selection, with its working state cleared unless it is shown or frozen. -/
def PairUnit.settleAs (sel : Selection) (frozen : Bool) (u : PairUnit) : PairUnit :=
  let u' := if sel == .waveform || frozen then u else u.quiet
  { u' with pins := u'.shown sel }

theorem State.settledPair_eq (s : State) (u : PairUnit) :
    s.settledPair u = u.settleAs (s.selection u) (s.ctrl == .halted) := rfl

theorem PairUnit.settleAs_idem (sel : Selection) (frozen : Bool) (u : PairUnit) :
    (u.settleAs sel frozen).settleAs sel frozen = u.settleAs sel frozen := by
  cases sel <;> cases frozen <;> rfl

/-- A settled pair is settled. -/
theorem State.settledPair_idem (s : State) (u : PairUnit) :
    s.settledPair (s.settledPair u) = s.settledPair u := by
  rw [s.settledPair_eq (s.settledPair u), s.selection_settledPair, s.settledPair_eq, PairUnit.settleAs_idem]

theorem State.settle_same (s : State) : SameSelection s s.settle := ⟨rfl, rfl, fun _ => rfl⟩

/-- What the three ASKING states are worked out of. -/
structure SameAsking (s t : State) : Prop where
  admin : t.settledAdmin = s.admin.state
  writer : t.settledWriter = s.writer.write
  cpl : t.settledCpl = s.cpl.state

/-- A settled state, field by field. -/
theorem settled_iff (s : State) : Settled s ↔
    s.irq = irqLevel s.evt s.evtMask ∧ (∀ p, s.settledPair (s.pair p) = s.pair p)
      ∧ s.settledAdmin = s.admin.state ∧ s.settledWriter = s.writer.write
      ∧ s.settledCpl = s.cpl.state := by
  constructor
  · intro h
    have h' : s.settle = s := h
    refine ⟨?_, fun p => ?_, ?_, ?_, ?_⟩
    · conv => lhs; rw [← h']
      rfl
    · conv => rhs; rw [← h']
      exact (State.settle_pair s p).symm
    · conv => rhs; rw [← h']
      rfl
    · conv => rhs; rw [← h']
      rfl
    · conv => rhs; rw [← h']
      rfl
  · rintro ⟨hi, hp, ha, hw, hc⟩
    have hpairs : (Vector.ofFn fun p => s.settledPair (s.pair p)) = s.pairs := by
      apply Vector.ext
      intro i hi
      simp only [Vector.getElem_ofFn]
      exact hp ⟨i, hi⟩
    show s.settle = s
    unfold State.settle
    rw [hpairs, ha, hw, hc, ← hi]

theorem settledAdmin_settle (s : State) : s.settle.settledAdmin = s.settledAdmin := by
  have hm : s.settle.adminMayAsk = s.adminMayAsk := rfl
  unfold State.settledAdmin
  rw [hm]
  by_cases h1 : s.admin.state = .onBus
  · simp [h1, State.settledAdmin]
  · cases h2 : s.adminMayAsk <;> simp [h1, h2, State.settledAdmin]

theorem settledWriter_settle (s : State) : s.settle.settledWriter = s.settledWriter := by
  unfold State.settledWriter
  by_cases h0 : s.ctrl = .halted
  · simp [h0, State.settledWriter]
  · by_cases h1 : s.writer.write = .onBus
    · simp [h0, h1, State.settledWriter]
    · cases h2 : s.writer.job.isSome <;> simp [h0, h1, h2, State.settledWriter]

theorem settledCpl_settle (s : State) : s.settle.settledCpl = s.settledCpl := by
  have hm : s.settle.cplMayAsk = s.cplMayAsk := rfl
  unfold State.settledCpl
  rw [hm]
  by_cases h1 : s.cpl.state = .onBus
  · simp [h1, State.settledCpl]
  · cases h2 : s.cplMayAsk <;> simp [h1, h2, State.settledCpl]

/-- Settling ends a happening once and for all. -/
theorem settled_settle (s : State) : Settled s.settle := by
  rw [settled_iff]
  refine ⟨rfl, fun p => ?_, ?_, ?_, ?_⟩
  · rw [State.settle_pair, (State.settle_same s).settledPair, State.settledPair_idem]
  · rw [settledAdmin_settle]; rfl
  · rw [settledWriter_settle]; rfl
  · rw [settledCpl_settle]; rfl

/-- A change that touches nothing `settle` reads, and none of the fields it works out, keeps a state settled. -/
theorem settled_of_same {s t : State} (hs : Settled s) (hsel : SameSelection s t)
    (hp : t.pairs = s.pairs) (hi : t.irq = s.irq) (he : t.evt = s.evt) (hm : t.evtMask = s.evtMask)
    (ha : t.settledAdmin = s.settledAdmin) (ha' : t.admin.state = s.admin.state)
    (hw : t.settledWriter = s.settledWriter) (hw' : t.writer.write = s.writer.write)
    (hc : t.settledCpl = s.settledCpl) (hc' : t.cpl.state = s.cpl.state) : Settled t := by
  rw [settled_iff] at hs ⊢
  obtain ⟨h1, h2, h3, h4, h5⟩ := hs
  refine ⟨by rw [hi, he, hm]; exact h1, fun p => ?_, by rw [ha, ha', h3], by rw [hw, hw', h4],
    by rw [hc, hc', h5]⟩
  rw [hsel.settledPair]
  simp only [State.pair, hp]
  exact h2 p

/-- A state as `exec` leaves it when its effect is already settled. -/
theorem settle_of_same {s t : State} (hs : Settled s) (hsel : SameSelection s t)
    (hp : t.pairs = s.pairs) (hi : t.irq = s.irq) (he : t.evt = s.evt) (hm : t.evtMask = s.evtMask)
    (ha : t.settledAdmin = s.settledAdmin) (ha' : t.admin.state = s.admin.state)
    (hw : t.settledWriter = s.settledWriter) (hw' : t.writer.write = s.writer.write)
    (hc : t.settledCpl = s.settledCpl) (hc' : t.cpl.state = s.cpl.state) : t.settle = t :=
  settled_of_same hs hsel hp hi he hm ha ha' hw hw' hc hc'

end Sys2Proof.Machine
end

