-- ==== Sys2Proof/Laws/Same.lean ====
section
/-! SUPPORT. Laws/Same.lean: what `settle` leaves of a settled state after a change: the pairs and the interrupt
line of a change that touches nothing they read, and the frame lemmas that follow. -/

namespace Sys2Proof.Machine

/-- The pairs after a change that the selection does not see. -/
theorem settle_pairs_of_same {s t : State} (hs : Settled s) (h : SameSelection s t)
    (hp : t.pairs = s.pairs) : t.settle.pairs = s.pairs := by
  have h2 := ((settled_iff s).1 hs).2.1
  apply Vector.ext
  intro i hi
  have := h2 ⟨i, hi⟩
  simp only [State.settle, Vector.getElem_ofFn, h.settledPair]
  simp only [State.pair, hp] at this ⊢
  exact this

/-- The interrupt line after a change that leaves the events alone. -/
theorem settle_irq_of_same {s t : State} (hs : Settled s) (he : t.evt = s.evt)
    (hm : t.evtMask = s.evtMask) : t.settle.irq = s.irq := by
  simp [State.settle, he, hm, ((settled_iff s).1 hs).1]

/-- The fields of a change that nothing of `settle` touches, read off after settling. -/
theorem same_settle_pairs {s t : State} (hs : Settled s) (h : SameSelection s t) (hp : t.pairs = s.pairs) :
    Block.Same s t.settle .pairs := settle_pairs_of_same hs h hp

theorem same_settle_events {s t : State} (hs : Settled s) (he : t.evt = s.evt)
    (hm : t.evtMask = s.evtMask) : Block.Same s t.settle .events :=
  ⟨he, hm, settle_irq_of_same hs he hm⟩

/-- A change of a state's groups that keeps who produces keeps the selection. -/
theorem sameSelection_modGroup (s : State) (g : GroupId) (f : Group → Group)
    (h : (f (s.group g)).producing = (s.group g).producing) : SameSelection s (s.modGroup g f) where
  ctrl := rfl
  lines := rfl
  producing m := by
    rw [State.group_modGroup]
    split
    · next hm => subst hm; exact h
    · rfl

/-- An event bit that is set together with its enable is what asserts IRQ. -/
theorem irqLevel_iff (evt mask : BitVec 6) :
    irqLevel evt mask = true ↔ ∃ i : Fin 6, evt.getLsbD i = true ∧ mask.getLsbD i = true := by
  revert evt mask; decide

end Sys2Proof.Machine
end

