-- ==== Sys2Proof/Laws/Pump.lean ====
section
/-! SUPPORT. Laws/Pump.lean: what the consequences of a happening on the capture path can do to the groups, said
once. Where the slots of every window are distinct (as the ring law gives), `pump` turns DRAINING entries into
RETIRING ones and STOPPING groups without a draining record into STOPPED ones, and nothing else. -/

namespace Sys2Proof.Machine

/-- An entry after draining: as it was, or RETIRING where it was DRAINING. -/
abbrev Entry.Drained (e f : Entry) : Prop := f = e ∨ (e.st = .draining ∧ f = { e with st := .retiring })

theorem Entry.Drained.trans {a b c : Entry} (h : a.Drained b) (h' : b.Drained c) : a.Drained c := by
  rcases h with rfl | ⟨h1, rfl⟩
  · exact h'
  · rcases h' with rfl | ⟨h2, rfl⟩
    · exact .inr ⟨h1, rfl⟩
    · simp at h2

theorem Entry.Drained.slot {e f : Entry} (h : e.Drained f) : f.slot = e.slot := by
  rcases h with rfl | ⟨-, rfl⟩ <;> rfl

/-- Windows entry by entry. -/
abbrev DrainedList (l m : List Entry) : Prop := List.Forall₂ Entry.Drained l m

theorem DrainedList.refl (l : List Entry) : DrainedList l l := by
  induction l with
  | nil => exact .nil
  | cons a l ih => exact .cons (.inl rfl) ih

theorem DrainedList.trans {k l m : List Entry} (h : DrainedList k l) (h' : DrainedList l m) :
    DrainedList k m := by
  induction h generalizing m with
  | nil => exact h'
  | cons h1 _ ih => cases h' with | cons h2 t => exact .cons (h1.trans h2) (ih t)

theorem DrainedList.slots {l m : List Entry} (h : DrainedList l m) :
    m.map Entry.slot = l.map Entry.slot := by
  induction h with
  | nil => rfl
  | cons h1 _ ih => simp [h1.slot, ih]

/-- Retiring the one entry of a slot. -/
theorem DrainedList.retireSlot {l : List Entry} (hn : (l.map Entry.slot).Nodup) {e : Entry} (he : e ∈ l)
    (hd : e.st = .draining) :
    DrainedList l (l.map fun f => if f.slot == e.slot then { f with st := .retiring } else f) := by
  have hu : ∀ f ∈ l, f.slot = e.slot → f = e := fun f hf h => List.inj_on_of_nodup_map hn hf he h
  clear hn he
  induction l with
  | nil => exact .nil
  | cons a l ih =>
    refine .cons ?_ (ih fun f hf => hu f (List.mem_cons_of_mem _ hf))
    by_cases h : a.slot = e.slot
    · have := hu a (List.mem_cons_self ..) h
      subst this
      simp [Entry.Drained, hd]
    · simp [Entry.Drained, h]

/-- The slots of every window are distinct. -/
abbrev DistinctSlots (s : State) : Prop := ∀ g : GroupId, ((s.group g).window.map Entry.slot).Nodup

theorem distinctSlots_of_ringLaw {s : State} (h : RingLaw s) : DistinctSlots s := by
  intro g
  obtain ⟨⟨h1, -, h3⟩, -, h5, h6, -⟩ := h g
  rw [h5]
  refine List.Nodup.map_on ?_ List.nodup_range
  intro i hi j hj hij
  simp only [List.mem_range] at hi hj
  have hle : (s.group g).window.length ≤ (s.group g).ring.size := h6.trans h3
  have := Nat.ModEq.add_left_cancel' (s.group g).ring.retire hij
  rw [Nat.ModEq, Nat.mod_eq_of_lt (by omega), Nat.mod_eq_of_lt (by omega)] at this
  exact this

/-- Every window drains and nothing else of a group moves. -/
abbrev WindowsDrain (s t : State) : Prop :=
  ∀ g : GroupId, t.group g = { s.group g with window := (t.group g).window }
    ∧ DrainedList (s.group g).window (t.group g).window

theorem WindowsDrain.refl (s : State) : WindowsDrain s s := fun _ => ⟨rfl, DrainedList.refl _⟩

theorem WindowsDrain.trans {s t u : State} (h : WindowsDrain s t) (h' : WindowsDrain t u) :
    WindowsDrain s u := by
  intro g
  refine ⟨?_, (h g).2.trans (h' g).2⟩
  rw [(h' g).1]
  conv => lhs; rw [(h g).1]

theorem WindowsDrain.distinct {s t : State} (h : WindowsDrain s t) (hs : DistinctSlots s) :
    DistinctSlots t := by
  intro g
  rw [(h g).2.slots]
  exact hs g

theorem WindowsDrain.of_groups {s t : State} (h : t.groups = s.groups) : WindowsDrain s t := by
  intro g
  have : t.group g = s.group g := by simp [State.group, h]
  rw [this]
  exact ⟨rfl, DrainedList.refl _⟩

theorem drainOne_windowsDrain {s : State} (hs : DistinctSlots s) (ref : EntryRef) :
    WindowsDrain s (s.drainOne ref) := by
  unfold State.drainOne
  split
  · exact .refl s
  · rename_i e he
    split
    · rename_i hc
      split
      · exact .of_groups rfl
      · simp only [Bool.and_eq_true, beq_iff_eq] at hc
        have hmem : e ∈ (s.group ref.group).window := List.mem_of_find?_eq_some he
        have hslot : e.slot = ref.slot := by simpa using List.find?_some he
        intro g
        rw [State.modEntry, State.group_modGroup]
        split
        · next hg =>
          subst hg
          refine ⟨rfl, ?_⟩
          rw [Group.modSlot, ← hslot]
          exact DrainedList.retireSlot (hs _) hmem hc.1.1
        · exact ⟨rfl, DrainedList.refl _⟩
    · exact .refl s

theorem drain_windowsDrain {s : State} (hs : DistinctSlots s) : WindowsDrain s s.drain := by
  unfold State.drain
  generalize s.drainingRefs = refs
  induction refs generalizing s with
  | nil => exact .refl s
  | cons r rs ih =>
    have h1 := drainOne_windowsDrain hs r
    exact h1.trans (ih (h1.distinct hs))

@[simp] theorem State.groups_converterTake (s : State) : s.converterTake.groups = s.groups := by
  unfold State.converterTake; split
  · split <;> rfl
  · rfl

@[simp] theorem State.groups_offerHeld (s : State) : s.offerHeld.groups = s.groups := by
  unfold State.offerHeld; split
  · split
    · rw [State.groups_converterTake]
    · rfl
  · rfl

@[simp] theorem State.groups_chooseJob (s : State) : s.chooseJob.groups = s.groups := by
  unfold State.chooseJob; split <;> (try split) <;> rfl

theorem pumpRounds_windowsDrain {s : State} (hs : DistinctSlots s) (n : Nat) :
    WindowsDrain s (State.pumpRounds n s) := by
  induction n generalizing s with
  | zero => exact .refl s
  | succ n ih =>
    have h1 : WindowsDrain s s.pumpOnce :=
      (drain_windowsDrain hs).trans (.of_groups (by simp [State.pumpOnce]))
    exact h1.trans (ih (h1.distinct hs))

/-- The end of the stops, group by group. -/
theorem finishStops_group (s : State) (g : GroupId) :
    (allGroups.foldl (fun s g => s.modGroup g Group.finishStop) s).group g = (s.group g).finishStop := by
  simp only [allGroups, List.foldl_cons, List.foldl_nil, State.group_modGroup]
  fin_cases g <;> simp

theorem finishStop_window (x : Group) : x.finishStop.window = x.window := by
  unfold Group.finishStop; split <;> rfl

/-- What `pump` can do to a group. -/
theorem pump_drains {s : State} (hs : DistinctSlots s) (g : GroupId) :
    Group.Drains (s.group g) (s.pump.group g) := by
  have lift : ∀ {x y : Group}, y = { x with window := y.window } → DrainedList x.window y.window →
      Group.Drains x y.finishStop := by
    intro x y hy hd
    have hlen := hd.length_eq
    have hzip : ∀ q ∈ x.window.zip y.window,
        q.2 = q.1 ∨ (q.1.st = .draining ∧ q.2 = { q.1 with st := .retiring }) := by
      intro q hq
      exact (List.forall₂_iff_zip.1 hd).2 hq
    have h1 : y.state = x.state := by rw [hy]
    have h2 : y.notices = x.notices := by rw [hy]
    unfold Group.finishStop
    split
    · rename_i hc
      simp only [Bool.and_eq_true, beq_iff_eq] at hc
      refine ⟨?_, hlen.symm, hzip, .inr ⟨h1 ▸ hc.1, rfl, ?_⟩⟩
      · simp only [Group.notify]
        rw [hy]
      · simp [Group.notify, h2]
    · refine ⟨?_, hlen.symm, hzip, .inl ⟨h1, h2⟩⟩
      conv => lhs; rw [hy]
      rw [h1, h2]
  unfold State.pump
  split
  · rw [finishStops_group]
    exact lift (pumpRounds_windowsDrain hs 8 g).1 (pumpRounds_windowsDrain hs 8 g).2
  · refine ⟨rfl, rfl, ?_, .inl ⟨rfl, rfl⟩⟩
    intro q hq
    exact (List.forall₂_iff_zip.1 (DrainedList.refl _)).2 hq

/-- A group without a DRAINING record that is not STOPPING is left alone. -/
theorem Group.Drains.eq_of_no_draining {x y : Group} (h : Group.Drains x y)
    (hd : ∀ e ∈ x.window, e.st ≠ .draining) (hs : x.state ≠ .stopping) : y = x := by
  obtain ⟨h1, h2, h3, h4⟩ := h
  have hw : y.window = x.window := by
    refine List.ext_getElem h2 fun i hi hj => ?_
    have hm : (x.window[i], y.window[i]) ∈ x.window.zip y.window := by
      rw [List.mem_iff_getElem]
      exact ⟨i, by simp [h2] at hi ⊢; omega, by simp⟩
    rcases h3 _ hm with h | ⟨h, -⟩
    · exact h
    · exact absurd h (hd _ (List.getElem_mem hj))
  rcases h4 with ⟨ha, hb⟩ | ⟨ha, -⟩
  · rw [h1, hw, ha, hb]
  · exact absurd ha hs

/-- After `pump`, a group is STOPPING only while some record of it is not RETIRING. -/
theorem pump_stopping {s : State} (hr : s.isRunning = true) (g : GroupId)
    (h : (s.pump.group g).state = .stopping) : ∃ e ∈ (s.pump.group g).window, e.st ≠ .retiring := by
  unfold State.pump at h ⊢
  rw [if_pos hr] at h ⊢
  rw [finishStops_group] at h ⊢
  rw [finishStop_window]
  unfold Group.finishStop at h
  split at h
  · simp [Group.notify] at h
  · rename_i hc
    by_contra hne
    apply hc
    simp only [Bool.and_eq_true, beq_iff_eq, Group.allRetiring, List.all_eq_true]
    refine ⟨h, fun e he => ?_⟩
    by_contra hx
    exact hne ⟨e, he, by simpa using hx⟩

end Sys2Proof.Machine
end

