-- ==== Sys2Proof/Laws/Tables.lean ====
section
/-! SUPPORT. Laws/Tables.lean: which shared operations leave the token table, the pair units and the start-set
table unchanged. -/

namespace Sys2Proof.Machine

variable (s : State)

/-! ## tokens -/

@[simp] theorem State.tokens_removeWork (g : GroupId) (st : SegStatus) :
    (s.removeWork g st).tokens = s.tokens := rfl

@[simp] theorem State.tokens_converterTake : s.converterTake.tokens = s.tokens := by
  unfold State.converterTake; split
  · split <;> rfl
  · rfl

@[simp] theorem State.tokens_offerRequest (r : Request) : (s.offerRequest r).tokens = s.tokens := by
  unfold State.offerRequest; split
  · rw [State.tokens_converterTake]
  · rfl

@[simp] theorem State.tokens_triggerPoint (g : GroupId) (j : Nat) : (s.triggerPoint g j).tokens = s.tokens := by
  unfold State.triggerPoint
  split
  · rfl
  · split
    · dsimp only; split <;> simp
    · rfl

@[simp] theorem State.tokens_triggers (g : GroupId) : (s.triggers g).tokens = s.tokens :=
  foldl_keeps State.tokens _ (fun a j => State.tokens_triggerPoint a g j) _ _

@[simp] theorem State.tokens_offerHeld : s.offerHeld.tokens = s.tokens := by
  unfold State.offerHeld; split
  · split
    · rw [State.tokens_converterTake]
    · rfl
  · rfl

@[simp] theorem State.tokens_chooseJob : s.chooseJob.tokens = s.tokens := by
  unfold State.chooseJob; split <;> (try split) <;> rfl

@[simp] theorem State.tokens_drainOne (r : EntryRef) : (s.drainOne r).tokens = s.tokens := by
  unfold State.drainOne; repeat' split
  all_goals rfl

@[simp] theorem State.tokens_drain : s.drain.tokens = s.tokens :=
  foldl_keeps State.tokens _ (fun a r => State.tokens_drainOne a r) _ _

@[simp] theorem State.tokens_pumpOnce : s.pumpOnce.tokens = s.tokens := by simp [State.pumpOnce]

@[simp] theorem State.tokens_pumpRounds (n : Nat) : (State.pumpRounds n s).tokens = s.tokens := by
  induction n generalizing s with
  | zero => rfl
  | succ n ih => rw [State.pumpRounds, ih, State.tokens_pumpOnce]

@[simp] theorem State.tokens_pump : s.pump.tokens = s.tokens := by
  unfold State.pump; split
  · rw [foldl_keeps State.tokens _ (fun a g => State.modGroup_tokens a g _), State.tokens_pumpRounds]
  · rfl

@[simp] theorem State.tokens_breakSet (g : GroupId) : (s.breakSet g).tokens = s.tokens := by
  unfold State.breakSet; split
  · rfl
  · rw [foldl_keeps State.tokens]
    intro a m; dsimp only; split <;> rfl

@[simp] theorem State.tokens_faultGroup (g : GroupId) : (s.faultGroup g).tokens = s.tokens := by
  unfold State.faultGroup; dsimp only; split <;> simp

@[simp] theorem State.tokens_tripGroup (g : GroupId) : (s.tripGroup g).tokens = s.tokens := by
  unfold State.tripGroup; split <;> simp

@[simp] theorem State.tokens_abortGroup (g : GroupId) : (s.abortGroup g).tokens = s.tokens := by
  unfold State.abortGroup; dsimp only; split <;> simp

@[simp] theorem State.tokens_stopGroup (g : GroupId) (m : StopMode) : (s.stopGroup g m).tokens = s.tokens := by
  unfold State.stopGroup; split <;> simp

@[simp] theorem State.tokens_afterBoundary (g : GroupId) : (s.afterBoundary g).tokens = s.tokens := by
  unfold State.afterBoundary; split <;> simp

@[simp] theorem State.tokens_stepTick (g : GroupId) : (s.stepTick g).tokens = s.tokens := by
  unfold State.stepTick; repeat' split
  all_goals simp

@[simp] theorem State.tokens_convTick (v : BitVec 12) : (s.convTick v).tokens = s.tokens := by
  unfold State.convTick; dsimp only; split <;> rfl

@[simp] theorem State.tokens_offerResult (r : ConvResult) : (s.offerResult r).tokens = s.tokens := by
  unfold State.offerResult; dsimp only; split <;> rfl

@[simp] theorem State.tokens_conversionEnd : s.conversionEnd.tokens = s.tokens := by
  unfold State.conversionEnd; split
  · rfl
  · dsimp only; split
    · rfl
    · simp

@[simp] theorem State.tokens_endJob (r : EntryRef) : (s.endJob r).tokens = s.tokens := by
  unfold State.endJob; split <;> rfl

@[simp] theorem State.tokens_countWord (w : WordOnBus) : (s.countWord w).tokens = s.tokens := by
  unfold State.countWord; dsimp only; repeat' split
  all_goals simp

@[simp] theorem State.tokens_faultWord (w : WordOnBus) : (s.faultWord w).tokens = s.tokens := by
  simp [State.faultWord]

/-! ## pairs -/

@[simp] theorem State.pairs_removeWork (g : GroupId) (st : SegStatus) :
    (s.removeWork g st).pairs = s.pairs := rfl

@[simp] theorem State.pairs_converterTake : s.converterTake.pairs = s.pairs := by
  unfold State.converterTake; split
  · split <;> rfl
  · rfl

@[simp] theorem State.pairs_offerRequest (r : Request) : (s.offerRequest r).pairs = s.pairs := by
  unfold State.offerRequest; split
  · rw [State.pairs_converterTake]
  · rfl

@[simp] theorem State.pairs_triggerPoint (g : GroupId) (j : Nat) : (s.triggerPoint g j).pairs = s.pairs := by
  unfold State.triggerPoint
  split
  · rfl
  · split
    · dsimp only; split <;> simp
    · rfl

@[simp] theorem State.pairs_triggers (g : GroupId) : (s.triggers g).pairs = s.pairs :=
  foldl_keeps State.pairs _ (fun a j => State.pairs_triggerPoint a g j) _ _

@[simp] theorem State.pairs_offerHeld : s.offerHeld.pairs = s.pairs := by
  unfold State.offerHeld; split
  · split
    · rw [State.pairs_converterTake]
    · rfl
  · rfl

@[simp] theorem State.pairs_chooseJob : s.chooseJob.pairs = s.pairs := by
  unfold State.chooseJob; split <;> (try split) <;> rfl

@[simp] theorem State.pairs_drainOne (r : EntryRef) : (s.drainOne r).pairs = s.pairs := by
  unfold State.drainOne; repeat' split
  all_goals rfl

@[simp] theorem State.pairs_drain : s.drain.pairs = s.pairs :=
  foldl_keeps State.pairs _ (fun a r => State.pairs_drainOne a r) _ _

@[simp] theorem State.pairs_pumpOnce : s.pumpOnce.pairs = s.pairs := by simp [State.pumpOnce]

@[simp] theorem State.pairs_pumpRounds (n : Nat) : (State.pumpRounds n s).pairs = s.pairs := by
  induction n generalizing s with
  | zero => rfl
  | succ n ih => rw [State.pumpRounds, ih, State.pairs_pumpOnce]

@[simp] theorem State.pairs_pump : s.pump.pairs = s.pairs := by
  unfold State.pump; split
  · rw [foldl_keeps State.pairs _ (fun a g => State.modGroup_pairs a g _), State.pairs_pumpRounds]
  · rfl

@[simp] theorem State.pairs_endPost (g : GroupId) (e : Entry) : (s.endPost g e).pairs = s.pairs := by
  unfold State.endPost; split <;> rfl

@[simp] theorem State.pairs_breakSet (g : GroupId) : (s.breakSet g).pairs = s.pairs := by
  unfold State.breakSet; split
  · rfl
  · rw [foldl_keeps State.pairs]
    intro a m; dsimp only; split <;> rfl

@[simp] theorem State.pairs_faultGroup (g : GroupId) : (s.faultGroup g).pairs = s.pairs := by
  unfold State.faultGroup; dsimp only; split <;> simp

@[simp] theorem State.pairs_tripGroup (g : GroupId) : (s.tripGroup g).pairs = s.pairs := by
  unfold State.tripGroup; split <;> simp

@[simp] theorem State.pairs_abortGroup (g : GroupId) : (s.abortGroup g).pairs = s.pairs := by
  unfold State.abortGroup; dsimp only; split <;> simp

@[simp] theorem State.pairs_stopGroup (g : GroupId) (m : StopMode) : (s.stopGroup g m).pairs = s.pairs := by
  unfold State.stopGroup; split <;> simp

@[simp] theorem State.pairs_starve (g : GroupId) (e : Entry) : (s.starve g e).pairs = s.pairs := by
  simp [State.starve]

@[simp] theorem State.pairs_endAndFault (g : GroupId) (e : Entry) : (s.endAndFault g e).pairs = s.pairs := by
  simp [State.endAndFault]

theorem State.pairs_takeover (g : GroupId) (e n : Entry) (t : State) (h : s.takeover g e n = some t) :
    t.pairs = s.pairs := by
  unfold State.takeover at h; dsimp only at h
  split at h
  · simp at h
  · simp only [Option.some.injEq] at h; subst h; rfl

@[simp] theorem State.pairs_takeover_getD (g : GroupId) (e n : Entry) (d : State) (hd : d.pairs = s.pairs) :
    ((s.takeover g e n).getD d).pairs = s.pairs := by
  cases h : s.takeover g e n with
  | none => exact hd
  | some t => exact s.pairs_takeover g e n t h

@[simp] theorem State.pairs_runningBoundary (g : GroupId) (e : Entry) :
    (s.runningBoundary g e).pairs = s.pairs := by
  unfold State.runningBoundary
  repeat' split
  all_goals first
    | rfl
    | (apply State.pairs_takeover_getD; rfl)
    | simp only [State.pairs_endAndFault, State.pairs_starve]

@[simp] theorem State.pairs_stopEnding (g : GroupId) (e : Entry) (st : SegStatus) :
    (s.stopEnding g e st).pairs = s.pairs := by
  unfold State.stopEnding; dsimp only; repeat' split
  all_goals simp

@[simp] theorem State.pairs_stoppingBoundary (g : GroupId) (e : Entry) :
    (s.stoppingBoundary g e).pairs = s.pairs := by
  unfold State.stoppingBoundary; repeat' split
  all_goals simp

@[simp] theorem State.pairs_boundary (g : GroupId) (e : Entry) : (s.boundary g e).pairs = s.pairs := by
  unfold State.boundary; dsimp only; split <;> simp

@[simp] theorem State.pairs_convTick (v : BitVec 12) : (s.convTick v).pairs = s.pairs := by
  unfold State.convTick; dsimp only; split <;> rfl

@[simp] theorem State.pairs_offerResult (r : ConvResult) : (s.offerResult r).pairs = s.pairs := by
  unfold State.offerResult; dsimp only; split <;> rfl

@[simp] theorem State.pairs_conversionEnd : s.conversionEnd.pairs = s.pairs := by
  unfold State.conversionEnd; split
  · rfl
  · dsimp only; split
    · rfl
    · simp

@[simp] theorem State.pairs_endJob (r : EntryRef) : (s.endJob r).pairs = s.pairs := by
  unfold State.endJob; split <;> rfl

@[simp] theorem State.pairs_countWord (w : WordOnBus) : (s.countWord w).pairs = s.pairs := by
  unfold State.countWord; dsimp only; repeat' split
  all_goals simp

@[simp] theorem State.pairs_faultWord (w : WordOnBus) : (s.faultWord w).pairs = s.pairs := by
  simp [State.faultWord]

/-! ## sets -/

@[simp] theorem State.sets_removeWork (g : GroupId) (st : SegStatus) :
    (s.removeWork g st).sets = s.sets := rfl

@[simp] theorem State.sets_converterTake : s.converterTake.sets = s.sets := by
  unfold State.converterTake; split
  · split <;> rfl
  · rfl

@[simp] theorem State.sets_offerRequest (r : Request) : (s.offerRequest r).sets = s.sets := by
  unfold State.offerRequest; split
  · rw [State.sets_converterTake]
  · rfl

@[simp] theorem State.sets_triggerPoint (g : GroupId) (j : Nat) : (s.triggerPoint g j).sets = s.sets := by
  unfold State.triggerPoint
  split
  · rfl
  · split
    · dsimp only; split <;> simp
    · rfl

@[simp] theorem State.sets_triggers (g : GroupId) : (s.triggers g).sets = s.sets :=
  foldl_keeps State.sets _ (fun a j => State.sets_triggerPoint a g j) _ _

@[simp] theorem State.sets_offerHeld : s.offerHeld.sets = s.sets := by
  unfold State.offerHeld; split
  · split
    · rw [State.sets_converterTake]
    · rfl
  · rfl

@[simp] theorem State.sets_chooseJob : s.chooseJob.sets = s.sets := by
  unfold State.chooseJob; split <;> (try split) <;> rfl

@[simp] theorem State.sets_drainOne (r : EntryRef) : (s.drainOne r).sets = s.sets := by
  unfold State.drainOne; repeat' split
  all_goals rfl

@[simp] theorem State.sets_drain : s.drain.sets = s.sets :=
  foldl_keeps State.sets _ (fun a r => State.sets_drainOne a r) _ _

@[simp] theorem State.sets_pumpOnce : s.pumpOnce.sets = s.sets := by simp [State.pumpOnce]

@[simp] theorem State.sets_pumpRounds (n : Nat) : (State.pumpRounds n s).sets = s.sets := by
  induction n generalizing s with
  | zero => rfl
  | succ n ih => rw [State.pumpRounds, ih, State.sets_pumpOnce]

@[simp] theorem State.sets_pump : s.pump.sets = s.sets := by
  unfold State.pump; split
  · rw [foldl_keeps State.sets _ (fun a g => State.modGroup_sets a g _), State.sets_pumpRounds]
  · rfl

@[simp] theorem State.sets_endPost (g : GroupId) (e : Entry) : (s.endPost g e).sets = s.sets := by
  unfold State.endPost; split <;> rfl

@[simp] theorem State.sets_starve (g : GroupId) (e : Entry) : (s.starve g e).sets = s.sets := by
  simp [State.starve]

theorem State.sets_takeover (g : GroupId) (e n : Entry) (t : State) (h : s.takeover g e n = some t) :
    t.sets = s.sets := by
  unfold State.takeover at h; dsimp only at h
  split at h
  · simp at h
  · simp only [Option.some.injEq] at h; subst h; rfl

@[simp] theorem State.sets_takeover_getD (g : GroupId) (e n : Entry) (d : State) (hd : d.sets = s.sets) :
    ((s.takeover g e n).getD d).sets = s.sets := by
  cases h : s.takeover g e n with
  | none => exact hd
  | some t => exact s.sets_takeover g e n t h

@[simp] theorem State.sets_afterBoundary (g : GroupId) : (s.afterBoundary g).sets = s.sets := by
  unfold State.afterBoundary; split <;> simp

@[simp] theorem State.sets_stepTick (g : GroupId) : (s.stepTick g).sets = s.sets := by
  unfold State.stepTick; repeat' split
  all_goals simp

@[simp] theorem State.sets_resume (g : GroupId) : (s.resume g).sets = s.sets := by
  unfold State.resume; split
  · rfl
  · dsimp only; split
    · rfl
    · simp

@[simp] theorem State.sets_fireMember (ps : List (GroupId × Bool)) (g : GroupId) :
    (State.fireMember ps s g).sets = s.sets := by
  unfold State.fireMember; split <;> simp

@[simp] theorem State.sets_convTick (v : BitVec 12) : (s.convTick v).sets = s.sets := by
  unfold State.convTick; dsimp only; split <;> rfl

@[simp] theorem State.sets_offerResult (r : ConvResult) : (s.offerResult r).sets = s.sets := by
  unfold State.offerResult; dsimp only; split <;> rfl

@[simp] theorem State.sets_conversionEnd : s.conversionEnd.sets = s.sets := by
  unfold State.conversionEnd; split
  · rfl
  · dsimp only; split
    · rfl
    · simp

@[simp] theorem State.sets_endJob (r : EntryRef) : (s.endJob r).sets = s.sets := by
  unfold State.endJob; split <;> rfl

@[simp] theorem State.sets_countWord (w : WordOnBus) : (s.countWord w).sets = s.sets := by
  unfold State.countWord; dsimp only; repeat' split
  all_goals simp

@[simp] theorem State.sets_faultWord (w : WordOnBus) : (s.faultWord w).sets = s.sets := by
  simp [State.faultWord]

end Sys2Proof.Machine
end

