-- ==== Sys2Proof/Laws/Ticks.lean ====
section
/-! SUPPORT. Laws/Ticks.lean: which shared operations leave the marks of the group ticks (log 17) unchanged, and
which take a tick. -/

namespace Sys2Proof.Machine

/-- The marks of the group ticks taken on this device clock. -/
def State.ticks (s : State) : Vector Bool 4 := s.marks.group

variable (s : State)

/-! ## Single updates -/

@[simp] theorem State.ticks_setGroup (g : GroupId) (x : Group) : (s.setGroup g x).ticks = s.ticks := rfl
@[simp] theorem State.ticks_modGroup (g : GroupId) (f : Group → Group) : (s.modGroup g f).ticks = s.ticks := rfl
@[simp] theorem State.ticks_modEntry (r : EntryRef) (f : Entry → Entry) :
    (s.modEntry r f).ticks = s.ticks := rfl
@[simp] theorem State.ticks_markTick (g : GroupId) : (s.markTick g).ticks = s.ticks.set g true := rfl
@[simp] theorem State.ticks_tickOutputs (g : GroupId) : (s.tickOutputs g).ticks = s.ticks := rfl
@[simp] theorem State.ticks_enterOutputs (g : GroupId) : (s.enterOutputs g).ticks = s.ticks := rfl
@[simp] theorem State.ticks_removeWork (g : GroupId) (st : SegStatus) :
    (s.removeWork g st).ticks = s.ticks := rfl

/-! ## The capture path -/

@[simp] theorem State.ticks_converterTake : s.converterTake.ticks = s.ticks := by
  unfold State.converterTake; split
  · split <;> rfl
  · rfl

@[simp] theorem State.ticks_offerRequest (r : Request) : (s.offerRequest r).ticks = s.ticks := by
  unfold State.offerRequest; split
  · rw [State.ticks_converterTake]; rfl
  · rfl

@[simp] theorem State.ticks_triggerPoint (g : GroupId) (j : Nat) : (s.triggerPoint g j).ticks = s.ticks := by
  unfold State.triggerPoint
  split
  · rfl
  · split
    · dsimp only; split <;> simp
    · rfl

@[simp] theorem State.ticks_triggers (g : GroupId) : (s.triggers g).ticks = s.ticks :=
  foldl_keeps State.ticks _ (fun a j => State.ticks_triggerPoint a g j) _ _

@[simp] theorem State.ticks_offerHeld : s.offerHeld.ticks = s.ticks := by
  unfold State.offerHeld; split
  · split
    · rw [State.ticks_converterTake]; rfl
    · rfl
  · rfl

@[simp] theorem State.ticks_chooseJob : s.chooseJob.ticks = s.ticks := by
  unfold State.chooseJob; split <;> (try split) <;> rfl

@[simp] theorem State.ticks_drainOne (r : EntryRef) : (s.drainOne r).ticks = s.ticks := by
  unfold State.drainOne; repeat' split
  all_goals rfl

@[simp] theorem State.ticks_drain : s.drain.ticks = s.ticks :=
  foldl_keeps State.ticks _ (fun a r => State.ticks_drainOne a r) _ _

@[simp] theorem State.ticks_pumpOnce : s.pumpOnce.ticks = s.ticks := by simp [State.pumpOnce]

@[simp] theorem State.ticks_pumpRounds (n : Nat) : (State.pumpRounds n s).ticks = s.ticks := by
  induction n generalizing s with
  | zero => rfl
  | succ n ih => rw [State.pumpRounds, ih, State.ticks_pumpOnce]

@[simp] theorem State.ticks_pump : s.pump.ticks = s.ticks := by
  unfold State.pump; split
  · rw [foldl_keeps State.ticks _ (fun a g => State.ticks_modGroup a g _), State.ticks_pumpRounds]
  · rfl

/-! ## The sequencers -/

@[simp] theorem State.ticks_endPost (g : GroupId) (e : Entry) : (s.endPost g e).ticks = s.ticks := by
  unfold State.endPost; split <;> rfl

@[simp] theorem State.ticks_breakSet (g : GroupId) : (s.breakSet g).ticks = s.ticks := by
  unfold State.breakSet; split
  · rfl
  · rw [foldl_keeps State.ticks]
    · rfl
    · intro a m; dsimp only; split <;> rfl

@[simp] theorem State.ticks_faultGroup (g : GroupId) : (s.faultGroup g).ticks = s.ticks := by
  unfold State.faultGroup; dsimp only; split <;> simp

@[simp] theorem State.ticks_tripGroup (g : GroupId) : (s.tripGroup g).ticks = s.ticks := by
  unfold State.tripGroup; split <;> simp

@[simp] theorem State.ticks_abortGroup (g : GroupId) : (s.abortGroup g).ticks = s.ticks := by
  unfold State.abortGroup; dsimp only; split <;> simp

@[simp] theorem State.ticks_stopGroup (g : GroupId) (m : StopMode) : (s.stopGroup g m).ticks = s.ticks := by
  unfold State.stopGroup; split <;> simp

@[simp] theorem State.ticks_starve (g : GroupId) (e : Entry) : (s.starve g e).ticks = s.ticks := by
  simp [State.starve]

@[simp] theorem State.ticks_endAndFault (g : GroupId) (e : Entry) : (s.endAndFault g e).ticks = s.ticks := by
  simp [State.endAndFault]

theorem State.ticks_takeover (g : GroupId) (e n : Entry) (t : State) (h : s.takeover g e n = some t) :
    t.ticks = s.ticks := by
  unfold State.takeover at h; dsimp only at h
  split at h
  · simp at h
  · simp only [Option.some.injEq] at h; subst h; rfl

@[simp] theorem State.ticks_takeover_getD (g : GroupId) (e n : Entry) (d : State) (hd : d.ticks = s.ticks) :
    ((s.takeover g e n).getD d).ticks = s.ticks := by
  cases h : s.takeover g e n with
  | none => exact hd
  | some t => exact s.ticks_takeover g e n t h

@[simp] theorem State.ticks_runningBoundary (g : GroupId) (e : Entry) :
    (s.runningBoundary g e).ticks = s.ticks := by
  unfold State.runningBoundary
  repeat' split
  all_goals first
    | rfl
    | (apply State.ticks_takeover_getD; rfl)
    | simp only [State.ticks_endAndFault, State.ticks_starve]

@[simp] theorem State.ticks_stopEnding (g : GroupId) (e : Entry) (st : SegStatus) :
    (s.stopEnding g e st).ticks = s.ticks := by
  unfold State.stopEnding; dsimp only; repeat' split
  all_goals simp

@[simp] theorem State.ticks_stoppingBoundary (g : GroupId) (e : Entry) :
    (s.stoppingBoundary g e).ticks = s.ticks := by
  unfold State.stoppingBoundary; repeat' split
  all_goals simp

@[simp] theorem State.ticks_boundary (g : GroupId) (e : Entry) : (s.boundary g e).ticks = s.ticks := by
  unfold State.boundary; dsimp only; split <;> simp

@[simp] theorem State.ticks_afterBoundary (g : GroupId) : (s.afterBoundary g).ticks = s.ticks := by
  unfold State.afterBoundary; split <;> simp

/-- A boundary takes the group's tick (R47). -/
theorem State.ticks_periodBoundary (g : GroupId) (e : Entry) (h : (s.group g).active? = some e) :
    (s.periodBoundary g).ticks = s.ticks.set g true := by
  unfold State.periodBoundary; rw [h]; simp

@[simp] theorem State.ticks_stepTick (g : GroupId) : (s.stepTick g).ticks = s.ticks := by
  unfold State.stepTick; repeat' split
  all_goals simp

@[simp] theorem State.ticks_resume (g : GroupId) : (s.resume g).ticks = s.ticks := by
  unfold State.resume; split
  · rfl
  · dsimp only; split
    · rfl
    · simp; rfl

/-! ## The converter and the result writer -/

@[simp] theorem State.ticks_convTick (v : BitVec 12) : (s.convTick v).ticks = s.ticks := by
  unfold State.convTick; dsimp only; split <;> rfl

@[simp] theorem State.ticks_offerResult (r : ConvResult) : (s.offerResult r).ticks = s.ticks := by
  unfold State.offerResult; dsimp only; split <;> rfl

@[simp] theorem State.ticks_conversionEnd : s.conversionEnd.ticks = s.ticks := by
  unfold State.conversionEnd; split
  · rfl
  · dsimp only; split
    · rfl
    · simp

@[simp] theorem State.ticks_endJob (r : EntryRef) : (s.endJob r).ticks = s.ticks := by
  unfold State.endJob; split <;> rfl

@[simp] theorem State.ticks_countWord (w : WordOnBus) : (s.countWord w).ticks = s.ticks := by
  unfold State.countWord; dsimp only; repeat' split
  all_goals simp

@[simp] theorem State.ticks_faultWord (w : WordOnBus) : (s.faultWord w).ticks = s.ticks := by
  simp [State.faultWord]

end Sys2Proof.Machine
end

