-- ==== Sys2Proof/Laws/Tokens.lean ====
section
/-! SUPPORT. Laws/Tokens.lean: every request to the token table keeps its counts in 0..255 (R65 to R68), and which
operations make no request. -/

namespace Sys2Proof.Machine

/-- Every count of a token table lies in 0..255. -/
abbrev TokOk (v : Vector Nat 16) : Prop := ∀ t : TokenId, v.get t ≤ 255

theorem TokOk.runPart {v v' : Vector Nat 16} {p : Part} {b : Bool} (hv : TokOk v)
    (h : Machine.runPart v p = some (v', b)) : TokOk v' := by
  cases p with
  | claim t need =>
    simp only [Machine.runPart] at h
    split at h
    · simp only [Option.some.injEq, Prod.mk.injEq] at h
      intro u; rw [← h.1, tokens_set_get]; split
      · exact Nat.le_trans (Nat.sub_le _ _) (hv t)
      · exact hv u
    · simp at h
  | post t add =>
    simp only [Machine.runPart] at h
    split at h <;> simp only [Option.some.injEq, Prod.mk.injEq] at h <;>
      (intro u; rw [← h.1, tokens_set_get]; split)
    · assumption
    · exact hv u
    · exact Nat.le_refl _
    · exact hv u

theorem TokOk.runParts {ps : List Part} : ∀ {v v' : Vector Nat 16} {bs : List Bool}, TokOk v →
    Machine.runParts v ps = some (v', bs) → TokOk v' := by
  induction ps with
  | nil => intro v v' bs hv h; simp only [Machine.runParts, Option.some.injEq, Prod.mk.injEq] at h; exact h.1 ▸ hv
  | cons p ps ih =>
    intro v v' bs hv h
    simp only [Machine.runParts] at h
    split at h
    · simp at h
    · split at h
      · simp at h
      · simp only [Option.some.injEq, Prod.mk.injEq] at h
        exact h.1 ▸ ih (TokOk.runPart hv ‹_›) ‹_›

theorem TokOk.endPost (s : State) (g e) (hs : TokOk s.tokens) : TokOk (s.endPost g e).tokens := by
  unfold State.endPost; split
  · exact hs
  · exact TokOk.runParts hs ‹_›

theorem TokOk.takeover (s : State) (g e n) (d : State) (hs : TokOk s.tokens) (hd : TokOk d.tokens) :
    TokOk ((s.takeover g e n).getD d).tokens := by
  unfold State.takeover; dsimp only; split
  · exact hd
  · exact TokOk.runParts hs ‹_›

theorem TokOk.starve (s : State) (g e) (hs : TokOk s.tokens) : TokOk (s.starve g e).tokens :=
  TokOk.endPost s g e hs

theorem TokOk.endAndFault (s : State) (g e) (hs : TokOk s.tokens) : TokOk (s.endAndFault g e).tokens := by
  unfold State.endAndFault; rw [State.tokens_faultGroup]; exact TokOk.endPost s g e hs

theorem TokOk.runningBoundary (s : State) (g e) (hs : TokOk s.tokens) : TokOk (s.runningBoundary g e).tokens := by
  unfold State.runningBoundary; repeat' split
  all_goals first
    | with_reducible exact hs
    | with_reducible exact TokOk.starve _ _ _ hs
    | with_reducible exact TokOk.endAndFault _ _ _ hs
    | (with_reducible apply TokOk.takeover); exact hs; exact hs

theorem TokOk.stopEnding (s : State) (g e st) (hs : TokOk s.tokens) : TokOk (s.stopEnding g e st).tokens := by
  have h : TokOk (if (st == .ok) = true then s.endPost g e else s).tokens := by
    split
    · exact TokOk.endPost s g e hs
    · exact hs
  unfold State.stopEnding; dsimp only
  split
  · rw [State.tokens_faultGroup]; exact h
  · exact h

theorem TokOk.boundary (s : State) (g e) (hs : TokOk s.tokens) : TokOk (s.boundary g e).tokens := by
  unfold State.boundary; dsimp only
  split
  · unfold State.stoppingBoundary; repeat' split
    all_goals first
      | exact TokOk.stopEnding _ _ _ _ hs
      | exact hs
  · exact TokOk.runningBoundary _ _ _ hs

theorem TokOk.fireSet (s : State) (g) (hs : TokOk s.tokens) : TokOk (s.fireSet g).tokens := by
  unfold State.fireSet; split
  · exact hs
  · split
    · exact hs
    · rw [foldl_keeps State.tokens]
      · exact TokOk.runParts hs ‹_›
      · intro a m; unfold State.fireMember; split <;> simp

theorem TokOk.resume (s : State) (g) (hs : TokOk s.tokens) : TokOk (s.resume g).tokens := by
  unfold State.resume; split
  · exact hs
  · dsimp only; split
    · exact hs
    · simp; exact TokOk.runParts hs ‹_›

theorem TokOk.periodBoundary (s : State) (g) (hs : TokOk s.tokens) : TokOk (s.periodBoundary g).tokens := by
  unfold State.periodBoundary; split
  · exact hs
  · simp only [State.tokens_pump, State.tokens_afterBoundary]; exact TokOk.boundary _ _ _ hs

theorem State.tokens_readAnswered (s : State) (g f) : (s.readAnswered g f).tokens = s.tokens := by
  unfold State.readAnswered; dsimp only; repeat' split
  all_goals simp

theorem State.tokens_resultAnswered (s : State) (f) (hf : ∀ w s, (f w s : State).tokens = s.tokens) :
    (s.resultAnswered f).tokens = s.tokens := by
  unfold State.resultAnswered; split
  · rfl
  · rw [State.tokens_pump]; split
    · rfl
    · rw [hf]; rfl

theorem TokOk.controllerReset (s : State) : TokOk s.controllerReset.tokens := by
  show TokOk (Vector.replicate 16 0); decide

theorem State.tokens_writePost (s : State) (v) : (s.writePost v).tokens = s.tokens := by
  unfold State.writePost State.postGroup State.postAdmin State.postRelease; dsimp only
  repeat' split
  all_goals rfl

theorem State.tokens_ctrlStart (s : State) : s.ctrlStart.tokens = s.tokens := by
  unfold State.ctrlStart; repeat' split
  all_goals rfl

theorem TokOk.writeReg (s : State) (r v) (hs : TokOk s.tokens) : TokOk (s.writeReg r v).tokens := by
  unfold State.writeReg State.whenOff State.writeCtrl
  repeat' split
  all_goals first
    | exact hs
    | exact TokOk.controllerReset s
    | (rw [State.tokens_writePost]; exact hs)
    | (rw [State.tokens_ctrlStart]; exact hs)

theorem State.tokens_levelChange (s : State) (l) : (s.levelChange l).tokens = s.tokens := by
  unfold State.levelChange; dsimp only; repeat' split
  all_goals first
    | rfl
    | (rw [State.tokens_pump, foldl_keeps State.tokens _ (fun a g => State.tokens_tripGroup a g)]; rfl)

end Sys2Proof.Machine
end

