-- ==== Sys2Proof/Laws/Triggers.lean ====
section
/-! SUPPORT. Laws/Triggers.lean: what the triggers of a tick can do to the groups, said once: counts and capture
flags of the ACTIVE record of the tick's group change, and nothing else of any group. -/

namespace Sys2Proof.Machine

/-- An entry after the triggers of a tick. -/
abbrev Entry.Triggered (e f : Entry) : Prop :=
  f = { e with
      triggered := f.triggered, capturesLost := f.capturesLost
      flags := { e.flags with
        captureLost := f.flags.captureLost, resultTruncated := f.flags.resultTruncated } }
    ∧ (e.st ≠ .active → f = e)

theorem Entry.Triggered.refl (e : Entry) : e.Triggered e := ⟨rfl, fun _ => rfl⟩

theorem Entry.Triggered.st {e f : Entry} (h : e.Triggered f) : f.st = e.st := by rw [h.1]
theorem Entry.Triggered.slot {e f : Entry} (h : e.Triggered f) : f.slot = e.slot := by rw [h.1]
theorem Entry.Triggered.copy {e f : Entry} (h : e.Triggered f) : f.copy = e.copy := by rw [h.1]

theorem Entry.Triggered.trans {a b c : Entry} (h : a.Triggered b) (h' : b.Triggered c) : a.Triggered c := by
  refine ⟨?_, fun hst => ?_⟩
  · conv => lhs; rw [h'.1, h.1]
  · rw [h'.2 (h.st ▸ hst), h.2 hst]

/-- Windows entry by entry. -/
abbrev TriggeredList (l m : List Entry) : Prop := List.Forall₂ Entry.Triggered l m

theorem TriggeredList.refl (l : List Entry) : TriggeredList l l := by
  induction l with
  | nil => exact .nil
  | cons a l ih => exact .cons (.refl a) ih

theorem TriggeredList.trans {k l m : List Entry} (h : TriggeredList k l) (h' : TriggeredList l m) :
    TriggeredList k m := by
  induction h generalizing m with
  | nil => exact h'
  | cons h1 _ ih => cases h' with | cons h2 t => exact .cons (h1.trans h2) (ih t)

theorem TriggeredList.slots {l m : List Entry} (h : TriggeredList l m) :
    m.map Entry.slot = l.map Entry.slot := by
  induction h with
  | nil => rfl
  | cons h1 _ ih => simp [h1.slot, ih]

/-- A change of the entry of one slot. -/
theorem TriggeredList.modSlot {l : List Entry} (hn : (l.map Entry.slot).Nodup) {e : Entry} (he : e ∈ l)
    (hst : e.st = .active) (f : Entry → Entry) (hf : e.Triggered (f e)) :
    TriggeredList l (l.map fun x => if x.slot == e.slot then f x else x) := by
  have hu : ∀ x ∈ l, x.slot = e.slot → x = e := fun x hx h => List.inj_on_of_nodup_map hn hx he h
  clear hn he
  induction l with
  | nil => exact .nil
  | cons a l ih =>
    refine .cons ?_ (ih fun x hx => hu x (List.mem_cons_of_mem _ hx))
    by_cases h : a.slot = e.slot
    · have := hu a (List.mem_cons_self ..) h
      subst this
      simpa using hf
    · simpa [h] using Entry.Triggered.refl a

/-- The window of group `g` under the triggers of a tick; every other group is as it was. -/
abbrev GroupTriggers (g : GroupId) (s t : State) : Prop :=
  (∀ h, h ≠ g → t.group h = s.group h)
    ∧ t.group g = { s.group g with window := (t.group g).window }
    ∧ TriggeredList (s.group g).window (t.group g).window

theorem GroupTriggers.refl (g : GroupId) (s : State) : GroupTriggers g s s :=
  ⟨fun _ _ => rfl, rfl, TriggeredList.refl _⟩

theorem GroupTriggers.trans {g : GroupId} {s t u : State} (h : GroupTriggers g s t)
    (h' : GroupTriggers g t u) : GroupTriggers g s u := by
  refine ⟨fun m hm => (h'.1 m hm).trans (h.1 m hm), ?_, h.2.2.trans h'.2.2⟩
  rw [h'.2.1]
  conv => lhs; rw [h.2.1]

theorem GroupTriggers.distinct {g : GroupId} {s t : State} (h : GroupTriggers g s t)
    (hs : DistinctSlots s) : DistinctSlots t := by
  intro m
  by_cases hm : m = g
  · subst hm; rw [h.2.2.slots]; exact hs m
  · rw [h.1 m hm]; exact hs m

theorem GroupTriggers.of_groups {g : GroupId} {s t : State} (h : t.groups = s.groups) :
    GroupTriggers g s t := by
  have : ∀ m, t.group m = s.group m := fun m => by simp [State.group, h]
  refine ⟨fun m _ => this m, ?_, ?_⟩ <;> rw [this g]
  exact TriggeredList.refl _

theorem modEntry_groupTriggers {s : State} (hs : DistinctSlots s) {g : GroupId} {e : Entry}
    (he : e ∈ (s.group g).window) (hst : e.st = .active) (f : Entry → Entry)
    (hf : ∀ x : Entry, x.st = .active → x.Triggered (f x)) : GroupTriggers g s (s.modEntry (e.ref g) f) := by
  refine ⟨fun m hm => ?_, ?_, ?_⟩
  · exact State.group_modGroup_ne s _ hm
  · simp only [State.modEntry, Entry.ref, State.group_modGroup_same]; rfl
  · simp only [State.modEntry, Entry.ref, State.group_modGroup_same]
    exact TriggeredList.modSlot (hs g) he hst f (hf e hst)

theorem triggerPoint_groupTriggers {s : State} (hs : DistinctSlots s) (g : GroupId) (j : Nat) :
    GroupTriggers g s (s.triggerPoint g j) := by
  unfold State.triggerPoint
  split
  · exact .refl g s
  · rename_i e he
    have hmem : e ∈ (s.group g).window := List.mem_of_find?_eq_some he
    have hst : e.st = .active := by simpa using List.find?_some he
    split
    · dsimp only
      split
      · exact modEntry_groupTriggers hs hmem hst _ fun x hx => ⟨rfl, fun h => absurd hx h⟩
      · have h1 : GroupTriggers g s
            (s.modEntry (e.ref g) fun e => { e with triggered := e.triggered + 1 }) :=
          modEntry_groupTriggers hs hmem hst _ fun x hx => ⟨rfl, fun h => absurd hx h⟩
        refine h1.trans ?_
        unfold State.offerRequest
        split
        · exact .of_groups (by rw [State.groups_converterTake])
        · have hd := h1.distinct hs
          have hm' : ∃ e' ∈ ((s.modEntry (e.ref g) fun e =>
              { e with triggered := e.triggered + 1 }).group g).window, e'.slot = e.slot ∧ e'.st = .active := by
            simp only [State.modEntry, Entry.ref, State.group_modGroup_same, Group.modSlot, List.mem_map]
            exact ⟨_, ⟨e, hmem, rfl⟩, by simp, by simp [hst]⟩
          obtain ⟨e', he', hsl, hst'⟩ := hm'
          have : ∀ p i o, Request.ref ⟨g, e.slot, p, i, o⟩ = e'.ref g := fun _ _ _ => by
            simp [Request.ref, Entry.ref, hsl]
          rw [this]
          exact modEntry_groupTriggers hd he' hst' _ fun x hx => ⟨rfl, fun h => absurd hx h⟩
    · exact .refl g s

/-- What the triggers of a tick can do to the groups. -/
theorem triggers_groupTriggers {s : State} (hs : DistinctSlots s) (g : GroupId) :
    GroupTriggers g s (s.triggers g) := by
  unfold State.triggers
  generalize ([0, 1, 2, 3] : List Nat) = js
  induction js generalizing s with
  | nil => exact .refl g s
  | cons j js ih =>
    have h1 := triggerPoint_groupTriggers hs g j
    exact h1.trans (ih (h1.distinct hs))

theorem TriggeredList.find_active {l m : List Entry} (h : TriggeredList l m) :
    (l.find? fun e => e.st == .active) = none ∧ (m.find? fun e => e.st == .active) = none
      ∨ ∃ e f, (l.find? fun e => e.st == .active) = some e ∧ (m.find? fun e => e.st == .active) = some f
          ∧ e.Triggered f := by
  induction h with
  | nil => exact .inl ⟨rfl, rfl⟩
  | @cons a b l m h1 _ ih =>
    simp only [List.find?_cons, h1.st]
    cases hst : (a.st == EntryState.active)
    · exact ih
    · exact .inr ⟨a, b, rfl, rfl, h1⟩

/-- The ACTIVE record after the triggers of a tick. -/
theorem GroupTriggers.active {g : GroupId} {s t : State} (h : GroupTriggers g s t) {e : Entry}
    (he : (s.group g).active? = some e) : ∃ f, (t.group g).active? = some f ∧ e.Triggered f := by
  unfold Group.active? at he ⊢
  rcases h.2.2.find_active with ⟨h1, -⟩ | ⟨e', f, h1, h2, h3⟩
  · rw [h1] at he; exact absurd he (by simp)
  · rw [h1] at he
    obtain rfl : e' = e := by simpa using he
    exact ⟨f, h2, h3⟩

end Sys2Proof.Machine
end

