-- ==== Sys2Proof/Tests/Slice0.lean ====
section
/-! SUPPORT. Tests/Slice0.lean: small tests on fixed values, taken from the tables and illustrations of spec/, and
for each statement with hypotheses a named state and operands that meet them, clause by clause. -/

namespace Sys2Proof.Machine.Tests

-- Each test waits for the kernel: elaborated together, every one of them would hold a thread.
set_option Elab.async false

/-! ## Building blocks -/

/-- RUNNING, with an administrative ring of 4 slots and a completion ring of 16. -/
def up : State := { ctrl := .running, admCode := 2, cplCode := 4 }

/-- The state a command answers. -/
def after (c : Instr) (s : State) : State :=
  match exec c s with
  | .next t => t
  | .fault _ | .refused _ => s

/-- A segment record from its flag byte, duty count, period, repeat and further fields at byte offsets. -/
def seg (flags duties period repeats : Nat) (rest : List (Nat × Nat) := []) : Slot64 :=
  BitVec.ofNat 512 (flags * 256 ^ 2 + duties * 256 ^ 3 + period * 256 ^ 4 + repeats * 256 ^ 6
    + (rest.map fun f => f.2 * 256 ^ f.1).sum)

/-- A command record from its opcode and fields at byte offsets. -/
def cmd (opcode : Nat) (fields : List (Nat × Nat) := []) : Slot32 :=
  BitVec.ofNat 256 (opcode + (fields.map fun f => f.2 * 256 ^ f.1).sum)

/-- The geometry of a bound ring of 4 slots. -/
def ring (tail fetch retire span : Nat) : Ring := { bound := true, tail, fetch, retire, span }

/-- An outstanding transaction. -/
def txn (r : Requester) (late : Bool := false) : BusTxn := { requester := r, addr := 0, op := .readCommand, late }

/-- A window entry. -/
def entry (slot : Nat) (st : EntryState) (copy : Slot64) (status : Option SegStatus := none) : Entry :=
  { slot, st, copy, status }

/-- `s` with group G0. -/
def withG0 (x : Group) (s : State := up) : State := { s with groups := #v[x, s.group 1, s.group 2, s.group 3] }

/-- A command has been read and its answer is awaited; one of the four admin entries waits. -/
def asked : State :=
  { up with
    admin := { tail := 1, fetch := 1, state := .onBus, queue := [] }
    bus := [txn .adminProcessor] }

/-- A group in a state, its window empty. -/
def still (st : GroupState) : Group := { ring := ring 0 0 0 0, state := st }

/-- A completion entry. -/
def aNotice : CplEntry := .notice 0 { stopped := true } .stopped 0

/-! ## A busy state -/

/-- G0 RUNNING, in EDGE mode, one pair bound; its capture point of counter value 0 has triggered. -/
def g0 : Group :=
  { ring := ring 3 3 0 3, state := .running, counter := 1
    window := [
      { entry 0 .active (seg 0x20 1 4 3 [(8, 2), (0x19, 1), (0x1A, 3), (0x2A, 2), (0x2B, 1)]) with triggered := 1 },
      entry 1 .ready (seg 0 1 4 1), entry 2 .fetching 0] }

/-- G1 ARMED, its first record READY. -/
def g1 : Group := { ring := ring 1 1 0 1, state := .armed, window := [entry 0 .ready (seg 0 0 4 1)] }

/-- G2 TRIPPED, with a record that has not left. -/
def g2 : Group :=
  { ring := ring 1 1 0 1, state := .tripped, window := [entry 0 .retiring (seg 1 0 4 1) (some .aborted)] }

/-- A pair of G0 showing its waveform, P active. -/
def pair0 : PairUnit := { group := some 0, outP := ⟨0, true⟩, raw := true, pins := ⟨.high, .low⟩ }

/-- Every part of the block at work. -/
def busy : State :=
  { ctrl := .running, admCode := 2, cplCode := 4
    groups := #v[g0, g1, g2, {}]
    pairs := #v[pair0, {}, {}, {}, {}, {}]
    lines := #v[{ mask := 4, latch := true, filtered := true }, {}, {}, {}]
    sets := [{ members := 2 }]
    tokens := (Vector.replicate 16 0).set 3 255
    converter := { state := .converting, current := some ⟨0, 0, 0, 2, 1⟩ }
    bus := [txn (.fetcher 0)] }

/-- Every queue and table full. -/
def full : State :=
  { up with
    groups := #v[
      { ring := { ring 5 6 0 6 with size := 8, tail := 6 }, state := .running, queue := [aNotice, aNotice, aNotice, aNotice]
        window := [{ entry 0 .active (seg 0x20 0 4 3 [(0x19, 1), (0x1A, 3), (0x2B, 1)]) with
            triggered := 1, nextPos := 1 }, entry 1 .ready 0, entry 2 .ready 0, entry 3 .ready 0, entry 4 .bad 0
          (some .malformed), entry 5 .fetching 0] },
      still .armed, still .armed, still .armed]
    sets := [{ members := 2 }, { members := 4 }, { members := 8 }, { members := 0 }]
    captureQueue := List.replicate 16 ⟨0, 0, 0, 0, 1⟩
    writer := { queue := List.replicate 4 ⟨0, 0, 0, 0⟩, job := some (.result ⟨0, 0, 0, 0⟩), write := .onBus
                onBus := some ⟨⟨0, 0⟩, 0⟩ }
    converter := { state := .holding, held := some ⟨0, 0, 0, 0⟩ }
    cpl := { unreleased := 16 }
    admin := { tail := 1, fetch := 1, state := .onBus, queue := [aNotice, aNotice, aNotice] }
    bus := [txn (.fetcher 0), txn .resultWriter, txn .adminProcessor] }

/-- The ownership law as one decidable whole, its clauses on the current job by the job's kind. -/
abbrev Owned (s : State) : Prop :=
  ((∀ q ∈ s.captureQueue, s.serves q.ref q.position) ∧ (∀ q ∈ s.converter.current, s.serves q.ref q.position)
    ∧ (∀ r ∈ s.converter.held, s.serves r.ref r.position) ∧ ∀ r ∈ s.writer.queue, s.serves r.ref r.position)
  ∧ (s.writer.fill.Nodup ∧ ∀ ref ∈ s.writer.fill, s.inHand ref = false ∧
      ∃ e ∈ (s.group ref.group).window, e.slot = ref.slot ∧ e.st = .draining ∧ e.owes = true)
  ∧ s.writer.job.all (fun j => match j with
      | .result r => decide (s.serves r.ref r.position)
      | .fill ref target => decide (∃ e ∈ (s.group ref.group).window,
          e.slot = ref.slot ∧ e.st = .draining ∧ target = e.triggered)) = true
  ∧ ∀ w ∈ s.writer.onBus,
      ∃ e ∈ (s.group w.ref.group).window, e.slot = w.ref.slot ∧ (e.st = .retiring ∨ s.hasJob w.ref = true)

theorem ownerLaw_of {s : State} (h : Owned s) : OwnerLaw s where
  requests := h.1.1
  current := h.1.2.1
  held := h.1.2.2.1
  results := h.1.2.2.2
  fill := h.2.1
  resultJob := by intro r hr; simpa [hr] using h.2.2.1
  fillJob := by intro ref target hr; simpa [hr] using h.2.2.1
  onBus := h.2.2.2

theorem witness_steps_keep_laws :
    (Settled busy ∧ TokensInRange busy ∧ QueuesBounded busy ∧ LatchLaw busy ∧ SetLaw busy ∧ RestLaw busy)
      ∧ (WindowLaw busy ∧ OrderLaw busy ∧ ActiveLaw busy ∧ PairLaw busy ∧ CompletionLaw busy ∧ BusLaw busy)
      ∧ (TripLaw busy ∧ RingLaw busy) ∧ StatusLaw busy ∧ CaptureLaw busy ∧ PositionLaw busy ∧ OwnerLaw busy :=
  ⟨by decide +kernel, by decide +kernel, by decide +kernel, by decide +kernel, by decide +kernel, by decide +kernel,
    ownerLaw_of (by decide +kernel)⟩

theorem witness_steps_keep_laws_at_capacity :
    (Settled full ∧ TokensInRange full ∧ QueuesBounded full ∧ LatchLaw full ∧ SetLaw full ∧ RestLaw full)
      ∧ (WindowLaw full ∧ OrderLaw full ∧ ActiveLaw full ∧ PairLaw full ∧ CompletionLaw full ∧ BusLaw full)
      ∧ (TripLaw full ∧ RingLaw full) ∧ StatusLaw full ∧ CaptureLaw full ∧ PositionLaw full ∧ OwnerLaw full :=
  ⟨by decide +kernel, by decide +kernel, by decide +kernel, by decide +kernel, by decide +kernel, by decide +kernel,
    ownerLaw_of (by decide +kernel)⟩

theorem witness_steps_answer :
    (∃ t, step busy = .next t) ∧ ∃ t, step { full with pending := [.groupTick 0] } = .next t :=
  ⟨⟨_, rfl⟩, ⟨_, rfl⟩⟩

/-! ## Steps, outputs and registers -/

/-- Nothing is due: every tick of this device clock has been taken. -/
def quietClock : Marks := { group := Vector.replicate 4 true, conv := true, trip := true }

theorem witness_IdleStepPassesADeviceClock :
    (({ up with marks := quietClock } : State).pending = []
      ∧ ({ up with marks := quietClock } : State).nextOwn = none)
    ∧ ({ marks := quietClock } : State).nextOwn = none
    ∧ ({ ctrl := .halted, tripPresc := 7 } : State).nextOwn = none := by decide +kernel

/-- The next device clock has its ticks, its sample and its requests again (log 17). -/
theorem test_device_clock_clears_the_marks :
    ∃ t, step { up with marks := quietClock, sets := [{ members := 2, asked := true }] } = .next t
      ∧ t.marks = {} ∧ t.sets = [{ members := 2 }] :=
  ⟨_, rfl, by decide +kernel, by decide +kernel⟩

/-- `busy` with G0 in another state, without pin work outstanding. -/
def busyIn (st : GroupState) (window : List Entry) (pins : Levels) : State :=
  { busy with
    groups := #v[{ g0 with state := st, window := window }, g1, g2, {}]
    pairs := #v[{ group := some 0, raw := pins == ⟨.high, .low⟩, outP := ⟨0, pins == ⟨.high, .low⟩⟩, pins := pins },
      {}, {}, {}, {}, {}] }

theorem witness_PairsShowTheirSelection :
    (Settled busy ∧ (busy.pair 5).group = none)
    ∧ (Settled { busy with ctrl := .halted, pairs := #v[{ pair0 with pins := ⟨.low, .low⟩ }, {}, {}, {}, {}, {}] })
    ∧ (Settled { busy with pairs := #v[pair0, { group := some 2, safe := ⟨.low, .high⟩, pins := ⟨.low, .high⟩ },
          {}, {}, {}, {}] } ∧ busy.tripCondition 2 = true)
    ∧ ((busy.pair 0).group = some 0 ∧ busy.ctrl ≠ .halted ∧ busy.tripCondition 0 = false ∧ ActiveLaw busy
        ∧ (busy.group 0).state = .running)
    ∧ (Settled (busyIn .stopping [entry 0 .active 0] ⟨.high, .low⟩)
        ∧ Settled (busyIn .stopping [entry 0 .draining 0] ⟨.low, .low⟩)
        ∧ Settled (busyIn .starved [entry 0 .draining 0] ⟨.low, .low⟩)) := by decide +kernel

/-- Table 3.4: the levels of a pair in each mode, its raw compare active. -/
theorem test_waveform_of_table_3_4 :
    ∀ q ∈ [(PairMode.comp, Levels.mk .high .low), (.compInv, ⟨.low, .high⟩), (.same, ⟨.high, .high⟩), (.pOnly, ⟨.high, .low⟩)],
      (({ busy with pairs := #v[{ pair0 with mode := q.1 }, {}, {}, {}, {}, {}] } : State).settle.pair 0).pins = q.2 := by
  decide +kernel

theorem witness_ComplementaryOutputsNeverBothActive :
    (Settled busy ∧ PairLaw busy ∧ (busy.pair 0).mode = .comp)
    ∧ ∃ s : State, Settled s ∧ PairLaw s ∧ (s.pair 0).mode = .compInv ∧ (s.pair 0).pins = ⟨.low, .high⟩ :=
  ⟨by decide +kernel,
    { busy with pairs := #v[{ pair0 with mode := .compInv, idle := ⟨.high, .high⟩, safe := ⟨.high, .high⟩,
                                          pins := ⟨.low, .high⟩ }, {}, {}, {}, {}, {}] },
    by decide +kernel⟩

theorem witness_InterruptLineFollowsEventsAndMask :
    Settled { busy with evt := 0b100001, evtMask := 0b100000, irq := true } ∧ busy.rstn = .high
      ∧ (after (.evtmaskWrite 0x1E) { busy with evt := 0b100001, evtMask := 0b100000, irq := true }).irq = false := by
  decide +kernel

/-- OFF, with a geometry. -/
def offWith (adm cpl : Addr) (a c : BitVec 4) : State := { admBase := adm, cplBase := cpl, admCode := a, cplCode := c }

theorem witness_StartChecksTheRingGeometry :
    (Settled up ∧ up.ctrl ≠ .off ∧ up.rstn = .high)
    ∧ (Settled (offWith 32 0 2 4) ∧ (offWith 32 0 2 4).rstn = .high) ∧ (after .ctrlStart (offWith 32 0 2 4)).ctrl = .running
    ∧ Settled (offWith 64 32 8 12) ∧ (after .ctrlStart (offWith 64 32 8 12)).ctrl = .running
    ∧ (after .ctrlStart (offWith 32 0 1 4)).stat.cfgErr = true
    ∧ (after .ctrlStart (offWith 32 0 9 4)).stat.cfgErr = true
    ∧ (after .ctrlStart (offWith 32 0 2 3)).stat.cfgErr = true
    ∧ (after .ctrlStart (offWith 32 0 2 13)).stat.cfgErr = true
    ∧ (after .ctrlStart (offWith 16 0 2 4)).stat.cfgErr = true
    ∧ (after .ctrlStart (offWith 0 33 2 4)).stat.cfgErr = true := by decide +kernel

/-- A G0 ring of 4 slots, two of them fetched. -/
def posted (retire : Nat) : State := withG0 { ring := { ring 3 2 0 2 with fetch := 3, retire := retire }, state := .stopped }

theorem witness_PostWritesAreTakenOrRecorded :
    (Settled (posted 1) ∧ Settled (posted 2) ∧ (posted 1).rstn = .high)
    -- the tail at the retire index, one behind the fetched slots, and the first slot past them
    ∧ ((after (.postGroupTail 0 1) (posted 1)).group 0).ring.tail = 1
    ∧ (after (.postGroupTail 0 2) (posted 1)).stat.postIndex = 2
    ∧ ((after (.postGroupTail 0 3) (posted 1)).group 0).ring.tail = 3
    ∧ (after (.postGroupTail 0 4) (posted 1)).evt = evtPosterr
    ∧ (after (.postGroupTail 3 0) (posted 1)).stat.postRing = 3
    -- the administrative ring's last index, and the first beyond it
    ∧ (after (.postAdminTail 3) up).admin.tail = 3 ∧ (after (.postAdminTail 4) up).stat.postIndex = 4
    ∧ (after (.postAdminTail 0) {}).stat.postRing = 4 := by decide +kernel

/-- The completion ring of section 8.9 before its last two posts. -/
def ring89 : State :=
  { up with cpl := { write := 2, lap := false, release := 6, unreleased := 12, lastServed := .group 0 } }

theorem witness_PostCompletionRelease :
    (Settled ring89 ∧ ring89.rstn = .high)
    ∧ (after (.postCompletionRelease 3) ring89).cpl.release = 6
    ∧ (after (.postCompletionRelease 3) ring89).stat.postRing = 5
    ∧ (after (.postCompletionRelease 3) ring89).stat.postIndex = 3
    ∧ (after (.postCompletionRelease 2) ring89).cpl.release = 2
    ∧ (after (.postCompletionRelease 2) ring89).cpl.unreleased = 0
    ∧ (after (.postCompletionRelease 6) ring89).cpl.unreleased = 12
    ∧ (after (.postCompletionRelease 16) ring89).stat.postIndex = 16 := by decide +kernel

/-- Section 10.4: the bases as the host programs them. -/
theorem test_bases_of_section_10_4 :
    (after (.admbaseHiWrite 2) { holding := 0x400 }).admBase = 0x0000000200000400
    ∧ (after (.cplbaseLoWrite 0x10000) { holding := 0x400 }).holding = 0x10000
    ∧ (after (.cplbaseHiWrite 2) { holding := 0x10000 }).cplBase = 0x0000000200010000
    ∧ (after (.admbaseHiRead .word) { up with admBase := 0x0000000200000400, holding := 0x10000 }).holding = 0x400
    ∧ (after (.admbaseHiRead .word) { up with admBase := 0x0000000200000400 }).readData = [2, 0, 0, 0]
    ∧ (after (.cplbaseHiRead (.byte 0)) { cplBase := 0x0000000200010000 }).readData = [2] := by decide +kernel

theorem witness_BaseRegistersAndGeometry :
    (Settled State.reset ∧ State.reset.rstn = .high ∧ State.reset.ctrl = .off) ∧ (Settled up ∧ up.ctrl ≠ .off)
    ∧ (after (.registerWrite .ringcfg false 0xFFFF) State.reset).cplCode = 15
    ∧ (after (.admbaseLoWrite 7) up).holding = 0 := by decide +kernel

theorem witness_GeometryIsLockedOutsideOff :
    up.ctrl ≠ .off ∧ up.rstn = .high ∧ (∀ pin, Instr.ctrlReset ≠ .powerOnReset pin)
      ∧ ∃ t, exec .ctrlReset up = .next t :=
  ⟨by decide, rfl, nofun, _, rfl⟩

/-- While RSTn is asserted. -/
def held : State := { rstn := .low }

theorem witness_ResetsLeaveTheResetValues :
    (busy.rstn = .high ∧ HeldLaw busy) ∧ HeldLaw held ∧ held.rstn = .low
      ∧ ∀ pin, Instr.tripSample (Vector.replicate 4 .low) ≠ .powerOnReset pin :=
  ⟨⟨rfl, nofun⟩,
    fun _ =>
      { controller := rfl, stat := rfl, events := ⟨rfl, rfl, rfl⟩, holding := rfl, groups := by decide +kernel
        pairs := by decide +kernel, tokens := by decide +kernel, sets := rfl, captureQueue := rfl
        converter := rfl, writer := rfl, admin := rfl, completion := rfl, arbiter := rfl
        bases := ⟨rfl, rfl, rfl, rfl⟩, lines := by decide +kernel, tripPresc := rfl },
    rfl, nofun⟩

/-- R52, R115, R179: nothing moves while the pin is asserted; its release lets the registers act. -/
theorem test_reset_pin_holds_the_block :
    after (.evtmaskWrite 1) held = held ∧ after .ctrlReset held = held
    ∧ after (.tripSample (Vector.replicate 4 .high)) held = held
    ∧ (after (.evtmaskWrite 1) (after (.powerOnReset .high) held)).evtMask = 1
    ∧ (after (.powerOnReset .low) busy).rstn = .low := by decide +kernel

theorem witness_OtherRegisterWrites :
    (Settled { busy with evt := 0b101010 } ∧ busy.rstn = .high)
    ∧ (after (.evtWrite 0xFFFFFF08) { busy with evt := 0b101011 }).evt = 0b100011
    ∧ (6 ≤ ((0x00060003 : Word32).extractLsb' 16 3).toNat) ∧ 6 ≤ ((0x00070003 : Word32).extractLsb' 16 3).toNat
    ∧ (after (.registerWrite .post false 0x00070003) up).stat.postRing = 7
    ∧ (after (.registerWrite .ctrl false 3) busy).ctrl = .off := by decide +kernel

/-! ## The bus master port and fetching -/

/-- Every requester asks; G2 was granted last. -/
def everyoneAsks : State :=
  { up with
    groups := Vector.replicate 4 { ring := ring 3 0 0 0, state := .armed, queue := [aNotice] }
    admin := { tail := 1, state := .asking }
    writer := { job := some (.result ⟨0, 0, 0, 0⟩), write := .asking }
    cpl := { state := .asking }
    lastFetcher := 2 }

theorem witness_ArbiterTakesRequestersInItsOrder :
    Settled everyoneAsks ∧ everyoneAsks.granted .completionWriter = true
    ∧ { everyoneAsks with cpl := {} }.granted .resultWriter = true
    ∧ { everyoneAsks with cpl := {}, writer := {} }.granted .adminProcessor = true
    ∧ { everyoneAsks with cpl := {}, writer := {}, admin := {} }.granted (.fetcher 3) = true
    ∧ { everyoneAsks with cpl := {}, writer := {}, admin := {}, lastFetcher := 3 }.granted (.fetcher 0) = true
    ∧ everyoneAsks.fetcherAsks 0 = true := by decide +kernel

theorem witness_LateAndHaltedAnswersChangeNothing :
    (Instr.unknown true (cmd 0)).wellFormed = true
    ∧ answersTo (.unknown true (cmd 0)) = some (true, .adminProcessor)
    ∧ answersTo (.groupReadError false 2) = some (false, .fetcher 2) ∧ ({ up with ctrl := .halted } : State).ctrl = .halted
    ∧ (after (.resultWriteOk true) { up with bus := [txn .resultWriter true, txn .resultWriter] }).bus
        = [txn .resultWriter] := by decide +kernel

/-- `busy` after a fatal bus error. -/
def stopped : State :=
  { busy with ctrl := .halted, pairs := #v[{ pair0 with pins := ⟨.low, .low⟩ }, {}, {}, {}, {}, {}], tripPresc := 1 }

theorem witness_HaltedStateStays :
    (Settled stopped ∧ stopped.ctrl = .halted ∧ (Instr.groupTick 0).wellFormed = true ∧ isReset (.groupTick 0) = false)
    ∧ (stopped.pending.head? = none ∧ stopped.nextOwn = none)
    ∧ (after (.groupTick 0) stopped = stopped ∧ after .ctrlStart stopped = stopped
      ∧ after (.groupReadError false 0) stopped = { stopped with bus := [] }
      ∧ (after (.postGroupTail 0 1) stopped).evt = evtPosterr) := by decide +kernel

/-- G0's fetcher is granted: five entries in the window, the fetch index in the last slot. -/
def fetching : State :=
  withG0 { ring := { bound := true, base := 0x1000, size := 8, tail := 1, fetch := 7, retire := 2, span := 5 }, state := .starved
           window := [2, 3, 4, 5, 6].map fun i => entry i .draining 0 }

theorem witness_FetchIssueOpensAFetchingEntry :
    Settled fetching ∧ fetching.granted (.fetcher 0) = true
    ∧ ((after (.groupFetchIssue 0) fetching).group 0).ring.fetch = 0
    ∧ ((after (.groupFetchIssue 0) fetching).group 0).window.length = 6
    ∧ ((after (.groupFetchIssue 0) fetching).bus.map BusTxn.addr) = [0x11C0] := by decide +kernel

/-- G0 awaits the answer to its read; `first` stands in front of the FETCHING entry. -/
def reading (st : GroupState) (first : List Entry) : State :=
  { withG0 { ring := ring 3 (first.length + 1) 0 (first.length + 1), state := st
             window := first ++ [entry first.length .fetching 0] } with
    sets := if st = .armed then [{ members := 1 }] else []
    bus := [txn (.fetcher 0)] }

/-- A record of a group without pairs. -/
def plain : Slot64 := seg 0 0 2 1

theorem witness_ReadAnswerSettlesTheFetchingEntry :
    (Settled (reading .armed []) ∧ Awaits (reading .armed []) (.fetcher 0)
      ∧ (∃ e ∈ ((reading .armed []).group 0).window, e.st = .fetching)
      ∧ Seg.valid plain .edge 0 = true
      ∧ ((after (.groupReadOk false 0 plain) (reading .armed [])).group 0).state = .armed)
    ∧ (Settled (reading .running [entry 0 .active plain])
      -- MALFORMED, and FETCH_ERROR, behind an ACTIVE record
      ∧ ((after (.groupReadOk false 0 (seg 0 0 1 1)) (reading .running [entry 0 .active plain])).group 0).nextBad = true
      ∧ ((after (.groupReadError false 0) (reading .running [entry 0 .active plain])).group 0).state = .running)
    ∧ (let s := { withG0 (still .stopping) with bus := [txn (.fetcher 0)] };
      Settled s ∧ Awaits s (.fetcher 0) ∧ (∀ e ∈ (s.group 0).window, e.st ≠ .fetching)) := by decide +kernel

/-- G0 STARVED, its DRAINING record converting and owed a word, awaits the answer to its read. -/
def readingAtWork : State :=
  { reading .starved [{ entry 0 .draining (seg 0x20 0 4 9 [(0x19, 1), (0x1A, 8), (0x20, 0x42000), (0x2B, 2)]) (some .ok)
      with triggered := 4, nextPos := 3 }] with
    converter := { state := .converting, current := some ⟨0, 0, 3, 7, 2⟩, step := 3 } }

theorem witness_BadRecordFaultsAnArmedOrStarvedGroup :
    ((Settled (reading .armed []) ∧ RingLaw (reading .armed []) ∧ RestLaw (reading .armed []) ∧ SetLaw (reading .armed []))
      ∧ CaptureLaw (reading .armed []) ∧ OwnerLaw (reading .armed []) ∧ Awaits (reading .armed []) (.fetcher 0)
      ∧ Seg.valid (seg 0 1 2 1) .edge 0 = false
      ∧ ((after (.groupReadOk false 0 (seg 0 1 2 1)) (reading .armed [])).group 0).state = .faulted
      ∧ (after (.groupReadOk false 0 (seg 0 1 2 1)) (reading .armed [])).sets = [])
    ∧ (Settled readingAtWork ∧ RingLaw readingAtWork ∧ RestLaw readingAtWork ∧ SetLaw readingAtWork)
      ∧ CaptureLaw readingAtWork ∧ OwnerLaw readingAtWork ∧ Awaits readingAtWork (.fetcher 0)
      ∧ (let t := after (.groupReadError false 0) readingAtWork;
        (t.group 0).state = .faulted ∧ t.converter.state = .idle
          ∧ ((t.group 0).window.map fun e => e.flags.resultIncomplete) = [true, false]) :=
  ⟨⟨by decide +kernel, by decide +kernel, ownerLaw_of (by decide +kernel), by decide +kernel⟩, by decide +kernel,
    by decide +kernel, ownerLaw_of (by decide +kernel), by decide +kernel⟩

/-- Section 11.7: the further fields of the illustrated record. -/
def fields117 : List (Nat × Nat) :=
  [(0, 0x0231), (0x08, 0x78), (0x0A, 0x17C), (0x19, 1), (0x1A, 0x14), (0x20, 0x100080000), (0x28, 0xFA), (0x2A, 7),
    (0x2B, 0x14)]

/-- Its slot. -/
abbrev record117 : Slot64 := seg 0x21 2 0x1F4 0x14 fields117

theorem test_record_of_section_11_7_is_valid :
    Seg.valid record117 .centre 2 = true ∧ Seg.valid record117 .edge 2 = false
    ∧ Seg.valid record117 .centre 3 = false
    ∧ Seg.tag record117 = 0x0231 ∧ Seg.duty record117 1 = 380 ∧ Seg.pointOversample record117 0 = 4
    ∧ Seg.resultAddr record117 = 0x0000000100080000 := by decide +kernel

theorem test_validation_checks :
    Seg.valid (seg 0x40 0 2 1) .edge 0 = false ∧ Seg.valid (seg 0 0 1 1) .edge 0 = false
    ∧ Seg.valid (seg 0 0 2 0) .edge 0 = false ∧ Seg.valid (seg 4 0 2 0) .edge 0 = true
    ∧ Seg.valid (seg 0 1 2 1 [(8, 3)]) .edge 1 = false ∧ Seg.valid (seg 0 1 2 1 [(8, 2)]) .edge 1 = true
    ∧ Seg.valid (seg 8 0 2 1 [(0x15, 16)]) .edge 0 = false ∧ Seg.valid (seg 0x10 0 2 1 [(0x17, 1), (0x18, 2)]) .edge 0 = false
    ∧ Seg.valid (seg 0x20 0 2 1 [(0x19, 1), (0x2B, 1)]) .edge 0 = false
    ∧ Seg.valid (seg 0x20 0 2 1 [(0x19, 1), (0x1A, 2), (0x20, 2 ^ 64 - 4), (0x2B, 1)]) .edge 0 = true
    ∧ Seg.valid (seg 0x20 0 2 1 [(0x19, 1), (0x1A, 3), (0x20, 2 ^ 64 - 4), (0x2B, 1)]) .edge 0 = false
    ∧ Seg.valid (seg 0x20 0 2 1 [(0x19, 1), (0x1A, 1), (0x28, 2), (0x2B, 1)]) .edge 0 = false := by decide +kernel

/-! ## Group ticks -/

/-- G0 RUNNING on one record, in a mode and at a counter value. -/
def ticking (mode : CountMode) (slope : Slope) (counter : Nat) (copy : Slot64) : State :=
  withG0 { ring := ring 1 1 0 1, state := .running, mode, slope, counter, window := [entry 0 .active copy] }

/-- A tick of G0 inside a period. -/
abbrev insidePeriod (s : State) : Prop :=
  Settled s ∧ s.tickDue 0 = true ∧ (s.group 0).atBoundary = false ∧ (s.group 0).atResume = false

/-- Counter and slope of G0 after its tick. -/
def ticked (s : State) : Nat × Slope :=
  (((after (.groupTick 0) s).group 0).counter, ((after (.groupTick 0) s).group 0).slope)

theorem witness_GroupTickStepsTheCounter :
    (insidePeriod (withG0 (still .stopped)) ∧ ((withG0 (still .stopped)).group 0).producing = false)
    ∧ (insidePeriod (ticking .edge .up 2 (seg 0 0 4 1)) ∧ ticked (ticking .edge .up 2 (seg 0 0 4 1)) = (3, .up))
    ∧ (insidePeriod (ticking .centre .up 2 (seg 0 0 4 1)) ∧ ticked (ticking .centre .up 2 (seg 0 0 4 1)) = (3, .up))
    ∧ (insidePeriod (ticking .centre .up 3 (seg 0 0 4 1)) ∧ ticked (ticking .centre .up 3 (seg 0 0 4 1)) = (3, .down))
    ∧ (insidePeriod (ticking .centre .down 1 (seg 0 0 4 1))
      ∧ ticked (ticking .centre .down 1 (seg 0 0 4 1)) = (0, .down))
    -- a tick on which a capture point triggers
    ∧ (insidePeriod (ticking .edge .up 1 (seg 0x20 0 4 1 [(0x19, 1), (0x1A, 1), (0x28, 2), (0x2B, 1)]))
      ∧ (after (.groupTick 0) (ticking .edge .up 1 (seg 0x20 0 4 1 [(0x19, 1), (0x1A, 1), (0x28, 2), (0x2B, 1)]))).converter.state
        = .converting) := by decide +kernel

/-- R47: a group has one tick on a device clock, whichever of the three forms it takes. -/
theorem test_tick_is_taken_once :
    ∀ cs ∈ [(Instr.groupTick 0, ticking .edge .up 2 (seg 0 0 4 1)), (.groupTick 0, withG0 (still .stopped)),
        (.periodBoundary 0, ticking .edge .up 3 (seg 0 0 4 1))],
      cs.2.tickDue 0 = true ∧ (after cs.1 cs.2).tickDue 0 = false ∧ (after cs.1 cs.2).tickDue 1 = true := by
  decide +kernel

/-- Section 3.6: pair 2 of G0, COMP with dead time 2, on a record of period 8 and duty 3. -/
def section36 (counter : Nat) (raw : Bool) (outP outN : OutState) (pins : Levels) : State :=
  { ticking .edge .up counter (seg 0 1 8 2 [(8, 3)]) with
    pairs := #v[{}, {}, { group := some 0, dead := 2, raw, outP, outN, pins }, {}, {}, {}] }

theorem witness_GroupTickFormsTheOutputs :
    let tick4 := section36 2 true ⟨0, true⟩ ⟨0, false⟩ ⟨.high, .low⟩
    let tick5 := section36 3 false ⟨0, false⟩ ⟨2, false⟩ ⟨.low, .low⟩
    (insidePeriod tick4 ∧ (tick4.group 0).producing = true ∧ tick4.tripCondition 0 = false
      ∧ ((after (.groupTick 0) tick4).pair 2).outN = ⟨2, false⟩
      ∧ ((after (.groupTick 0) tick4).pair 2).pins = ⟨.low, .low⟩)
    ∧ (insidePeriod tick5 ∧ (tick5.group 0).producing = true
      ∧ ((after (.groupTick 0) tick5).pair 2).outN = ⟨1, false⟩) := by decide +kernel

theorem witness_DeadTimeExpiryActivatesTheOutput :
    let tick3 := section36 2 true ⟨0, false⟩ ⟨0, false⟩ ⟨.low, .low⟩
    let tick6 := section36 5 false ⟨0, false⟩ ⟨0, false⟩ ⟨.low, .low⟩
    (Settled tick3 ∧ tick3.selection (tick3.pair 2) = .waveform ∧ (tick3.pair 2).mode = .comp
      ∧ (tick3.pair 2).raw = true ∧ ((after (.deadTimeExpiry 2 .p) tick3).pair 2).pins = ⟨.high, .low⟩)
    ∧ (Settled tick6 ∧ tick6.selection (tick6.pair 2) = .waveform
      ∧ ((after (.deadTimeExpiry 2 .n) tick6).pair 2).pins = ⟨.low, .high⟩) := by decide +kernel

/-- A record with one capture point of counter value 0 and capacity 3, some of its periods run. -/
def capturing (periods : Nat) : Entry :=
  { entry 0 .active (seg 0x20 0 4 9 [(0x19, 1), (0x1A, 3), (0x2B, 1)]) with periodsRun := periods }

/-- G0 at counter 0 of that record, with requests waiting. -/
def triggering (periods waiting : Nat) (conv : Converter) : State :=
  { withG0 { ring := ring 1 1 0 1, state := .running, window := [capturing periods] } with
    captureQueue := List.replicate waiting ⟨1, 0, 0, 0, 1⟩, converter := conv }

theorem witness_TriggerIsQueuedLostOrTruncated :
    ((triggering 3 0 {}).group 0).active? = some (capturing 3)
    ∧ ((triggering 3 0 {}).group 0).pointTriggers (capturing 3).copy 0 = true
    ∧ (((triggering 3 0 {}).triggerPoint 0 0).entry? ⟨0, 0⟩).map (fun e => (e.flags.resultTruncated, e.triggered))
      = some (true, 0)
    ∧ (((triggering 2 16 {}).triggerPoint 0 0).entry? ⟨0, 0⟩).map (fun e => (e.capturesLost, e.triggered))
      = some (1, 1)
    ∧ ((triggering 2 15 { state := .converting }).triggerPoint 0 0).captureQueue.length = 16
    ∧ ((triggering 2 0 {}).triggerPoint 0 0).converter.current = some ⟨0, 0, 2, 0, 1⟩ := by decide +kernel

/-! ## Boundaries, starvation and start sets -/

theorem boundaryOf_of {s : State} {g : GroupId} {e : Entry}
    (laws : Settled s ∧ RingLaw s := by decide +kernel) (active : ActiveLaw s ∧ CaptureLaw s := by decide +kernel)
    (owned : Owned s := by decide +kernel)
    (tick : s.tickDue g = true ∧ (s.group g).atBoundary = true ∧ (s.group g).active? = some e := by decide +kernel) :
    BoundaryOf s g e :=
  ⟨laws.1, laws.2, active.1, active.2, ownerLaw_of owned, tick.1, tick.2.1, tick.2.2⟩

/-- A record of period 2 without duties. -/
def rec (flags repeats : Nat) (rest : List (Nat × Nat) := []) : Slot64 := seg flags 0 2 repeats rest

/-- A record that waits on token 5, need 2. -/
def waits : Slot64 := rec 8 2 [(0x14, 5), (0x15, 2)]

/-- A record that posts 1 to token 5 at its end. -/
def posts (hold : Bool) : Slot64 := rec (if hold then 0x14 else 0x10) 3 [(0x16, 5), (0x17, 1), (0x18, 1)]

/-- The ACTIVE record of G0, two of its periods run. -/
def running (copy : Slot64) (periods : Nat) : Entry := { entry 0 .active copy with periodsRun := periods }

/-- G0 at the end of a period, with records behind the ACTIVE one; token 5 holds `count`. -/
def atEnd (st : GroupState) (stop : PendingStop) (e : Entry) (behind : List Entry) (count : Nat) : State :=
  { withG0 { ring := ring 3 (1 + behind.length) 0 (1 + behind.length), state := st, pendingStop := stop
             counter := if st = .starved then 0 else 1,              window := e :: behind } with
    tokens := (Vector.replicate 16 0).set 5 count }

/-- Sections 2.4 and 2.11: the record goes on; a HOLD record holds; a refused claim extends. -/
theorem witness_BoundaryGoesOnOrExtends :
    BoundaryOf (atEnd .running .noStop (running (posts false) 1) [] 0) 0 (running (posts false) 1)
    ∧ BoundaryOf (atEnd .running .noStop (running (posts true) 9) [] 0) 0 (running (posts true) 9)
    ∧ BoundaryOf (atEnd .running .noStop (running (posts true) 9) [entry 1 .ready waits] 0) 0 (running (posts true) 9)
    ∧ BoundaryOf (atEnd .running .noStop (running (posts false) 2) [entry 1 .ready waits] 0) 0 (running (posts false) 2)
    ∧ runParts (atEnd .running .noStop (running (posts false) 2) [entry 1 .ready waits] 0).tokens
        (endParts (posts false) ++ claimParts waits ++ startParts waits) = none :=
  ⟨boundaryOf_of, boundaryOf_of, boundaryOf_of,
    boundaryOf_of, by decide +kernel⟩

/-- Section 2.11: the extension, and the takeover once token 5 holds 1. -/
theorem test_section_2_11 :
    (let t := after (.periodBoundary 0) (atEnd .running .noStop (running (posts false) 2) [entry 1 .ready waits] 0);
      ((t.group 0).active?.map fun e => (e.slot, e.periodsRun, e.extensionPeriods, e.flags.extended))
          = some (0, 3, 1, true)
        ∧ t.token 5 = 0)
    ∧ (let t := after (.periodBoundary 0) (atEnd .running .noStop (running (posts false) 3) [entry 1 .ready waits] 1);
      ((t.group 0).active?.map fun e => (e.slot, e.periodsRun)) = some (1, 0)
        ∧ t.token 5 = 0
        ∧ ((t.group 0).window.head?.map fun e => (e.st, e.status, e.periodsRun)) = some (.retiring, some .ok, 4)) := by
  decide +kernel

/-- R84: a capture point of counter value 0 triggers at the boundary. -/
theorem test_boundary_triggers :
    let s := withG0 { ring := ring 1 1 0 1, state := .running, counter := 3, window := [{ capturing 0 with triggered := 1 }] };
    (after (.periodBoundary 0) s).converter.current = some ⟨0, 0, 1, 0, 1⟩
      ∧ (((after (.periodBoundary 0) s).group 0).active?.map fun e => (e.triggered, e.periodsRun)) = some (2, 1) := by
  decide +kernel

theorem witness_BoundaryTakesOver :
    (BoundaryOf (atEnd .running .noStop (running (posts false) 2) [entry 1 .ready waits] 1) 0 (running (posts false) 2)
      ∧ ((atEnd .running .noStop (running (posts false) 2) [entry 1 .ready waits] 1).group 0).next?
          = some (entry 1 .ready waits)
      ∧ (runParts (atEnd .running .noStop (running (posts false) 2) [entry 1 .ready waits] 1).tokens
        (endParts (posts false) ++ claimParts waits ++ startParts waits)).isSome = true)
    ∧ BoundaryOf (atEnd .running .noStop (running (posts true) 0) [entry 1 .ready waits] 255) 0
        (running (posts true) 0) :=
  ⟨⟨boundaryOf_of, by decide +kernel⟩, boundaryOf_of⟩

theorem witness_BoundaryStarvesOrFaults :
    (BoundaryOf (atEnd .running .noStop (running (posts false) 2) [] 255) 0 (running (posts false) 2)
      ∧ (after (.periodBoundary 0) (atEnd .running .noStop (running (posts false) 2) [] 255)).token 5 = 255
      ∧ ((after (.periodBoundary 0) (atEnd .running .noStop (running (posts false) 2) [] 255)).group 0).state = .starved)
    ∧ (BoundaryOf (atEnd .running .noStop (running (posts false) 2) [entry 1 .bad 0 (some .fetchError)] 0) 0
        (running (posts false) 2)
      ∧ ((after (.periodBoundary 0)
          (atEnd .running .noStop (running (posts false) 2) [entry 1 .bad 0 (some .fetchError)] 0)).group 0).state
        = .faulted) :=
  ⟨⟨boundaryOf_of, by decide +kernel⟩, ⟨boundaryOf_of, by decide +kernel⟩⟩

theorem witness_BoundaryEndsAStoppingRecord :
    BoundaryOf (atEnd .stopping .segmentEnd (running (posts false) 1) [] 0) 0 (running (posts false) 1)
    ∧ BoundaryOf (atEnd .stopping .segmentEnd (running (posts false) 2) [entry 1 .ready waits] 0) 0 (running (posts false) 2)
    ∧ BoundaryOf (atEnd .stopping .periodEnd (running (posts false) 1) [entry 1 .ready waits] 0) 0 (running (posts false) 1)
    ∧ BoundaryOf (atEnd .stopping .periodEnd (running (posts true) 0) [entry 1 .bad 0 (some .malformed)] 0) 0
        (running (posts true) 0)
    ∧ ((after (.periodBoundary 0)
        (atEnd .stopping .periodEnd (running (posts false) 1) [entry 1 .ready waits] 0)).group 0).window.map Entry.status
      = [some .cut, some .aborted] :=
  ⟨boundaryOf_of, boundaryOf_of, boundaryOf_of,
    boundaryOf_of, by decide +kernel⟩

/-- G0 STARVED with a READY record that waits on token 5. -/
def starving (count : Nat) : State := atEnd .starved .noStop (entry 0 .draining (rec 0 1) (some .ok)) [entry 1 .ready waits] count

theorem witness_StarvedGroupResumes :
    (Settled (starving 1) ∧ RingLaw (starving 1) ∧ ActiveLaw (starving 1) ∧ (starving 1).tickDue 0 = true
      ∧ ((starving 1).group 0).next? = some (entry 1 .ready waits)
      ∧ runParts (starving 1).tokens (claimParts waits ++ startParts waits) = none)
    ∧ (runParts (starving 2).tokens (claimParts waits ++ startParts waits)).isSome = true
    ∧ (after (.starvedResume 0) (starving 1)).tickDue 0 = false
    ∧ (after (.starvedResume 0) (starving 2)).tickDue 0 = false := by decide +kernel

/-- Section 4.4: G1 and G3 ARMED in one set; token 2 holds `count` and token 7 holds 254. -/
def section44 (count : Nat) : State :=
  { up with
    groups := #v[{},
      { ring := ring 1 1 0 1, state := .armed, presc := 1, d := 1
        window := [entry 0 .ready (rec 0x18 1 [(0x14, 2), (0x15, 3), (0x16, 7), (0x17, 2)])] }, {},
      { ring := ring 1 1 0 1, state := .armed
        window := [entry 0 .ready (rec 8 1 [(0x14, 2), (0x15, 2)])] }]
    sets := [{ members := 0b1010 }]
    tokens := ((Vector.replicate 16 0).set 2 count).set 7 254 }

theorem witness_ReadySetFiresItsMembers :
    (Settled (section44 4) ∧ SetLaw (section44 4) ∧ RingLaw (section44 4) ∧ ActiveLaw (section44 4))
    ∧ ((section44 4).setOf 3 = some { members := 0b1010 }
      ∧ runParts (section44 4).tokens ((section44 4).setRequest { members := 0b1010 }) = none)
    ∧ (let t := after (.startSetFire 3) (section44 5);
      t.token 2 = 0 ∧ t.token 7 = 255 ∧ t.sets = []
        ∧ ((t.group 1).active?.map fun e => e.flags.tokenSaturated) = some true
        ∧ (t.group 3).notices.started = true) := by decide +kernel

theorem witness_TokenRequestsAreTakenWhole :
    (∀ p ∈ [Part.post 3 15], ∃ k add, p = .post k add)
    ∧ (runParts (Vector.replicate 16 254) [.post 3 1, .claim 3 255]).isSome = true
    ∧ runParts (Vector.replicate 16 254) [.post 3 1, .claim 3 255, .claim 4 255] = none
    ∧ (.claim 2 5) ∈ (section44 4).setRequest { members := 0b1010 } :=
  ⟨fun p h => ⟨3, 15, by simpa using h⟩, by decide +kernel, by decide +kernel, by decide +kernel⟩

/-! ## The converter and the result writer -/

/-- A request of G0's record in slot 0, for position 3, of two samples. -/
def request : Request := ⟨0, 0, 3, 7, 2⟩

/-- A record with a capture part whose result block starts at 4_2000h (section 6.9). -/
def block : Slot64 := seg 0x20 0 4 9 [(0x19, 1), (0x1A, 8), (0x20, 0x42000), (0x2B, 2)]

/-- The converter at work for that record, which may be DRAINING. -/
def converting (step done : Nat) (st : EntryState) (w : ResultWriter) : State :=
  { withG0 { ring := ring 1 1 0 1, state := .stopping, window := [{ entry 0 st block with triggered := 4, nextPos := 3 }] }
    with
    converter := { state := .converting, current := some request, step, done, sample := 4095, sum := 5 }
    captureQueue := [⟨0, 0, 4, 1, 1⟩]
    writer := w }

/-- A writer that has work, with a number of results waiting. -/
def writing (results : Nat) : ResultWriter :=
  { queue := List.replicate results ⟨1, 0, 0, 0⟩, job := some (.result ⟨1, 0, 0, 0⟩), write := .asking }

theorem witness_ConversionsRunAndDeliverResults :
    (Settled (converting 0 0 .active (writing 0)) ∧ (converting 13 0 .active (writing 0)).converter.presc = 0
      ∧ (after (.converterTick 0xABC) (converting 0 0 .active (writing 0))).converter.sample = 0xABC
      ∧ (after (.converterTick 0xABC) (converting 13 0 .active (writing 0))).converter.step = 14
      ∧ (Settled up ∧ up.converter.state ≠ .converting))
    ∧ (Settled (converting 14 0 .active (writing 3)) ∧ RingLaw (converting 14 0 .active (writing 3))
      ∧ (after .conversionEnd (converting 14 0 .active (writing 3))).converter.sum = 4100
      ∧ (after .conversionEnd (converting 14 1 .active (writing 3))).writer.queue.getLast? = some ⟨0, 0, 3, 4100⟩
      ∧ (after .conversionEnd (converting 14 1 .active (writing 3))).converter.current = some ⟨0, 0, 4, 1, 1⟩)
    ∧ (Settled (converting 14 1 .active (writing 4)) ∧ RingLaw (converting 14 1 .active (writing 4))
      ∧ (after .conversionEnd (converting 14 1 .active (writing 4))).converter.state = .holding) := by decide +kernel

theorem witness_ConversionEnd_to_free_writer :
    (Settled (converting 14 1 .active {}) ∧ RingLaw (converting 14 1 .active {}))
    ∧ (∀ m, ∀ f ∈ ((converting 14 1 .active {}).group m).window, f.st ≠ .draining)
    ∧ (((converting 14 1 .active {}).entry? request.ref).map fun e => (e.faulted, e.nextPos)) = some (false, 3)
    ∧ (after .conversionEnd (converting 14 1 .active {})).writer.job = some (.result ⟨0, 0, 3, 4100⟩) := by
  decide +kernel

/-- R105: a result below the next position, and one of a faulted record, give no job. -/
theorem witness_ConversionEnd_drops_the_result :
    ∀ f ∈ [fun e : Entry => { e with nextPos := 4 }, fun e => { e with faulted := true }],
      let s := (converting 14 1 .active {}).modEntry request.ref f;
      Settled s ∧ RingLaw s ∧ (after .conversionEnd s).writer.job = none ∧ (after .conversionEnd s).writer.queue = []
        ∧ (after .conversionEnd s).writer.lastSource = .resultQueue
        ∧ (after .conversionEnd s).converter.current = some ⟨0, 0, 4, 1, 1⟩ := by decide +kernel

/-- R106: with the dropped result gone, its DRAINING record still owes two words: the fill is the next job. -/
theorem witness_ConversionEnd_drops_the_result_of_a_draining_record :
    let s := { (converting 14 1 .draining {}).modEntry request.ref fun e => { e with nextPos := 4, triggered := 6 } with
      captureQueue := [] };
    Settled s ∧ RingLaw s ∧ (∀ m, ∀ f ∈ (s.group m).window, f.st = .draining → s.inHand (f.ref m) = true)
      ∧ (after .conversionEnd s).writer.job = some (.fill ⟨0, 0⟩ 6)
      ∧ (after .conversionEnd s).writer.lastSource = .fillList := by decide +kernel

/-- A granted write of section 6.9: the job for position 4, or a fill. -/
def granting (j : Job) (nextPos : Nat) : State :=
  { withG0 { ring := ring 1 1 0 1, state := .running, window := [{ entry 0 .active block with triggered := 6, nextPos }] }
    with writer := { job := some j, write := .asking } }

theorem witness_ResultWriteCarriesTheNextWord :
    (∀ n ∈ [3, 4], Settled (granting (.result ⟨0, 0, 4, 100⟩) n)
      ∧ (granting (.result ⟨0, 0, 4, 100⟩) n).granted .resultWriter = true)
    ∧ ((after .resultWriteIssue (granting (.result ⟨0, 0, 4, 100⟩) 3)).bus.map fun t => (t.addr, t.op))
        = [(0x42006, .writeWord 0x8000)]
    ∧ ((after .resultWriteIssue (granting (.result ⟨0, 0, 4, 100⟩) 4)).bus.map fun t => (t.addr, t.op))
        = [(0x42008, .writeWord 100)]
    ∧ ((after .resultWriteIssue (granting (.fill ⟨0, 0⟩ 6) 5)).bus.map fun t => (t.addr, t.op))
        = [(0x4200A, .writeWord 0x8000)] := by decide +kernel

/-- The write of a MISSED word is on the bus; the record is in a state, the job has a limit. -/
def writingWord (st : EntryState) (j : Option Job) : State :=
  { withG0 { ring := ring 1 1 0 1, state := if st = .retiring then .tripped else .running
             window := [{ entry 0 st block with triggered := 6, nextPos := 4, wordsWritten := 3 }] } with
    bus := [txn .resultWriter]
    writer := { job := j, write := .onBus, onBus := some ⟨⟨0, 0⟩, 0x8000⟩ } }

theorem witness_ResultAnswerIsCountedOnce :
    (let s := writingWord .retiring none;
      Settled s ∧ RingLaw s ∧ Awaits s .resultWriter ∧ (s.entry? ⟨0, 0⟩).isSome = true
        ∧ (((after (.resultWriteOk false) s).entry? ⟨0, 0⟩).map Entry.wordsWritten) = some 3)
    ∧ (let s := writingWord .active (some (.result ⟨0, 0, 4, 9⟩));
      Settled s ∧ RingLaw s ∧ Awaits s .resultWriter
        ∧ (((after (.resultWriteOk false) s).entry? ⟨0, 0⟩).map fun e => (e.wordsWritten, e.crc)) = some (4, 0x8C87)
        ∧ (after (.resultWriteOk false) s).writer.write = .asking
        ∧ (((after (.resultWriteError false) s).entry? ⟨0, 0⟩).map fun e => (e.wordsWritten, e.faulted)) = some (3, true)
        ∧ (after (.resultWriteError false) s).writer.job = none) := by decide +kernel

/-- The last write of a job is on the bus; work waits, and one source was served last. -/
def lastWord (results : Nat) (fill : List EntryRef) (last : Source) : State :=
  { withG0 { ring := ring 2 2 0 2, state := .running
             window := [{ entry 0 .draining block (some .ok) with triggered := 8, nextPos := 7 },
               { entry 1 .active block with triggered := 6, nextPos := 4, wordsWritten := 3 }] } with
    bus := [txn .resultWriter]
    writer := { queue := List.replicate results ⟨0, 1, 4, 9⟩, fill, lastSource := last
                job := some (.result ⟨0, 1, 3, 9⟩), write := .onBus, onBus := some ⟨⟨0, 1⟩, 9⟩ } }

theorem witness_ResultAnswerEndsTheJob :
    (let s := writingWord .active (some (.result ⟨0, 0, 3, 9⟩));
      (Settled s ∧ RingLaw s ∧ Awaits s .resultWriter ∧ s.inFill ⟨0, 0⟩ = false ∧ s.converter.state ≠ .holding
        ∧ ∀ m, ∀ f ∈ (s.group m).window, f.st ≠ .draining)
      ∧ (after (.resultWriteError false) s).writer.job = none
      ∧ (after (.resultWriteOk false) s).writer.job = none ∧ (after (.resultWriteOk false) s).writer.write = .idle)
    ∧ (let s := lastWord 1 [⟨0, 0⟩] .fillList;
      (Settled s ∧ RingLaw s ∧ Awaits s .resultWriter ∧ s.dropsResult ⟨0, 1, 4, 9⟩ = false)
      ∧ (after (.resultWriteOk false) s).writer.job = some (.result ⟨0, 1, 4, 9⟩))
    ∧ (let s := lastWord 1 [⟨0, 0⟩] .resultQueue;
      (Settled s ∧ (s.entry? ⟨0, 0⟩).isSome = true)
      ∧ (after (.resultWriteOk false) s).writer.job = some (.fill ⟨0, 0⟩ 8)) := by decide +kernel

/-- R104: the one source that holds work is taken from, also where it was served last. -/
theorem witness_ResultAnswerTakesTheOneSource :
    let s := lastWord 0 [⟨0, 0⟩] .fillList;
    Settled s ∧ RingLaw s ∧ s.converter.state ≠ .holding
      ∧ (after (.resultWriteOk false) s).writer.job = some (.fill ⟨0, 0⟩ 8) := by decide +kernel

/-- R105: with dropped results in front, the writer chooses again: a fill by turns, or a later result. -/
theorem witness_ResultAnswerDropsResults :
    let late : ConvResult := ⟨0, 1, 2, 9⟩;
    let behind : ConvResult := ⟨0, 1, 4, 9⟩;
    (let s := lastWord 1 [⟨0, 0⟩] .fillList; let s := { s with writer := { s.writer with queue := [late] } };
      Settled s ∧ RingLaw s ∧ s.dropsResult late = true
        ∧ (after (.resultWriteOk false) s).writer.job = some (.fill ⟨0, 0⟩ 8))
    ∧ (let s := writingWord .active (some (.result ⟨0, 0, 3, 9⟩));
      let s := { s with writer := { s.writer with lastSource := .resultQueue
                                                  queue := [{ late with slot := 0 }, { behind with slot := 0 }] } };
      Settled s ∧ RingLaw s ∧ (∀ m, ∀ f ∈ (s.group m).window, f.st ≠ .draining)
        ∧ (after (.resultWriteOk false) s).writer.job = some (.result { behind with slot := 0 })
        ∧ (after (.resultWriteOk false) s).writer.queue = []) := by decide +kernel

/-- R106, R110: a DRAINING record with nothing in hand joins the fill list where it owes words, and goes to
RETIRING where it owes none; one that a write job is left for, and one that is not DRAINING, stay. -/
theorem witness_DrainingRecordIsFilledOrRetires :
    let ended := fun (st : EntryState) (nextPos : Nat) (j : Option Job) =>
      { (granting (.fill ⟨1, 0⟩ 6) nextPos).modEntry ⟨0, 0⟩ (fun e => { e with st }) with writer := { job := j } };
    ((ended .draining 4 none).drainOne ⟨0, 0⟩).writer.fill = [⟨0, 0⟩]
      ∧ ((ended .draining 6 none).drainOne ⟨0, 0⟩).writer.fill = []
      ∧ (((ended .draining 6 none).drainOne ⟨0, 0⟩).entry? ⟨0, 0⟩).map Entry.st = some .retiring
      ∧ (ended .draining 6 (some (.fill ⟨0, 0⟩ 6))).drainOne ⟨0, 0⟩ = ended .draining 6 (some (.fill ⟨0, 0⟩ 6))
      ∧ (ended .active 4 none).drainOne ⟨0, 0⟩ = ended .active 4 none
      ∧ RingLaw (ended .draining 4 none)
      ∧ (ended .draining 4 none).drain.writer.fill = [⟨0, 0⟩]
      ∧ (((ended .draining 6 none).drain.entry? ⟨0, 0⟩).map Entry.st) = some .retiring := by decide +kernel

/-- R106: the last write of a DRAINING record's result leaves two words owed, which the next job fills. -/
theorem witness_ResultAnswerFillsADrainingRecord :
    let s := writingWord .draining (some (.result ⟨0, 0, 3, 9⟩));
    Settled s ∧ RingLaw s ∧ Awaits s .resultWriter
      ∧ (∀ m, ∀ f ∈ (s.group m).window, f.st = .draining → f.ref m ≠ ⟨0, 0⟩ → s.inHand (f.ref m) = true)
      ∧ (after (.resultWriteOk false) s).writer.job = some (.fill ⟨0, 0⟩ 6)
      ∧ (after (.resultWriteOk false) s).writer.write = .asking := by decide +kernel

/-- `s` with the converter holding a result of G0's record, whose next request waits. -/
def holding (slot : Nat) (s : State) : State :=
  { s with
    converter := { state := .holding, held := some ⟨0, slot, 5, 7⟩ }, captureQueue := [⟨0, slot, 5, 1, 1⟩] }

/-- The writer ends a job of G0's only record, with four late results waiting and a fifth result held. -/
def lateResults : State :=
  let s := writingWord .active (some (.result ⟨0, 0, 3, 9⟩))
  holding 0 { s with writer := { s.writer with queue := List.replicate 4 ⟨0, 0, 3, 9⟩ } }

/-- R94: the result queue is full and the converter holds a result. Where the writer takes a result, and where it
drops the four waiting ones, the held result takes the tail and the converter the waiting request. -/
theorem witness_ResultAnswerFreesAHoldingConverter :
    (let s := holding 1 (lastWord 4 [⟨0, 0⟩] .fillList);
      Settled s ∧ RingLaw s ∧ Awaits s .resultWriter ∧ CaptureLaw s)
    ∧ (let t := after (.resultWriteOk false) (holding 1 (lastWord 4 [⟨0, 0⟩] .fillList));
      t.writer.job = some (.result ⟨0, 1, 4, 9⟩)
        ∧ t.writer.queue = List.replicate 3 ⟨0, 1, 4, 9⟩ ++ [⟨0, 1, 5, 7⟩]
        ∧ t.converter.current = some ⟨0, 1, 5, 1, 1⟩ ∧ t.captureQueue = [])
    ∧ (Settled lateResults ∧ RingLaw lateResults ∧ CaptureLaw lateResults
      ∧ ∀ m, ∀ f ∈ (lateResults.group m).window, f.st ≠ .draining)
    ∧ (let t := after (.resultWriteOk false) lateResults;
      t.writer.job = some (.result ⟨0, 0, 5, 7⟩) ∧ t.writer.queue = []
        ∧ t.converter.current = some ⟨0, 0, 5, 1, 1⟩) :=
  ⟨by decide +kernel, by decide +kernel, by decide +kernel, by decide +kernel⟩

/-- Table 6.2. -/
theorem test_crc_check_values : crcWord 0xFFFF 0x0000 = 0x1D0F ∧ crcWord 0xFFFF 0x8000 = 0x8C87 := by decide +kernel

/-- Table 11.17. -/
theorem test_result_words :
    resultWord 0 = 0x0000 ∧ resultWord 4095 = 0x0FFF ∧ resultWord 32760 = 0x7FF8 ∧ missedWord = 0x8000 := by
  decide +kernel

/-! ## Records and notices leave -/

/-- Section 1.7's two oldest records, in a window of G0, with entries waiting in the holding queue. -/
def leaving (window : List Entry) (waiting : Nat) : State :=
  { withG0 { ring := { bound := true, size := 8, tail := 7, fetch := 7, retire := 7 - window.length, span := window.length }
             state := .stopped, window := window, queue := List.replicate waiting aNotice, notices := { stopped := true } }
    with
    cpl := { state := .asking } }

theorem witness_RecordsAndNoticesJoinTheHoldingQueue :
    -- reported into the last place of the queue; silent with a full queue; the window emptied
    (Settled (leaving [entry 2 .retiring (seg 1 0 4 1 [(0, 0x101)]) (some .ok), entry 3 .retiring 0 (some .ok)] 3)
      ∧ ((after (.recordLeave 0)
          (leaving [entry 2 .retiring (seg 1 0 4 1 [(0, 0x101)]) (some .ok), entry 3 .retiring 0 (some .ok)] 3)).group 0).queue.getLast?
        = some (.segment 0 0x101 .ok false {} 6 0 0xFFFF 0 0 0))
    ∧ (Settled (leaving [entry 3 .retiring 0 (some .ok)] 4)
      ∧ ((after (.recordLeave 0) (leaving [entry 3 .retiring 0 (some .ok)] 4)).group 0).ring.retire = 7)
    ∧ ((leaving [] 3).group 0).notices ≠ {}
    ∧ ((after (.noticeQueue 0) (leaving [] 3)).group 0).queue.getLast? = some (.notice 0 { stopped := true } .stopped 7)
    ∧ ((after (.noticeQueue 0) (leaving [entry 6 .retiring 0 (some .cut)] 3)).group 0).notices = { stopped := true } := by
  decide +kernel

theorem witness_RecordsAndNoticesWait :
    -- a record that is not RETIRING, one without room, one with its own write on the bus
    (let s := leaving [entry 6 .draining 0 (some .ok)] 1; Settled s ∧ after (.recordLeave 0) s = s)
    ∧ (let s := leaving [entry 6 .retiring 0 (some .cut)] 4; Settled s ∧ after (.recordLeave 0) s = s)
    ∧ (let s : State := { leaving [entry 6 .retiring 0 (some .cut)] 1 with
          writer := { write := .onBus, onBus := some ⟨⟨0, 6⟩, 0⟩ } };
      Settled s ∧ s.writeOnBus ⟨0, 6⟩ = true ∧ after (.recordLeave 0) s = s)
    ∧ (let s := leaving [] 4; Settled s ∧ after (.recordLeave 0) s = s ∧ after (.noticeQueue 0) s = s) := by
  decide +kernel

/-! ## The administrative fetch and the completion writer -/

/-- Section 8.9 at its first grant, and with G2's entry gone at its second. -/
def section89 (write : Nat) (last : Server) (g2 : List CplEntry) : State :=
  { up with
    groups := #v[{ queue := [aNotice, aNotice] }, {}, { queue := g2 }, {}]
    admin := { queue := [.admin 8 0 .ok 0 0] }
    cpl := { write, unreleased := write, state := .asking, lastServed := last } }

theorem witness_GrantedReadsAndWritesAdvanceTheirRings :
    (let s : State := { up with admBase := 0x400, admin := { tail := 0, fetch := 3, state := .asking } };
      Settled s ∧ s.granted .adminProcessor = true ∧ (after .adminFetchIssue s).admin.fetch = 0
        ∧ (after .adminFetchIssue s).bus.map BusTxn.addr = [0x460])
    ∧ (let s := section89 14 (.group 1) [aNotice];
      Settled s ∧ s.granted .completionWriter = true ∧ s.holdingQueue (.group 2) = [aNotice]
        ∧ (after .completionWriteIssue s).cpl.lastServed = .group 2)
    ∧ (let s := section89 15 (.group 2) [];
      Settled s ∧ s.granted .completionWriter = true
        ∧ (after .completionWriteIssue s).cpl
            = { write := 0, lap := false, unreleased := 16, state := .onBus, lastServed := .admin
                inFlight := some (.admin 8 0 .ok 0 0) }) := by decide +kernel

/-- A completion write is on the bus. -/
def completing (e : CplEntry) : State :=
  { up with cpl := { write := 1, unreleased := 1, state := .onBus, inFlight := some e }, bus := [txn .completionWriter] }

theorem witness_CompletionAnswersAndFatalErrors :
    (∀ q ∈ [(CplEntry.segment 0 0 .ok true {} 0 0 0 0 0 0, evtCpl), (.segment 0 0 .ok false {} 0 0 0 0 0 0, 0),
        (.admin 8 0 .ok 0 0, evtAdm), (aNotice, evtNtc)],
      Settled (completing q.1) ∧ Awaits (completing q.1) .completionWriter
        ∧ (after (.completionWriteOk false) (completing q.1)).evt = q.2)
    ∧ (Settled asked ∧ Awaits asked .adminProcessor ∧ asked.admin.state = .onBus
      ∧ (after (.adminReadError false) asked).stat.cause = .adminFetch)
    ∧ ((completing aNotice).cpl.state = .onBus
      ∧ (after (.completionWriteError false) (completing aNotice)).evt = evtHalt) := by decide +kernel

/-- Section 11.7: the illustrated entry, with a CRC of 1234h. -/
theorem test_entry_of_section_11_7 :
    (CplEntry.segment 2 0x0231 .ok false { captureLost := true } 37 20 0x1234 2 20 0).encode true
      = 0x01#256 ||| 0x02#256 <<< 8 ||| 0x0231#256 <<< 16 ||| 0x02#256 <<< 48 ||| 0x25#256 <<< 64 ||| 0x14#256 <<< 80
        ||| 0x1234#256 <<< 96 ||| 0x02#256 <<< 112 ||| 0x14#256 <<< 128 := by decide +kernel

/-! ## The trip unit -/

/-- TRIP1 of section 7.5: active LOW, F = 2, mask G0 and G2. -/
def trip1 (run : Nat) (sample : Option Level) : TripLine := { active := .low, filterLen := 2, mask := 5, run, sample }

/-- Section 7.5 before a sample. -/
def section75 (run : Nat) (sample : Option Level) : State :=
  { busyIn .running g0.window ⟨.high, .low⟩ with
    lines := #v[{}, trip1 run sample, {}, {}], groups := #v[g0, g1, { g2 with state := .stopped }, {}] }

theorem witness_TripLinesAreFilteredAndLatched :
    (Settled (section75 1 none) ∧ (section75 1 none).rstn = .high ∧ (section75 1 none).tripPresc = 0
      ∧ ((after (.tripSample (Vector.replicate 4 .high)) (section75 1 none)).line 1).run = 0
      ∧ ((after (.tripSample (Vector.replicate 4 .low)) (section75 1 none)).line 1).run = 2
      ∧ ((after (.tripSample (Vector.replicate 4 .low)) (section75 2 none)).line 1).sample = some .low)
    ∧ (Settled (section75 2 (some .low)) ∧ ((section75 2 (some .low)).line 1).filterLen ≤ 2
      ∧ ((after (.filteredLevelChange 1) (section75 2 (some .low))).line 1).latch = true
      ∧ (after (.filteredLevelChange 1) (section75 2 (some .low))).evt = evtTrip)
    ∧ (Settled (section75 0 (some .low))
      ∧ ((after (.filteredLevelChange 1) (section75 0 (some .low))).line 1).run = 1) := by decide +kernel

theorem witness_TripMovesEveryNamedGroup :
    (let s := section75 2 (some .low);
      (Settled s ∧ RingLaw s ∧ RestLaw s ∧ SetLaw s ∧ ActiveLaw s) ∧ OwnerLaw s
        ∧ (TripLaw s ∧ CaptureLaw s ∧ s.rstn = .high ∧ s.tripCondition 0 = false ∧ s.tripCondition 2 = false))
    ∧ (let t := after (.filteredLevelChange 1) (section75 2 (some .low));
      (t.group 0).state = .tripped ∧ (t.group 2).state = .tripped ∧ (t.group 0).ring.fetch = 2
        ∧ (t.group 0).window.map Entry.status = [some .tripped, some .aborted]
        ∧ ((t.group 0).window.map fun e => e.flags.resultIncomplete) = [true, false] ∧ t.converter.state = .idle
        ∧ t.pair 0 = { group := some 0 } ∧ (t.group 1).state = .armed) :=
  ⟨⟨by decide +kernel, ownerLaw_of (by decide +kernel), by decide +kernel⟩, by decide +kernel⟩

/-- G0 and G2 ARMED in one set, and both in the mask of the line that is about to latch. -/
def armedPair : State :=
  { up with
    groups := #v[g1, {}, g1, {}], sets := [{ members := 5 }], lines := #v[{}, trip1 2 (some .low), {}, {}] }

/-- R42, R121: two ARMED members of one set trip on one line. -/
theorem witness_TripMovesTwoMembersOfASet :
    (Settled armedPair ∧ RingLaw armedPair ∧ RestLaw armedPair ∧ SetLaw armedPair ∧ ActiveLaw armedPair)
    ∧ (TripLaw armedPair ∧ CaptureLaw armedPair)
    ∧ (let t := after (.filteredLevelChange 1) armedPair;
      t.sets = [] ∧ ∀ g ∈ [t.group 0, t.group 2],
        g = { g1 with
          window := [entry 0 .retiring (seg 0 0 4 1) (some .aborted)], state := .tripped
          notices := { tripped := true, setBroken := true } }) :=
  ⟨by decide +kernel, by decide +kernel, by decide +kernel⟩

/-! ## Administrative commands -/

/-- The status of the last entry of the admin holding queue. -/
def status (s : State) : Option AdminStatus :=
  match s.admin.queue.getLast? with
  | some (.admin _ _ st _ _) => some st
  | _ => none

/-- The statuses that commands get, each from the same state. -/
def statuses (c : Slot32 → Instr) (s : State) (slots : List Slot32) : List (Option AdminStatus) :=
  slots.map fun slot => status (after (c slot) s)

/-- The value of the last entry of the admin holding queue. -/
def value (s : State) : BitVec 128 :=
  match s.admin.queue.getLast? with
  | some (.admin _ _ _ _ v) => v
  | _ => 0

/-- A command awaited while G1 is in a state, with a window. -/
def askedOf (st : GroupState) (window : List Entry) : State :=
  { asked with
    groups := #v[{}, { ring := ring 1 window.length 0 window.length, state := st, window := window }, {}, {}]
    sets := if st = .armed then [{ members := 2 }] else []
    lines := if st = .tripped then #v[{ mask := 2, latch := true, filtered := true }, {}, {}, {}]
      else #v[{}, {}, {}, {}] }

/-- A record that waits for room. -/
def gone : Entry := entry 0 .retiring 0 (some .aborted)

/-- BIND_RING of G1: 16 slots at 1_0040h. -/
def bind : Slot32 := cmd 1 [(4, 1), (0x0C, 4), (0x18, 0x10040)]

theorem witness_RingAndGroupCommands :
    (Settled (askedOf .stopped []) ∧ Awaits (askedOf .stopped []) .adminProcessor
      ∧ status (after (.bindRing false bind) (askedOf .stopped [])) = some .ok
      ∧ ((after (.bindRing false bind) (askedOf .unbound [])).group 1).ring.size = 16
      ∧ status (after (.bindRing false bind) (askedOf .stopped [gone])) = some .busy
      ∧ status (after (.bindRing false bind) (askedOf .tripped [])) = some .badState
      ∧ statuses (.bindRing false) (askedOf .stopped []) [cmd 1 [(4, 4), (0x0C, 4)], cmd 1 [(4, 1), (0x0C, 1)],
          cmd 1 [(4, 1), (0x0C, 13)], cmd 1 [(4, 1), (0x0C, 4), (0x18, 32)], cmd 1 [(4, 1), (0x0C, 4), (1, 1)]]
        = List.replicate 5 (some .badParam))
    ∧ (status (after (.unbindRing false (cmd 2 [(4, 1)])) (askedOf .stopped [])) = some .ok
      ∧ status (after (.unbindRing false (cmd 2 [(4, 1)])) (askedOf .stopped [gone])) = some .busy
      ∧ status (after (.unbindRing false (cmd 2 [(4, 1)])) (askedOf .unbound [])) = some .badState
      ∧ status (after (.unbindRing false (cmd 2 [(4, 4)])) (askedOf .stopped [])) = some .badParam)
    -- section 9.7, slot 0: accepted although a record is still in the window
    ∧ (((after (.setGroup false (cmd 3 [(4, 1), (8, 1), (0x0C, 2)])) (askedOf .stopped [gone])).group 1).mode = .centre
      ∧ status (after (.setGroup false (cmd 3 [(4, 1), (0x0C, 7)])) (askedOf .unbound [])) = some .ok
      ∧ status (after (.setGroup false (cmd 3 [(4, 1), (0x0C, 8)])) (askedOf .unbound [])) = some .badParam
      ∧ status (after (.setGroup false (cmd 3 [(4, 1), (8, 2)])) (askedOf .unbound [])) = some .badParam
      ∧ status (after (.setGroup false (cmd 3 [(4, 1)])) (askedOf .armed [])) = some .badState) := by decide +kernel

/-- SET_PAIR of pair 3, COMP, dead time 63, with level bytes. -/
def pairCmd (group mode idle safe : Nat) : Slot32 :=
  cmd 4 [(4, group), (5, 3), (8, mode), (0x0C, 63), (0x0E, idle), (0x10, safe)]

theorem witness_SetPairConfiguresThePair :
    (Settled (askedOf .stopped []) ∧ status (after (.setPair false (pairCmd 1 0 0x0001 0x0100)) (askedOf .stopped [])) = some .ok
      ∧ ((after (.setPair false (pairCmd 1 0 0x0001 0x0100)) (askedOf .stopped [])).pair 3).pins = ⟨.high, .low⟩
      ∧ ((after (.setPair false (pairCmd 0xFF 1 0x0100 0x0001)) (askedOf .running [])).pair 3).group = none)
    -- section 9.7, slot 1
    ∧ (status (after (.setPair false (pairCmd 1 0 0 0)) (askedOf .stopped [gone])) = some .busy
      ∧ status (after (.setPair false (pairCmd 1 0 0 0)) (askedOf .faulted [gone])) = some .badState)
    ∧ statuses (.setPair false) (askedOf .stopped [])
        [pairCmd 1 0 0x0101 0, pairCmd 1 0 0 0x0101, pairCmd 1 1 0 0x0101, pairCmd 1 1 0x0101 0, pairCmd 4 0 0 0,
          pairCmd 1 4 0 0, pairCmd 1 2 0x0002 0, cmd 4 [(4, 1), (5, 6)], cmd 4 [(4, 1), (0x0C, 64)],
          cmd 4 [(4, 1), (9, 1)]]
      = List.replicate 10 (some .badParam)
    ∧ statuses (.setPair false) (askedOf .stopped [])
        [pairCmd 1 2 0x0101 0x0101, pairCmd 1 3 0 0x0101, pairCmd 1 1 0x0101 0x0101]
      = List.replicate 3 (some .ok) := by decide +kernel

theorem witness_ConverterTripAndTokenCommands :
    (status (after (.setConverter false (cmd 5 [(0x0C, 32)])) asked) = some .ok
      ∧ status (after (.setConverter false (cmd 5 [(0x0C, 33)])) asked) = some .badParam
      ∧ status (after (.setConverter false (cmd 5)) asked) = some .badParam
      ∧ status (after (.setConverter false (cmd 5 [(0x0C, 1)])) { asked with captureQueue := [request] }) = some .busy
      ∧ (Settled asked ∧ Awaits asked .adminProcessor))
    ∧ (((after (.setTrip false (cmd 6 [(6, 1), (9, 0), (0x0A, 5), (0x0C, 2)])) asked).line 1) = trip1 0 none
      ∧ status (after (.setTrip false (cmd 6)) (askedOf .tripped [])) = some .badState
      ∧ statuses (.setTrip false) asked [cmd 6 [(6, 4)], cmd 6 [(9, 2)], cmd 6 [(0x0A, 16)], cmd 6 [(0x0C, 16)]]
        = List.replicate 4 (some .badParam))
    ∧ ((after (.setToken false (cmd 10 [(7, 15), (0x0C, 255)])) asked).token 15 = 255
      ∧ status (after (.setToken false (cmd 10 [(7, 16)])) asked) = some .badParam
      ∧ status (after (.setToken false (cmd 10 [(0x0C, 256)])) asked) = some .badParam) := by decide +kernel

theorem witness_StartCreatesASet :
    (Settled (askedOf .stopped []) ∧ opcodeOf (cmd 7 [(0x0A, 2)]) = 0x07
      ∧ (after (.start false (cmd 7 [(0x0A, 2)])) (askedOf .stopped [])).sets = [{ members := 2 }]
      ∧ ((after (.start false (cmd 7 [(0x0A, 2)])) (askedOf .stopped [])).group 1).state = .armed)
    ∧ status (after (.start false (cmd 7)) (askedOf .stopped [])) = some .badParam
    ∧ status (after (.start false (cmd 7 [(0x0A, 16)])) (askedOf .stopped [])) = some .badParam
    ∧ status (after (.start false (cmd 7 [(0x0A, 2)])) { askedOf .stopped [] with sets := List.replicate 4 { members := 0 } })
        = some .busy
    ∧ status (after (.start false (cmd 7 [(0x0A, 2)])) (askedOf .tripped [])) = some .tripLatched
    ∧ status (after (.start false (cmd 7 [(0x0A, 3)])) (askedOf .stopped [gone])) = some .badState
    ∧ status (after (.start false (cmd 7 [(0x0A, 2)])) (askedOf .stopped [gone])) = some .busy := by decide +kernel

/-- STOP of G1. -/
def stop (mode : Nat) : Instr := .stop false (cmd 8 [(4, 1), (8, mode)])

/-- A window with a record at work, one READY and one FETCHING. -/
def stopping (st : EntryState) : List Entry :=
  [entry 0 st plain (if st = .draining then some .ok else none), entry 1 .ready plain, entry 2 .fetching 0]

/-- `askedOf` with the tail ahead of three fetched slots. -/
def askedToStop (st : GroupState) (window : List Entry) : State :=
  { askedOf st window with
    groups := #v[{}, { ring := ring 3 window.length 0 window.length, state := st, window := window }, {}, {}] }

/-- The laws a STOP or an ABORT rests on. -/
abbrev lawful (s : State) : Prop :=
  (Settled s ∧ Awaits s .adminProcessor) ∧ RingLaw s ∧ ActiveLaw s ∧ RestLaw s ∧ SetLaw s

theorem witness_StopEndsAGroupByItsState :
    (lawful (askedToStop .running (stopping .active)) ∧ lawful (askedToStop .starved (stopping .draining))
      ∧ lawful (askedToStop .armed [entry 0 .ready plain]) ∧ lawful (askedToStop .stopped []))
    ∧ (((after (stop 0) (askedToStop .running (stopping .active))).group 1).pendingStop = .periodEnd
      ∧ ((after (stop 1) (askedToStop .running (stopping .active))).group 1).ring.fetch = 2
      ∧ ((after (stop 2) (askedToStop .running (stopping .active))).group 1).window.map Entry.status
          = [some .cut, some .aborted]
      ∧ ((after (stop 2) (askedToStop .starved (stopping .draining))).group 1).state = .stopped)
    ∧ ((after (stop 0) (askedToStop .armed [entry 0 .ready plain])).sets = []
      ∧ ((after (stop 0) (askedToStop .armed [entry 0 .ready plain])).group 1).notices.setBroken = true
      ∧ status (after (stop 0) (askedToStop .stopped [])) = some .badState
      ∧ status (after (stop 3) (askedToStop .running (stopping .active))) = some .badParam) :=
  ⟨⟨by decide +kernel, by decide +kernel, by decide +kernel, by decide +kernel⟩, by decide +kernel,
    by decide +kernel⟩

/-- G1 RUNNING on a record that owes two words, G3 converting, with a request and the job of the writer. -/
def stoppedAtWork (j : Option Job) : State :=
  { askedToStop .running (stopping .active) with
    groups := #v[{},
      { ring := ring 1 1 0 1, state := .running, window := [{ entry 0 .active block with triggered := 6, nextPos := 4 }] },
      {}, { ring := ring 1 1 0 1, state := .running, window := [{ entry 0 .active block with triggered := 3 }] }]
    converter := { state := .converting, current := some ⟨3, 0, 0, 7, 2⟩, step := 3 }
    captureQueue := [⟨3, 0, 1, 7, 2⟩]
    writer := { job := j, write := if j = none then .idle else .asking } }

/-- R89, R95, R106: a STOP removes no capture work, and the record that ends under NOW joins the fill list. -/
theorem witness_StopKeepsCaptureWork :
    (∀ j ∈ [none, some (.result ⟨3, 0, 2, 5⟩)], lawful (stoppedAtWork j))
    ∧ (∀ j ∈ [none, some (.result ⟨3, 0, 2, 5⟩)], CaptureLaw (stoppedAtWork j))
    ∧ (∀ mode ∈ [0, 1, 2], ∀ j ∈ [none, some (.result ⟨3, 0, 2, 5⟩)],
      let t := after (stop mode) (stoppedAtWork j);
      t.captureQueue = [⟨3, 0, 1, 7, 2⟩] ∧ t.converter = (stoppedAtWork j).converter)
    ∧ ((after (stop 2) (stoppedAtWork none)).writer.job = some (.fill ⟨1, 0⟩ 6)
      ∧ (after (stop 2) (stoppedAtWork (some (.result ⟨3, 0, 2, 5⟩)))).writer.fill = [⟨1, 0⟩]
      ∧ (after (stop 2) (stoppedAtWork (some (.result ⟨3, 0, 2, 5⟩)))).writer.job = some (.result ⟨3, 0, 2, 5⟩)) :=
  ⟨by decide +kernel, by decide +kernel, by decide +kernel, by decide +kernel⟩

/-- `askedToStop` with pair 5 of G1 showing its waveform, P active. -/
def askedInWaveform : State :=
  { askedToStop .running (stopping .active) with
    pairs := #v[{}, {}, {}, {}, {},
      { group := some 1, idle := ⟨.low, .high⟩, outP := ⟨0, true⟩, raw := true, pins := ⟨.high, .low⟩ }] }

/-- R38, R39, R55: the pairs leave the waveform at a STOP with NOW and at an ABORT, and not at another STOP. -/
theorem test_pairs_leave_the_waveform :
    lawful askedInWaveform ∧ askedInWaveform.tripCondition 1 = false
    ∧ (after (stop 0) askedInWaveform).pair 5 = askedInWaveform.pair 5
    ∧ (after (stop 2) askedInWaveform).pair 5 = { group := some 1, idle := ⟨.low, .high⟩, pins := ⟨.low, .high⟩ }
    ∧ (after (.abort false (cmd 9 [(4, 1)])) askedInWaveform).pair 5
        = { group := some 1, idle := ⟨.low, .high⟩, pins := ⟨.low, .high⟩ } := by decide +kernel

/-- ABORT of G1. -/
def abort (discard : Nat) : Instr := .abort false (cmd 9 [(4, 1), (0x0B, discard)])

/-- G1 RUNNING, its record's request waiting behind the conversion of G3's. -/
def abortedAtWork : State :=
  { askedToStop .running (stopping .active) with
    groups := #v[{},
      { ring := ring 1 1 0 1, state := .running, window := [{ entry 0 .active block with triggered := 4, nextPos := 4 }] },
      {}, { ring := ring 1 1 0 1, state := .running, window := [{ entry 0 .active block with triggered := 1 }] }]
    converter := { state := .converting, current := some ⟨3, 0, 0, 7, 2⟩, step := 3 }
    captureQueue := [⟨1, 0, 4, 7, 2⟩] }

theorem witness_AbortRetiresTheWindow :
    (∀ s ∈ [askedToStop .running (stopping .active), askedToStop .tripped [gone], askedToStop .stopped [],
        askedToStop .armed [entry 0 .ready plain], abortedAtWork], lawful s ∧ CaptureLaw s ∧ OwnerLaw s)
    ∧ (((after (abort 0) (askedToStop .running (stopping .active))).group 1).window.map Entry.status
          = [some .aborted, some .aborted]
      ∧ ((after (abort 1) (askedToStop .running (stopping .active))).group 1).ring.fetch = 3
      ∧ ((after (abort 1) (askedToStop .stopped [])).group 1).ring.retire = 3
      ∧ ((after (abort 0) (askedToStop .tripped [gone])).group 1).state = .tripped)
    ∧ ((after (abort 0) abortedAtWork).captureQueue = []
      ∧ (after (abort 0) abortedAtWork).converter = abortedAtWork.converter
      ∧ (((after (abort 0) abortedAtWork).group 1).window.map fun e => e.flags.resultIncomplete) = [true])
    ∧ (status (after (abort 0) asked) = some .badState
      ∧ status (after (abort 2) (askedToStop .stopped [])) = some .badParam) := by
  refine ⟨?_, by decide +kernel, by decide +kernel, by decide +kernel⟩
  simp only [List.mem_cons, List.not_mem_nil, or_false, forall_eq_or_imp, forall_eq]
  exact ⟨⟨by decide +kernel, by decide +kernel, ownerLaw_of (by decide +kernel)⟩,
    ⟨by decide +kernel, by decide +kernel, ownerLaw_of (by decide +kernel)⟩,
    ⟨by decide +kernel, by decide +kernel, ownerLaw_of (by decide +kernel)⟩,
    ⟨by decide +kernel, by decide +kernel, ownerLaw_of (by decide +kernel)⟩,
    by decide +kernel, by decide +kernel, ownerLaw_of (by decide +kernel)⟩

/-- CLEAR_TRIP of TRIP0 with G1 TRIPPED and a pair bound to it, the filtered level as given. -/
def tripped (filtered : Bool) : State :=
  { askedOf .tripped [gone] with
    lines := #v[{ mask := 3, latch := true, filtered }, {}, {}, {}]
    pairs := #v[{ group := some 1, safe := ⟨.high, .low⟩, pins := ⟨.high, .low⟩ }, {}, {}, {}, {}, {}] }

theorem witness_ClearTripReleasesTheGroups :
    (Settled (tripped false) ∧ TripLaw (tripped false) ∧ Awaits (tripped false) .adminProcessor
      ∧ ((after (.clearTrip false (cmd 11)) (tripped false)).group 1).state = .stopped
      ∧ ((after (.clearTrip false (cmd 11)) (tripped false)).pair 0).pins = ⟨.low, .low⟩)
    ∧ status (after (.clearTrip false (cmd 11)) (tripped true)) = some .tripActive
    ∧ status (after (.clearTrip false (cmd 11 [(6, 1)])) (tripped true)) = some .ok
    ∧ status (after (.clearTrip false (cmd 11 [(6, 4)])) (tripped true)) = some .badParam := by decide +kernel

theorem witness_QueriesReportSnapshots :
    -- section 9.7, slot 2
    (Settled (askedOf .stopped [gone]) ∧ Awaits (askedOf .stopped [gone]) .adminProcessor
      ∧ opcodeOf (cmd 12 [(4, 1)]) = 0x0C
      ∧ value (after (.queryGroup false (cmd 12 [(4, 1)])) (askedOf .stopped [gone])) = 0x00010000_00000101
      ∧ status (after (.queryGroup false (cmd 12 [(4, 4)])) asked) = some .badParam
      ∧ status (after (.queryGroup false (cmd 12 [(8, 4)])) asked) = some .badParam)
    ∧ (value (after (.queryTokens false (cmd 12 [(8, 1)])) { asked with tokens := (Vector.replicate 16 0).set 3 255 })
        = 0xFF000000
      ∧ status (after (.queryTokens false (cmd 12 [(8, 1), (4, 1)])) asked) = some .badParam)
    ∧ (value (after (.queryTrips false (cmd 12 [(8, 2)])) { asked with lines := #v[{}, trip1 1 none, {}, {}] })
        = 0x4_00000004_05020100_00000004 ||| 0x00000004_00000000_00000000_00000000
      ∧ status (after (.queryTrips false (cmd 12 [(8, 2), (5, 1)])) asked) = some .badParam ∧ asked.rstn = .high)
    ∧ (value (after (.queryConverter false (cmd 12 [(8, 3)]))
          { asked with captureQueue := [request]
                       converter := { state := .converting, current := some request, done := 1 } })
        = 0x01_0003_00_04_01_01
      ∧ status (after (.queryConverter false (cmd 12 [(8, 3), (31, 1)])) asked) = some .badParam) := by decide +kernel

/-- R128: a sample tick that has latched TRIP1 by its end shows so, and its pairs' groups have tripped. -/
theorem test_query_trips_finishes_the_sample_tick :
    let t := after (.queryTrips false (cmd 12 [(8, 2)]))
      { askedOf .running [] with lines := #v[{}, { trip1 2 (some .low) with mask := 2 }, {}, {}] };
    value t = 0x4_00000004_02020003_00000004 ||| 0x00000004_00000000_00000000_00000000
      ∧ (t.group 1).state = .tripped ∧ t.evt = evtTrip := by decide +kernel

theorem witness_RefusedCommandsChangeNothing :
    (Settled asked ∧ Awaits asked .adminProcessor
      ∧ (Instr.setGroup false (cmd 3 [(4, 4)])).wellFormed = true
      ∧ answersTo (.setGroup false (cmd 3 [(4, 4)])) = some (false, .adminProcessor)
      ∧ adminVerdict (.setGroup false (cmd 3 [(4, 4)])) asked = some (cmd 3 [(4, 4)], .badParam))
    ∧ (byteOf (cmd 0 [(31, 1)]) 0 = 0 ∧ 12 < byteOf (cmd 13) 0
      ∧ status (after (.unknown false (cmd 0 [(31, 1)])) asked) = some .unknown
      ∧ status (after (.unknown false (cmd 0xFF)) asked) = some .unknown) := by decide +kernel

/-! ## What the table cannot spell -/

theorem test_ill_formed_commands_are_refused :
    (∀ i ∈ [Instr.bindRing false (cmd 2), .unbindRing false (cmd 1), .setGroup false (cmd 4), .setPair false (cmd 3),
        .setConverter false (cmd 6), .setTrip false (cmd 5), .start false (cmd 8), .stop false (cmd 7),
        .abort false (cmd 10), .setToken false (cmd 9), .clearTrip false (cmd 12)], i.wellFormed = false)
    ∧ (∀ i ∈ [Instr.queryGroup false (cmd 11), .queryGroup false (cmd 12 [(8, 1)]), .queryGroup false (cmd 12 [(8, 2)]),
        .queryGroup false (cmd 12 [(8, 3)]), .queryTokens false (cmd 12), .queryTrips false (cmd 12 [(8, 1)]),
        .queryConverter false (cmd 12 [(8, 2)]), .queryTokens false (cmd 11 [(8, 1)]), .unknown false (cmd 1),
        .unknown false (cmd 12)], i.wellFormed = false)
    ∧ (∀ i ∈ [Instr.registerWrite .ctrl false 1, .registerWrite .ctrl false 2, .registerWrite .evt false 0,
        .registerWrite .evtmask false 0, .registerWrite .post false 0x00050000, .registerWrite .admbaseLo false 0,
        .registerWrite .cplbaseHi false 0], i.wellFormed = false) := by decide +kernel

theorem test_well_formed_commands :
    ∀ i ∈ [Instr.bindRing false (cmd 1), .queryGroup false (cmd 12), .queryGroup false (cmd 12 [(8, 4)]),
      .queryTrips true (cmd 12 [(8, 2)]), .unknown false (cmd 0), .unknown false (cmd 13), .registerWrite .ctrl false 0,
      .registerWrite .post false 0x00060000, .registerWrite .evt true 0, .registerWrite .ringcfg false 0x402],
      i.wellFormed = true := by decide +kernel

/-- An ill-formed command changes nothing. -/
theorem test_ill_formed_command_has_no_effect : after (.bindRing false (cmd 2)) asked = asked := by decide +kernel

/-- No row of the table has bits. -/
theorem test_no_word_spells_a_command : decodeTableWord 0 0 = none ∧ up.withFetchWord 0 0 = up := by decide +kernel

end Sys2Proof.Machine.Tests
end

section
/-! PROOF. What a pair of a settled state shows (R58, Tables 3.5 and 3.6). -/

namespace Sys2Proof.Machine

/-! ## The output selection -/

/-- A pair of a settled state shows the levels of its selection (R58, R59). -/
theorem Settled.pins_eq_shown {s : State} (hs : Settled s) (p : PairId) :
    (s.pair p).pins = (s.pair p).shown (s.selection (s.pair p)) := by
  obtain ⟨-, hpairs, -⟩ := (settled_iff s).1 hs
  have hp := hpairs p
  rw [State.settledPair_eq] at hp
  generalize s.selection (s.pair p) = sel at hp ⊢
  conv_lhs => rw [← hp]
  cases sel with
  | idle => simp only [PairUnit.settleAs, PairUnit.shown]; split <;> rfl
  | safe => simp only [PairUnit.settleAs, PairUnit.shown]; split <;> rfl
  | waveform => rfl

/-- The waveform levels of a pair are those of Table 3.4 (R53). -/
theorem PairUnit.waveLevels_eq_waveformPins (u : PairUnit) : u.waveLevels = waveformPins u := by
  unfold PairUnit.waveLevels waveformPins
  cases u.mode with
  | comp => rfl
  | compInv => cases u.outP.delayed <;> cases u.outN.delayed <;> rfl
  | same => cases u.raw <;> rfl
  | pOnly => cases u.raw <;> rfl

section Selection

variable {s : State} {u : PairUnit} {g : GroupId}

/-! The lines of Table 3.5, in its order. -/

theorem State.selection_of_unbound (hu : u.group = none) : s.selection u = .idle := by
  simp [State.selection, hu]

theorem State.selection_of_halted (hu : u.group = some g) (hh : s.ctrl = .halted) :
    s.selection u = .safe := by
  simp [State.selection, hu, hh]

theorem State.selection_of_tripped (hu : u.group = some g) (ht : s.tripCondition g = true) :
    s.selection u = .safe := by
  simp [State.selection, hu, ht]

theorem State.selection_of_producing (hu : u.group = some g) (hh : s.ctrl ≠ .halted)
    (ht : s.tripCondition g = false) (hp : (s.group g).producing = true) : s.selection u = .waveform := by
  simp [State.selection, hu, hh, ht, hp]

theorem State.selection_of_not_producing (hu : u.group = some g) (hh : s.ctrl ≠ .halted)
    (ht : s.tripCondition g = false) (hp : (s.group g).producing = false) : s.selection u = .idle := by
  simp [State.selection, hu, hh, ht, hp]

end Selection

/-! ## When a group produces -/

theorem Group.producing_iff (x : Group) :
    x.producing = true ↔ x.hasActive = true ∧ (x.state = .running ∨ x.state = .stopping) := by
  simp [Group.producing]

/-- A group has an ACTIVE record exactly where it counts one. -/
theorem Group.hasActive_iff_activeCount_pos (x : Group) : x.hasActive = true ↔ 0 < x.activeCount := by
  simp [Group.hasActive, Group.activeCount, List.length_pos_iff_exists_mem]

/-- A RUNNING group that keeps the law of its ACTIVE record has one. -/
theorem Group.ActiveLaw.hasActive {x : Group} (h : x.ActiveLaw) (hr : x.state = .running) :
    x.hasActive = true := by
  obtain ⟨hone, -⟩ := h
  rw [Group.hasActive_iff_activeCount_pos, hone hr]
  exact Nat.one_pos

/-! ## O18 -/

/-- The pins of a pair whose group is neither halted nor tripped: the waveform of Table 3.4 while the group
produces, and the idle levels otherwise. -/
theorem Settled.pins_of_free {s : State} (hs : Settled s) {p : PairId} {g : GroupId}
    (hg : (s.pair p).group = some g) (hh : s.ctrl ≠ .halted) (ht : s.tripCondition g = false) :
    (s.pair p).pins =
      if (s.group g).producing = true then waveformPins (s.pair p) else (s.pair p).idle := by
  rw [hs.pins_eq_shown p]
  split
  · rename_i hp
    rw [State.selection_of_producing hg hh ht hp]
    exact PairUnit.waveLevels_eq_waveformPins _
  · rename_i hp
    rw [State.selection_of_not_producing hg hh ht (Bool.eq_false_of_not_eq_true hp)]
    rfl

/-- Settles O18: the lines of Table 3.5 one by one, and Table 3.6 by the group's state. -/
theorem pairsShowTheirSelection : Obligations.PairsShowTheirSelection := by
  unfold Obligations.PairsShowTheirSelection
  intro s p hs
  refine ⟨fun hu => ?_, fun g hg => ⟨fun hh => ?_, fun ht => ?_, fun hh ht => ?_, fun hlaw hr ht => ?_⟩⟩
  · rw [hs.pins_eq_shown, State.selection_of_unbound hu]; rfl
  · rw [hs.pins_eq_shown, State.selection_of_halted hg hh]; rfl
  · rw [hs.pins_eq_shown, State.selection_of_tripped hg ht]; rfl
  · simp only [hs.pins_of_free hg hh ht, Group.producing_iff]
  · have hh : s.ctrl ≠ .halted := by simp [hr]
    rw [hs.pins_of_free hg hh ht]
    cases hst : (s.group g).state with
    | running => simp [Group.producing_iff, hst, (hlaw g).hasActive hst]
    | stopping => simp [Group.producing_iff, hst]
    | unbound | stopped | armed | starved | faulted | tripped => simp [Group.producing_iff, hst]

end Sys2Proof.Machine
end

section
/-! PROOF. How the processing of an administrative command ends (R138, R151), and which
bytes of its slot may be set (R152). -/

namespace Sys2Proof.Machine

/-! ## How a command ends -/

section Ends

variable {s u : State} {cmd : Slot32} {status : AdminStatus} {value : BitVec 128}

/-- A command that is awaited is judged on the state that has received it. -/
theorem command_of_awaits (ha : Awaits s .adminProcessor) (verdict : AdminStatus) (f : State → State) :
    command false true cmd verdict value f s = .next
      (if verdict = .ok then (f s.received).report cmd .ok value
        else s.received.report cmd verdict 0).settle := by
  obtain ⟨hr, ho⟩ := ha
  simp [command, answer, happen, State.isRunning, hr, ho]

/-- A report after an effect that leaves the administrative processor and the bus port alone. -/
theorem reported_settle (hadmin : u.admin = s.admin) (hbus : u.bus = s.received.bus)
    (hlast : u.lastFetcher = s.lastFetcher) (hgrant : u.marks.grant = s.marks.grant) :
    Reported cmd status value s (u.report cmd status value).settle := by
  refine ⟨?_, ?_, ?_, ?_, hbus, hlast, hgrant⟩
  · simp only [State.settle_admin, State.report, hadmin]; rfl
  · simp only [State.settle_admin, State.report, hadmin]
  · simp only [State.settle_admin, State.report, hadmin]
  · simp only [State.settle_admin, State.settledAdmin, State.report]
    split
    · contradiction
    · split <;> decide

/-- Every part is as it was in the same state. -/
theorem Block.same_refl (s : State) (b : Block) : b.Same s s := by
  cases b with
  | resetPin | group _ | pairs | tokens | sets | captureQueue | groupTicks => rfl
  | converter => exact ⟨rfl, rfl⟩
  | events | tripUnit | admin | requests | port => exact ⟨rfl, rfl, rfl⟩
  | resultWriter => exact ⟨rfl, rfl, rfl, rfl, rfl⟩
  | completion => exact ⟨rfl, rfl, rfl, rfl, rfl, rfl⟩
  | registers => exact ⟨rfl, rfl, rfl, rfl, rfl, rfl, rfl, rfl⟩

/-- The parts that neither receiving and reporting a command nor settling touches are as the command's effect
leaves them. -/
theorem Block.Same.report_settle {b : Block} (h : b.Same s.received u)
    (hb : b ∉ [.pairs, .events, .admin, .requests, .port]) :
    b.Same s (u.report cmd status value).settle := by
  cases b with
  | pairs | events | admin | requests | port => simp at hb
  | resetPin | registers | group _ | tokens | sets | captureQueue | converter | resultWriter | tripUnit
  | completion | groupTicks => exact h

/-- A refused command changes nothing but what reports it (R151). -/
theorem refused_frame (hs : Settled s) :
    SameExcept [.admin, .requests, .port] s (s.received.report cmd status value).settle := by
  intro b hb
  by_cases hp : b = .pairs
  · exact hp ▸ same_settle_pairs hs ⟨rfl, rfl, fun _ => rfl⟩ rfl
  by_cases he : b = .events
  · exact he ▸ same_settle_events hs rfl rfl
  · exact (Block.same_refl _ b).report_settle (by simp_all)

/-- A command whose verdict is not OK is refused with it. -/
theorem refused_of_command {c : Instr} {verdict : AdminStatus} {f : State → State} (hs : Settled s)
    (ha : Awaits s .adminProcessor) (hc : exec c s = command false true cmd verdict value f s)
    (hv : verdict = status) (hne : status ≠ .ok) : Refused c cmd status s := by
  subst hv
  refine ⟨(s.received.report cmd verdict 0).settle, ?_,
    reported_settle (u := s.received) rfl rfl rfl rfl, refused_frame hs⟩
  rw [hc, command_of_awaits ha, if_neg hne]

end Ends

/-! ## The bytes of a slot -/

/-- The bits that a field of a slot takes. -/
theorem Cmd.getLsbD_field (off n j : Nat) :
    (Cmd.field off n).getLsbD j = true ↔ j < 256 ∧ 8 * off ≤ j ∧ j < 8 * (off + n) := by
  simp only [Cmd.field, BitVec.getLsbD_ofNat, Nat.testBit_mul_two_pow, Nat.testBit_two_pow_sub_one,
    Bool.and_eq_true, decide_eq_true_eq]
  omega

/-- Gathering masks keeps the bits of each. -/
theorem getLsbD_foldl_or {α : Type} {w : Nat} (m : α → BitVec w) (l : List α) (a : BitVec w) (j : Nat) :
    (l.foldl (fun a x => a ||| m x) a).getLsbD j = true ↔
      a.getLsbD j = true ∨ ∃ x ∈ l, (m x).getLsbD j = true := by
  induction l generalizing a with
  | nil => simp
  | cons x l ih => simp [ih, or_assoc]

/-- A bit of a slot is used where its byte is the opcode's, one of the tag's, or a field's. -/
theorem Cmd.getLsbD_used (fields : List (Nat × Nat)) (j : Nat) (hj : j < 256) :
    (Cmd.used fields).getLsbD j = true ↔
      j / 8 = 0 ∨ j / 8 = 2 ∨ j / 8 = 3 ∨ j / 8 ∈ fields.flatMap fun f => List.range' f.1 f.2 := by
  have hfield : ∀ off n, (Cmd.field off n).getLsbD j = true ↔ off ≤ j / 8 ∧ j / 8 < off + n := by
    intro off n
    rw [Cmd.getLsbD_field]
    omega
  rw [Cmd.used, getLsbD_foldl_or fun f : Nat × Nat => Cmd.field f.1 f.2]
  have hhead : (0 ≤ j / 8 ∧ j / 8 < 0 + 1) ∨ (2 ≤ j / 8 ∧ j / 8 < 2 + 2)
      ↔ j / 8 = 0 ∨ j / 8 = 2 ∨ j / 8 = 3 := by omega
  simp only [BitVec.getLsbD_or, Bool.or_eq_true, hfield, hhead, List.mem_flatMap, List.mem_range'_1, or_assoc]

/-- A byte of a slot is zero where its bits are clear. -/
theorem byteOf_eq_zero_iff (cmd : Slot32) (off : Nat) :
    byteOf cmd off = 0 ↔ ∀ j, j / 8 = off → cmd.getLsbD j = false := by
  rw [byteOf, ← BitVec.toNat_zero (w := 8), BitVec.toNat_inj]
  constructor
  · intro h j hj
    have hbit : (cmd.extractLsb' (8 * off) 8).getLsbD (j - 8 * off) = false := by simp [h]
    rw [BitVec.getLsbD_extractLsb'] at hbit
    have hlt : j - 8 * off < 8 := by omega
    have hle : 8 * off + (j - 8 * off) = j := by omega
    simpa [hlt, hle] using hbit
  · intro h
    refine BitVec.eq_of_getLsbD_eq fun i hi => ?_
    simp [h (8 * off + i) (by omega)]

/-- The reserved bytes of a command are zero exactly where its slot uses only the bytes of its fields (R152). -/
theorem Cmd.reservedClear_iff (fields : List (Nat × Nat)) (cmd : Slot32) :
    Cmd.reservedClear fields cmd = true ↔
      OnlyUses cmd (fields.flatMap fun f => List.range' f.1 f.2) := by
  have hbits : Cmd.reservedClear fields cmd = true ↔
      ∀ j < 256, (Cmd.used fields).getLsbD j = true ∨ cmd.getLsbD j = false := by
    rw [Cmd.reservedClear, beq_iff_eq]
    constructor
    · intro h j hj
      have hbit : (cmd &&& ~~~Cmd.used fields).getLsbD j = false := by simp [h]
      simp only [BitVec.getLsbD_and, BitVec.getLsbD_not, hj, decide_true, Bool.true_and] at hbit
      cases hu : (Cmd.used fields).getLsbD j <;> simp_all
    · intro h
      refine BitVec.eq_of_getLsbD_eq fun j hj => ?_
      rcases h j hj with hu | hc
      · simp [hu]
      · simp [hc]
  rw [hbits, OnlyUses]
  constructor
  · intro h i h0 h2 h3 hf
    refine (byteOf_eq_zero_iff cmd i).2 fun j hj => ?_
    have hlt : j < 256 := by have := i.isLt; omega
    refine (h j hlt).resolve_left fun hu => ?_
    rcases (Cmd.getLsbD_used fields j hlt).1 hu with h | h | h | h
    · exact h0 (hj ▸ h)
    · exact h2 (hj ▸ h)
    · exact h3 (hj ▸ h)
    · exact hf (hj ▸ h)
  · intro h j hj
    by_cases hu : (Cmd.used fields).getLsbD j = true
    · exact .inl hu
    · rw [Cmd.getLsbD_used fields j hj, not_or, not_or, not_or] at hu
      obtain ⟨h0, h2, h3, hf⟩ := hu
      exact .inr ((byteOf_eq_zero_iff cmd (j / 8)).1 (h ⟨j / 8, by omega⟩ h0 h2 h3 hf) j rfl)

end Sys2Proof.Machine
end

section
/-! PROOF. SET_PAIR's two steps of judging (R63) and the pair it leaves (R64). -/

namespace Sys2Proof.Machine

/-! ## The parameters (R63 step 1) -/

/-- The two level bytes from an offset are levels, and not both the active level of a complementary mode. -/
def LevelBytesLegal (cmd : Slot32) (off : Nat) : Prop :=
  byteOf cmd off ≤ 1 ∧ byteOf cmd (off + 1) ≤ 1
    ∧ ¬(byteOf cmd 8 = 0 ∧ byteOf cmd off = 1 ∧ byteOf cmd (off + 1) = 1)
    ∧ ¬(byteOf cmd 8 = 1 ∧ byteOf cmd off = 0 ∧ byteOf cmd (off + 1) = 0)

/-- SET_PAIR's parameters are in range (R57, R63, R152). -/
def SetPairParams (cmd : Slot32) : Prop :=
  byteOf cmd 5 < 6 ∧ (byteOf cmd 4 < 4 ∨ byteOf cmd 4 = 0xFF) ∧ byteOf cmd 8 ≤ 3
    ∧ numberOf cmd ≤ 63 ∧ LevelBytesLegal cmd 14 ∧ LevelBytesLegal cmd 16
    ∧ OnlyUses cmd [4, 5, 8, 12, 13, 14, 15, 16, 17]

/-- The level of a level byte. -/
def levelOfByte (n : Nat) : Level := if n = 0 then .low else .high

/-- The levels of the two level bytes from an offset. -/
def levelsAt (cmd : Slot32) (off : Nat) : Levels :=
  ⟨levelOfByte (byteOf cmd off), levelOfByte (byteOf cmd (off + 1))⟩

/-- The mode of a mode byte. -/
def modeOfByte : Nat → PairMode
  | 0 => .comp
  | 1 => .compInv
  | 2 => .same
  | _ => .pOnly

/-- The group a SET_PAIR names, or none. -/
def namedGroup (cmd : Slot32) : Option GroupId :=
  if byteOf cmd 4 = 0xFF then none else some (Fin.ofNat 4 (byteOf cmd 4))

/-- The configuration that a SET_PAIR with parameters in range spells. -/
def spelledConfig (cmd : Slot32) (p : PairId) : PairConfig where
  pair := p
  group := namedGroup cmd
  mode := modeOfByte (byteOf cmd 8)
  dead := numberOf cmd
  idle := levelsAt cmd 14
  safe := levelsAt cmd 16

theorem levelOfCode_eq : ∀ n, levelOfCode n = if n ≤ 1 then some (levelOfByte n) else none
  | 0 => rfl
  | 1 => rfl
  | n + 2 => by rw [if_neg (by omega)]; rfl

theorem levelsOfCodes_eq_some_iff (p n : Nat) (v : Levels) :
    levelsOfCodes p n = some v ↔ p ≤ 1 ∧ n ≤ 1 ∧ v = ⟨levelOfByte p, levelOfByte n⟩ := by
  rw [levelsOfCodes, levelOfCode_eq, levelOfCode_eq]
  by_cases hp : p ≤ 1
  · by_cases hn : n ≤ 1
    · simp [hp, hn, eq_comm]
    · simp [hp, hn]
  · simp [hp]

theorem pairModeOfCode_eq_some_iff (m : PairMode) : ∀ n, pairModeOfCode n = some m ↔ n ≤ 3 ∧ m = modeOfByte n
  | 0 | 1 | 2 | 3 => by simp [pairModeOfCode, modeOfByte, eq_comm]
  | n + 4 => by simp [pairModeOfCode]

theorem pairOfCode_eq_some_iff (n : Nat) (p : PairId) : pairOfCode n = some p ↔ n = p := by
  have := p.isLt
  by_cases hn : n < 6
  · simp [pairOfCode, hn, Fin.ext_iff]
  · have hne : n ≠ p := by omega
    simp [pairOfCode, hn, hne]

theorem pairGroupOfCode_eq_some_iff (n : Nat) (x : Option GroupId) :
    pairGroupOfCode n = some x ↔
      (n < 4 ∨ n = 0xFF) ∧ x = if n = 0xFF then none else some (Fin.ofNat 4 n) := by
  by_cases hnone : n = 0xFF
  · simp [pairGroupOfCode, hnone, eq_comm]
  · by_cases hn : n < 4
    · have hofNat : (⟨n, hn⟩ : GroupId) = Fin.ofNat 4 n := Fin.ext (Nat.mod_eq_of_lt hn).symm
      simp [pairGroupOfCode, groupOfCode, hnone, hn, hofNat, eq_comm]
    · simp [pairGroupOfCode, groupOfCode, hnone, hn]

/-- Which level bytes a mode byte allows (R57). -/
theorem legal_modeOfByte_iff {m a b : Nat} (ha : a ≤ 1) (hb : b ≤ 1) :
    Levels.legal (modeOfByte m) ⟨levelOfByte a, levelOfByte b⟩ = true ↔
      ¬(m = 0 ∧ a = 1 ∧ b = 1) ∧ ¬(m = 1 ∧ a = 0 ∧ b = 0) := by
  have ha : a = 0 ∨ a = 1 := by omega
  have hb : b = 0 ∨ b = 1 := by omega
  match m with
  | 0 | 1 | 2 =>
    rcases ha with rfl | rfl <;> rcases hb with rfl | rfl <;>
      simp [modeOfByte, Levels.legal, PairMode.activeLevel, levelOfByte]
  | m + 3 => simp [modeOfByte, Levels.legal]

/-- The level bytes from an offset are accepted with the mode byte. -/
theorem levelBytesLegal_iff (cmd : Slot32) (off : Nat) :
    LevelBytesLegal cmd off ↔ byteOf cmd off ≤ 1 ∧ byteOf cmd (off + 1) ≤ 1
      ∧ (levelsAt cmd off).legal (modeOfByte (byteOf cmd 8)) = true := by
  refine and_congr_right fun hp => and_congr_right fun hn => ?_
  exact (legal_modeOfByte_iff hp hn).symm

/-- SET_PAIR's parameters are accepted exactly where they are in range, as the configuration they spell. -/
theorem setPairConfig_eq_some_iff (cmd : Slot32) (c : PairConfig) :
    setPairConfig cmd = some c ↔ SetPairParams cmd ∧ byteOf cmd 5 = c.pair ∧ c = spelledConfig cmd c.pair := by
  have hclear : Cmd.reservedClear Cmd.usedSetPair cmd = true ↔ OnlyUses cmd [4, 5, 8, 12, 13, 14, 15, 16, 17] :=
    Cmd.reservedClear_iff _ _
  rw [SetPairParams, levelBytesLegal_iff, levelBytesLegal_iff, ← hclear]
  constructor
  · intro h
    unfold setPairConfig at h
    split at h
    next pair group mode idle safe hpair hgroup hmode hidle hsafe =>
      have hpair : byteOf cmd 5 = pair := (pairOfCode_eq_some_iff _ _).1 hpair
      obtain ⟨groupInRange, rfl⟩ := (pairGroupOfCode_eq_some_iff _ _).1 hgroup
      obtain ⟨modeInRange, rfl⟩ := (pairModeOfCode_eq_some_iff _ _).1 hmode
      obtain ⟨hidleP, hidleN, rfl⟩ := (levelsOfCodes_eq_some_iff _ _ _).1 hidle
      obtain ⟨hsafeP, hsafeN, rfl⟩ := (levelsOfCodes_eq_some_iff _ _ _).1 hsafe
      split at h
      next hrest =>
        simp only [Bool.and_eq_true, decide_eq_true_eq] at hrest
        obtain ⟨⟨⟨hdead, hidle⟩, hsafe⟩, hused⟩ := hrest
        obtain rfl := Option.some.inj h
        exact ⟨⟨hpair ▸ pair.isLt, groupInRange, modeInRange, hdead, ⟨hidleP, hidleN, hidle⟩,
          ⟨hsafeP, hsafeN, hsafe⟩, hused⟩, hpair, rfl⟩
      next => cases h
    next => cases h
  · rintro ⟨⟨-, hgroup, hmode, hdead, ⟨hidleP, hidleN, hidle⟩, ⟨hsafeP, hsafeN, hsafe⟩, hused⟩,
      hpair, hc⟩
    have hpair : pairOfCode (Cmd.pair cmd) = some c.pair := (pairOfCode_eq_some_iff _ _).2 hpair
    have hgroup : pairGroupOfCode (Cmd.group cmd) = some (namedGroup cmd) :=
      (pairGroupOfCode_eq_some_iff _ _).2 ⟨hgroup, rfl⟩
    have hmode : pairModeOfCode (Cmd.mode cmd) = some (modeOfByte (byteOf cmd 8)) :=
      (pairModeOfCode_eq_some_iff _ _).2 ⟨hmode, rfl⟩
    have hidles : levelsOfCodes (Cmd.idleP cmd) (Cmd.idleN cmd) = some (levelsAt cmd 14) :=
      (levelsOfCodes_eq_some_iff _ _ _).2 ⟨hidleP, hidleN, rfl⟩
    have hsafes : levelsOfCodes (Cmd.safeP cmd) (Cmd.safeN cmd) = some (levelsAt cmd 16) :=
      (levelsOfCodes_eq_some_iff _ _ _).2 ⟨hsafeP, hsafeN, rfl⟩
    have hdead : Cmd.number cmd ≤ 63 := hdead
    rw [setPairConfig, hpair, hgroup, hmode, hidles, hsafes]
    exact (if_pos (by simp [hdead, hidle, hsafe, hused])).trans (congrArg some hc.symm)

theorem setPairConfig_of_params {cmd : Slot32} {p : PairId} (h : SetPairParams cmd) (hp : byteOf cmd 5 = p) :
    setPairConfig cmd = some (spelledConfig cmd p) :=
  (setPairConfig_eq_some_iff _ _).2 ⟨h, hp, rfl⟩

theorem setPairConfig_of_not_params {cmd : Slot32} (h : ¬SetPairParams cmd) : setPairConfig cmd = none :=
  Option.eq_none_iff_forall_ne_some.2 fun c hc => h ((setPairConfig_eq_some_iff _ c).1 hc).1

/-! ## The state checks (R63 step 2) -/

theorem Group.isQuiet_iff (x : Group) : x.isQuiet = true ↔ x.state = .unbound ∨ x.state = .stopped := by
  simp [Group.isQuiet]

theorem Group.producing_of_quiet {x : Group} (h : x.state = .unbound ∨ x.state = .stopped) :
    x.producing = false := by
  rcases h with h | h <;> simp [Group.producing, h]

/-- A SET_PAIR concerns the pair's present group and the named one. -/
def Concerns (s : State) (cmd : Slot32) (p : PairId) (g : GroupId) : Prop :=
  (s.pair p).group = some g ∨ namedGroup cmd = some g

section Verdict

variable {s : State} {cmd : Slot32} {p : PairId}

theorem any_pairGroups_iff (f : Group → Bool) :
    (s.pairGroups (spelledConfig cmd p)).any f = true ↔ ∃ g, Concerns s cmd p g ∧ f (s.group g) = true := by
  simp [State.pairGroups, Concerns, spelledConfig, or_and_right, exists_or]

theorem setPairVerdict_of_not_params (h : ¬SetPairParams cmd) : setPairVerdict cmd s = .badParam := by
  rw [setPairVerdict, setPairConfig_of_not_params h]

/-- With parameters in range, the groups concerned are checked to be UNBOUND or STOPPED, and then to have let go of
their records. -/
theorem setPairVerdict_of_config (h : setPairConfig cmd = some (spelledConfig cmd p)) :
    setPairVerdict cmd s =
      if (s.pairGroups (spelledConfig cmd p)).any fun x => !x.isQuiet then .badState
      else if (s.pairGroups (spelledConfig cmd p)).any fun x => x.state == .stopped && !x.window.isEmpty then .busy
      else .ok := by
  rw [setPairVerdict, h]

/-- BAD_STATE where a group concerned is neither UNBOUND nor STOPPED. -/
theorem setPairVerdict_badState (h : setPairConfig cmd = some (spelledConfig cmd p))
    (hg : ∃ g, Concerns s cmd p g ∧ (s.group g).state ≠ .unbound ∧ (s.group g).state ≠ .stopped) :
    setPairVerdict cmd s = .badState := by
  obtain ⟨g, hc, hu, hs⟩ := hg
  rw [setPairVerdict_of_config h, if_pos]
  exact (any_pairGroups_iff _).2 ⟨g, hc, by simp [Group.isQuiet, hu, hs]⟩

theorem not_any_not_quiet
    (hq : ∀ g, Concerns s cmd p g → (s.group g).state = .unbound ∨ (s.group g).state = .stopped) :
    ¬((s.pairGroups (spelledConfig cmd p)).any fun x => !x.isQuiet) = true := by
  rw [any_pairGroups_iff]
  rintro ⟨g, hc, hn⟩
  simp [(Group.isQuiet_iff _).2 (hq g hc)] at hn

/-- Then BUSY where a STOPPED group concerned still has records in its window. -/
theorem setPairVerdict_busy (h : setPairConfig cmd = some (spelledConfig cmd p))
    (hq : ∀ g, Concerns s cmd p g → (s.group g).state = .unbound ∨ (s.group g).state = .stopped)
    (hg : ∃ g, Concerns s cmd p g ∧ (s.group g).state = .stopped ∧ (s.group g).window ≠ []) :
    setPairVerdict cmd s = .busy := by
  obtain ⟨g, hc, hs, hw⟩ := hg
  rw [setPairVerdict_of_config h, if_neg (not_any_not_quiet hq), if_pos]
  exact (any_pairGroups_iff _).2 ⟨g, hc, by simp [hs, hw]⟩

theorem setPairVerdict_ok (h : setPairConfig cmd = some (spelledConfig cmd p))
    (hq : ∀ g, Concerns s cmd p g →
      (s.group g).state = .unbound ∨ ((s.group g).state = .stopped ∧ (s.group g).window = [])) :
    setPairVerdict cmd s = .ok := by
  rw [setPairVerdict_of_config h, if_neg (not_any_not_quiet fun g hc => (hq g hc).imp_right And.left), if_neg]
  rw [any_pairGroups_iff]
  rintro ⟨g, hc, hn⟩
  simp only [Bool.and_eq_true, beq_iff_eq, Bool.not_eq_true', List.isEmpty_eq_false_iff] at hn
  obtain ⟨hstopped, hne⟩ := hn
  rcases hq g hc with hu | ⟨-, hempty⟩
  · rw [hu] at hstopped; cases hstopped
  · exact hne hempty

end Verdict

/-! ## The pair that an accepted SET_PAIR leaves (R64) -/

/-- A configured pair unit has nothing left to clear: settling it only places its pins. -/
theorem settledPair_configure (s : State) (c : PairConfig) (u : PairUnit) :
    s.settledPair (u.configure c) =
      { u.configure c with pins := (u.configure c).shown (s.selection (u.configure c)) } := by
  rw [State.settledPair_eq]
  generalize s.selection (u.configure c) = sel
  cases sel <;> cases (s.ctrl == .halted) <;> rfl

/-- A configured pair unit shows its new idle levels or, under a trip condition of its new group, its new safe levels
(R64): its new group produces nothing. -/
theorem shown_configure {s : State} {c : PairConfig} (u : PairUnit) (hh : s.ctrl ≠ .halted)
    (hq : ∀ g, c.group = some g → (s.group g).producing = false) :
    (u.configure c).shown (s.selection (u.configure c)) =
      if ∃ g, c.group = some g ∧ s.tripCondition g = true then c.safe else c.idle := by
  cases hg : c.group with
  | none =>
    rw [State.selection_of_unbound (u := u.configure c) hg]
    simp [PairUnit.shown, PairUnit.configure]
  | some g =>
    have hgroup : (u.configure c).group = some g := hg
    cases ht : s.tripCondition g with
    | true =>
      rw [State.selection_of_tripped hgroup ht]
      simp [ht, PairUnit.shown, PairUnit.configure]
    | false =>
      rw [State.selection_of_not_producing hgroup hh ht (hq g hg)]
      simp [ht, PairUnit.shown, PairUnit.configure]

section Effect

variable {s : State} {cmd : Slot32} {p : PairId}

/-- The state in which an accepted SET_PAIR ends. -/
def afterSetPair (s : State) (cmd : Slot32) : State := ((setPairEffect cmd s.received).report cmd .ok 0).settle

/-- SET_PAIR changes nothing that a selection reads but the pair's own configuration. -/
theorem sameSelection_setPairEffect (s : State) (cmd : Slot32) :
    SameSelection s ((setPairEffect cmd s.received).report cmd .ok 0) := by
  unfold setPairEffect
  split <;> exact ⟨rfl, rfl, fun _ => rfl⟩

theorem setPairEffect_of_config (h : setPairConfig cmd = some (spelledConfig cmd p)) :
    setPairEffect cmd s.received = s.received.setPair p ((s.pair p).configure (spelledConfig cmd p)) := by
  rw [setPairEffect, h]; rfl

/-- The pair units of `afterSetPair`: the named one is configured, and the selection of each is made anew. -/
theorem afterSetPair_pair (h : setPairConfig cmd = some (spelledConfig cmd p)) (q : PairId) :
    (afterSetPair s cmd).pair q =
      s.settledPair (if q = p then (s.pair p).configure (spelledConfig cmd p) else s.pair q) := by
  rw [afterSetPair, State.settle_pair, (sameSelection_setPairEffect s cmd).settledPair]
  congr 1
  rw [setPairEffect_of_config h]
  exact State.pair_setPair _ _ _ _

theorem afterSetPair_pair_ne (hs : Settled s) (h : setPairConfig cmd = some (spelledConfig cmd p)) {q : PairId}
    (hq : q ≠ p) : (afterSetPair s cmd).pair q = s.pair q := by
  rw [afterSetPair_pair h, if_neg hq]
  exact ((settled_iff s).1 hs).2.1 q

/-- Writing a pair unit leaves every other part as it was. -/
theorem Block.same_setPair (s : State) (p : PairId) (x : PairUnit) {b : Block} (hb : b ≠ .pairs) :
    b.Same s (s.setPair p x) := by
  have hsame := Block.same_refl s b
  cases b with
  | pairs => exact absurd rfl hb
  | resetPin | registers | events | group _ | tokens | sets | captureQueue | converter | resultWriter | tripUnit
  | admin | completion | requests | port | groupTicks => exact hsame

/-- SET_PAIR touches the pair units and what reports it, and nothing else. -/
theorem afterSetPair_frame (hs : Settled s) (h : setPairConfig cmd = some (spelledConfig cmd p)) :
    SameExcept [.pairs, .admin, .requests, .port] s (afterSetPair s cmd) := by
  intro b hb
  rw [afterSetPair, setPairEffect_of_config h]
  by_cases he : b = .events
  · exact he ▸ same_settle_events hs rfl rfl
  · exact (Block.same_setPair _ p _ (by simp_all)).report_settle (by simp_all)

/-- The entry that reports an accepted SET_PAIR. -/
theorem afterSetPair_reported (h : setPairConfig cmd = some (spelledConfig cmd p)) :
    Reported cmd .ok 0 s (afterSetPair s cmd) := by
  rw [afterSetPair, setPairEffect_of_config h]
  exact reported_settle rfl rfl rfl rfl

end Effect

/-! ## O53 -/

/-- The slot of SET_PAIR is judged by `setPairVerdict`, and takes its effect where that is OK. -/
theorem exec_setPair {cmd : Slot32} (ho : opcodeOf cmd = 0x04) (s : State) :
    exec (.setPair false cmd) s =
      command false true cmd (setPairVerdict cmd s) 0 (setPairEffect cmd) s := by
  have hrow : (Cmd.opcode cmd == 0x04) = true := beq_iff_eq.2 ho
  rw [← hrow]; rfl

/-- An accepted SET_PAIR ends in `afterSetPair`. -/
theorem exec_setPair_ok {s : State} {cmd : Slot32} (ha : Awaits s .adminProcessor) (ho : opcodeOf cmd = 0x04)
    (hv : setPairVerdict cmd s = .ok) : exec (.setPair false cmd) s = .next (afterSetPair s cmd) := by
  rw [exec_setPair ho, command_of_awaits ha, if_pos hv]; rfl

/-- Settles O53: the verdict of each step of R63, and the pair that R64 leaves. -/
theorem setPairConfiguresThePair : Obligations.SetPairConfiguresThePair := by
  unfold Obligations.SetPairConfiguresThePair
  intro s cmd hs ha ho
  have refused : ∀ {status}, setPairVerdict cmd s = status → status ≠ .ok →
      Refused (.setPair false cmd) cmd status s :=
    refused_of_command hs ha (exec_setPair ho s)
  refine ⟨fun hparams => refused (setPairVerdict_of_not_params hparams) (by decide), fun hparams p hp => ?_⟩
  have hconfig : setPairConfig cmd = some (spelledConfig cmd p) := setPairConfig_of_params hparams hp
  refine ⟨fun hg => refused (setPairVerdict_badState hconfig hg) (by decide),
    fun hq hg => refused (setPairVerdict_busy hconfig hq hg) (by decide), fun hq => ?_⟩
  have hquiet : ∀ g, (spelledConfig cmd p).group = some g → (s.group g).producing = false := fun g hg =>
    Group.producing_of_quiet ((hq g (.inr hg)).imp_right And.left)
  have hh : s.ctrl ≠ .halted := by simp [ha.1]
  refine ⟨afterSetPair s cmd, exec_setPair_ok ha ho (setPairVerdict_ok hconfig hq), ?_,
    fun q hne => afterSetPair_pair_ne hs hconfig hne, afterSetPair_reported hconfig, afterSetPair_frame hs hconfig⟩
  rw [afterSetPair_pair hconfig, if_pos rfl, settledPair_configure, shown_configure _ hh hquiet]
  rfl

end Sys2Proof.Machine
end

section
/-! PROOF. START's five checks in their order (R73), and the set it creates with its members ARMED (R74). -/

namespace Sys2Proof.Machine

/-! ## The mask -/

/-- START's mask names the group. -/
abbrev StartNames (cmd : Slot32) (g : GroupId) : Prop := (cmd.extractLsb' 80 8).getLsbD g = true

theorem mem_maskGroups (m : Byte) (g : GroupId) : g ∈ maskGroups m ↔ m.getLsbD g = true := by
  have hall : g ∈ allGroups := by revert g; decide
  simp [maskGroups, hall]

theorem maskGroups_nodup (m : Byte) : (maskGroups m).Nodup := List.Nodup.filter _ (by decide)

theorem any_maskGroups_iff (cmd : Slot32) (f : GroupId → Bool) :
    (maskGroups (Cmd.mask cmd)).any f = true ↔ ∃ g, StartNames cmd g ∧ f g = true := by
  simp only [List.any_eq_true, mem_maskGroups]
  exact Iff.rfl

/-- A mask byte names some group and no group above 3 exactly where it lies in 1..15. -/
theorem maskLegal_and_names_iff (m : Byte) :
    (maskLegal m && !(maskGroups m).isEmpty) = true ↔ 0 < m.toNat ∧ m.toNat < 16 := by
  revert m; decide

/-- The low four bits of the mask byte, as they stand in the slot. -/
theorem Cmd.mask_members (cmd : Slot32) : (Cmd.mask cmd).extractLsb' 0 4 = cmd.extractLsb' 80 4 := by
  refine BitVec.eq_of_getLsbD_eq fun i hi => ?_
  have hbyte : i < 8 := by omega
  simp [Cmd.mask, Cmd.byteAt, hi, hbyte]

/-! ## The verdict (R73) -/

section Verdict

variable {s : State} {cmd : Slot32}

/-- START's parameters are in range (R73, R152). -/
def StartParams (cmd : Slot32) : Prop := 0 < byteOf cmd 10 ∧ byteOf cmd 10 < 16 ∧ OnlyUses cmd [10]

theorem startParams_iff (cmd : Slot32) :
    (maskLegal (Cmd.mask cmd) && !(maskGroups (Cmd.mask cmd)).isEmpty && Cmd.reservedClear Cmd.usedStart cmd) = true ↔
      StartParams cmd := by
  have hmask := maskLegal_and_names_iff (Cmd.mask cmd)
  have hclear : Cmd.reservedClear Cmd.usedStart cmd = true ↔ OnlyUses cmd [10] := Cmd.reservedClear_iff _ _
  rw [Bool.and_eq_true, hmask, hclear, and_assoc]
  exact Iff.rfl

theorem startVerdict_of_not_params (h : ¬StartParams cmd) : startVerdict cmd s = .badParam :=
  if_neg (mt (startParams_iff cmd).1 h)

/-- With parameters in range, the state checks follow in their order. -/
theorem startVerdict_of_params (h : StartParams cmd) :
    startVerdict cmd s =
      if 4 ≤ s.sets.length then .busy
      else if ∃ g, StartNames cmd g ∧ s.tripCondition g = true then .tripLatched
      else if ∃ g, StartNames cmd g ∧ (s.group g).state ≠ .stopped then .badState
      else if ∃ g, StartNames cmd g ∧ (s.group g).window ≠ [] then .busy
      else .ok := by
  have hjudge : startVerdict cmd s = _ := if_pos ((startParams_iff cmd).2 h)
  rw [hjudge]
  simp only [any_maskGroups_iff, bne_iff_ne, Bool.not_eq_true', List.isEmpty_eq_false_iff]

end Verdict

/-! ## The groups after a change of several -/

/-- Changing groups one after another changes nothing but the groups. -/
theorem foldl_modGroup_eq (f : Group → Group) (l : List GroupId) (s : State) :
    l.foldl (fun t g => t.modGroup g f) s =
      { s with groups := (l.foldl (fun t g => t.modGroup g f) s).groups } := by
  induction l generalizing s with
  | nil => rfl
  | cons g l ih => rw [List.foldl_cons, ih]; rfl

/-- Changing distinct groups changes each of them once, and no other. -/
theorem group_foldl_modGroup (f : Group → Group) {l : List GroupId} (hl : l.Nodup) (s : State) (m : GroupId) :
    (l.foldl (fun t g => t.modGroup g f) s).group m = if m ∈ l then f (s.group m) else s.group m := by
  induction l generalizing s with
  | nil => rfl
  | cons g l ih =>
    obtain ⟨hg, hl⟩ := List.nodup_cons.1 hl
    rw [List.foldl_cons, ih hl, State.group_modGroup]
    by_cases hm : m = g
    · subst hm; simp [hg]
    · simp [hm]

/-! ## The state that an accepted START leaves (R74) -/

/-- Beside the groups, START changes the pending sets alone: a record of its members joins them. -/
theorem startEffect_eq (cmd : Slot32) (s : State) :
    startEffect cmd s =
      { s with
        sets := s.sets ++ [{ members := cmd.extractLsb' 80 4, asked := false }]
        groups := (startEffect cmd s).groups } := by
  rw [← Cmd.mask_members]
  exact foldl_modGroup_eq _ _ _

/-- A named group enters ARMED, and no other group changes. -/
theorem startEffect_group (cmd : Slot32) (s : State) (g : GroupId) :
    (startEffect cmd s).group g =
      if StartNames cmd g then { s.group g with state := .armed } else s.group g := by
  rw [startEffect, group_foldl_modGroup _ (maskGroups_nodup _)]
  simp only [mem_maskGroups]
  rfl

theorem Group.producing_of_armed {x : Group} (h : x.state = .armed) : x.producing = false := by
  simp [Group.producing, h]

section Effect

variable {s : State} {cmd : Slot32}

/-- The state in which an accepted START ends. -/
def afterStart (s : State) (cmd : Slot32) : State := ((startEffect cmd s.received).report cmd .ok 0).settle

theorem afterStart_sets :
    (afterStart s cmd).sets = s.sets ++ [{ members := cmd.extractLsb' 80 4, asked := false }] := by
  rw [afterStart, startEffect_eq]; rfl

theorem afterStart_group (g : GroupId) :
    (afterStart s cmd).group g =
      if StartNames cmd g then { s.group g with state := .armed } else s.group g :=
  startEffect_group cmd s.received g

theorem afterStart_reported : Reported cmd .ok 0 s (afterStart s cmd) := by
  rw [afterStart, startEffect_eq]
  exact reported_settle rfl rfl rfl rfl

/-- Neither a STOPPED group nor an ARMED one produces, so no selection changes. -/
theorem sameSelection_start (h : ∀ g, StartNames cmd g → (s.group g).state = .stopped) :
    SameSelection s ((startEffect cmd s.received).report cmd .ok 0) where
  ctrl := by rw [startEffect_eq]; rfl
  lines := by rw [startEffect_eq]; rfl
  producing g := by
    have hgroup : ((startEffect cmd s.received).report cmd .ok 0).group g = _ := startEffect_group cmd s.received g
    rw [hgroup]
    split
    next hn => rw [Group.producing_of_armed rfl, Group.producing_of_quiet (.inr (h g hn))]
    next => rfl

theorem group_mem_everyGroup (g : GroupId) : Block.group g ∈ everyGroup := by revert g; decide

/-- START touches the groups, the pending sets and what reports it, and nothing else. -/
theorem afterStart_frame (hs : Settled s) (h : ∀ g, StartNames cmd g → (s.group g).state = .stopped) :
    SameExcept (everyGroup ++ [.sets, .admin, .requests, .port]) s (afterStart s cmd) := by
  intro b hb
  have hsel := sameSelection_start h
  rw [startEffect_eq] at hsel
  rw [afterStart, startEffect_eq]
  have hsame := Block.same_refl s b
  cases b with
  | group g => exact absurd (List.mem_append_left _ (group_mem_everyGroup g)) hb
  | sets | admin | requests | port => simp at hb
  | pairs => exact same_settle_pairs hs hsel rfl
  | events => exact same_settle_events hs rfl rfl
  | resetPin | registers | tokens | captureQueue | converter | resultWriter | tripUnit | completion | groupTicks =>
    exact hsame

end Effect

/-! ## O55 -/

/-- The slot of START is judged by `startVerdict`, and takes its effect where that is OK. -/
theorem exec_start {cmd : Slot32} (ho : opcodeOf cmd = 0x07) (s : State) :
    exec (.start false cmd) s = command false true cmd (startVerdict cmd s) 0 (startEffect cmd) s := by
  have hrow : (Cmd.opcode cmd == 0x07) = true := beq_iff_eq.2 ho
  rw [← hrow]; rfl

/-- An accepted START ends in `afterStart`. -/
theorem exec_start_ok {s : State} {cmd : Slot32} (ha : Awaits s .adminProcessor) (ho : opcodeOf cmd = 0x07)
    (hv : startVerdict cmd s = .ok) : exec (.start false cmd) s = .next (afterStart s cmd) := by
  rw [exec_start ho, command_of_awaits ha, if_pos hv]; rfl

/-- Settles O55: the verdict of each check of R73, and the set and the members that R74 leaves. -/
theorem startCreatesASet : Obligations.StartCreatesASet := by
  unfold Obligations.StartCreatesASet
  intro s cmd hs ha ho
  have refused : ∀ {status}, startVerdict cmd s = status → status ≠ .ok →
      Refused (.start false cmd) cmd status s :=
    refused_of_command hs ha (exec_start ho s)
  refine ⟨fun hparams => refused (startVerdict_of_not_params hparams) (by decide),
    fun hparams hfull => refused ?_ (by decide),
    fun hparams hroom htrip => refused ?_ (by decide), fun hparams hroom hclear => ?_⟩
  · rw [startVerdict_of_params hparams, if_pos hfull]
  · rw [startVerdict_of_params hparams, if_neg (by omega), if_pos htrip]
  have hverdict := startVerdict_of_params (s := s) hparams
  rw [if_neg (by omega), if_neg (by rintro ⟨g, hn, ht⟩; simp [hclear g hn] at ht)] at hverdict
  refine ⟨fun hstate => refused ?_ (by decide), fun hstopped hwindow => refused ?_ (by decide), fun hready => ?_⟩
  · rw [hverdict, if_pos hstate]
  · rw [hverdict, if_neg (by rintro ⟨g, hn, hne⟩; exact hne (hstopped g hn)), if_pos hwindow]
  · have hok : startVerdict cmd s = .ok := by
      rw [hverdict, if_neg (by rintro ⟨g, hn, hne⟩; exact hne (hready g hn).1),
        if_neg (by rintro ⟨g, hn, hne⟩; exact hne (hready g hn).2)]
    exact ⟨afterStart s cmd, exec_start_ok ha ho hok, afterStart_sets,
      fun g hn => (afterStart_group g).trans (if_pos hn), fun g hn => (afterStart_group g).trans (if_neg hn),
      afterStart_reported, afterStart_frame hs fun g hn => (hready g hn).1⟩

end Sys2Proof.Machine
end

section
/-! PROOF. CLEAR_TRIP's verdict (R161), the groups it releases and the pairs that follow (R126). -/

namespace Sys2Proof.Machine

/-! ## The verdict (R161) -/

/-- CLEAR_TRIP's parameters are in range (R152, R161). -/
def ClearTripParams (cmd : Slot32) : Prop := byteOf cmd 6 < 4 ∧ OnlyUses cmd [6]

theorem lineOfCode_eq_some_iff (n : Nat) (l : LineId) : lineOfCode n = some l ↔ n = l := by
  have := l.isLt
  by_cases hn : n < 4
  · simp [lineOfCode, hn, Fin.ext_iff]
  · have hne : n ≠ l := by omega
    simp [lineOfCode, hn, hne]

section Verdict

variable {s : State} {cmd : Slot32} {l : LineId}

/-- A slot that names a line is judged by its reserved bytes, and then by the line's filtered level. -/
theorem clearTripVerdict_of_line (hl : byteOf cmd 6 = l) :
    clearTripVerdict cmd s =
      judge (Cmd.reservedClear Cmd.usedClearTrip cmd) (if (s.line l).filtered then .tripActive else .ok) := by
  have hline : lineOfCode (Cmd.line cmd) = some l := (lineOfCode_eq_some_iff _ _).2 hl
  rw [clearTripVerdict, hline]

theorem reservedClear_clearTrip_iff (cmd : Slot32) :
    Cmd.reservedClear Cmd.usedClearTrip cmd = true ↔ OnlyUses cmd [6] := Cmd.reservedClear_iff _ _

theorem clearTripVerdict_of_params (h : ClearTripParams cmd) (hl : byteOf cmd 6 = l) :
    clearTripVerdict cmd s = if (s.line l).filtered then .tripActive else .ok := by
  rw [clearTripVerdict_of_line hl, judge, if_pos ((reservedClear_clearTrip_iff cmd).2 h.2)]

theorem clearTripVerdict_of_not_params (h : ¬ClearTripParams cmd) : clearTripVerdict cmd s = .badParam := by
  by_cases hlt : byteOf cmd 6 < 4
  · have hused : ¬OnlyUses cmd [6] := fun hused => h ⟨hlt, hused⟩
    rw [clearTripVerdict_of_line (l := ⟨byteOf cmd 6, hlt⟩) rfl, judge,
      if_neg (mt (reservedClear_clearTrip_iff cmd).1 hused)]
  · have hline : lineOfCode (Cmd.line cmd) = none := dif_neg hlt
    rw [clearTripVerdict, hline]

end Verdict

/-! ## The latch and the trip conditions -/

/-- The state with the latch of a line cleared. -/
def State.unlatch (l : LineId) (s : State) : State := s.setLine l { s.line l with latch := false }

theorem State.line_unlatch (s : State) (l m : LineId) :
    (s.unlatch l).line m = if m = l then { s.line l with latch := false } else s.line m :=
  s.line_setLine l m _

theorem State.tripCondition_iff (s : State) (g : GroupId) :
    s.tripCondition g = true ↔ ∃ l, (s.line l).latch = true ∧ (s.line l).mask.getLsbD g = true := by
  have hall : ∀ l : LineId, l ∈ allLines := by decide
  simp [State.tripCondition, hall]

/-- Clearing a latch makes no trip condition true. -/
theorem State.tripCondition_of_unlatch {s : State} {l : LineId} {g : GroupId}
    (h : (s.unlatch l).tripCondition g = true) : s.tripCondition g = true := by
  obtain ⟨m, hlatch, hmask⟩ := ((s.unlatch l).tripCondition_iff g).1 h
  rw [State.line_unlatch] at hlatch hmask
  by_cases hm : m = l
  · simp [hm] at hlatch
  · rw [if_neg hm] at hlatch hmask
    exact (s.tripCondition_iff g).2 ⟨m, hlatch, hmask⟩

/-! ## The effect (R126) -/

theorem Group.clearTrip_eq (x : Group) :
    x.clearTrip =
      if x.state = .tripped then { x with state := .stopped, notices := x.notices.add .tripCleared } else x := by
  simp only [Group.clearTrip, beq_iff_eq]
  rfl

theorem Group.producing_of_tripped {x : Group} (h : x.state = .tripped) : x.producing = false := by
  simp [Group.producing, h]

/-- The groups under no trip condition. -/
def State.untripped (s : State) : List GroupId := allGroups.filter fun g => !s.tripCondition g

theorem State.mem_untripped (s : State) (g : GroupId) : g ∈ s.untripped ↔ s.tripCondition g = false := by
  have hall : g ∈ allGroups := by revert g; decide
  simp [State.untripped, hall]

theorem State.untripped_nodup (s : State) : s.untripped.Nodup := List.Nodup.filter _ (by decide)

section Effect

variable {s : State} {cmd : Slot32} {l : LineId}

/-- A line whose latch is clear leaves the command without an effect. -/
theorem clearTripEffect_of_unlatched (hl : byteOf cmd 6 = l) (hlatch : (s.line l).latch = false) :
    clearTripEffect cmd s = s := by
  have hline : lineOfCode (Cmd.line cmd) = some l := (lineOfCode_eq_some_iff _ _).2 hl
  rw [clearTripEffect, hline]
  exact if_neg (by simp [hlatch])

/-- Otherwise the latch clears, and the groups that are then under no trip condition are released. -/
theorem clearTripEffect_of_latched (hl : byteOf cmd 6 = l) (hlatch : (s.line l).latch = true) :
    clearTripEffect cmd s =
      (s.unlatch l).untripped.foldl (fun t g => t.modGroup g Group.clearTrip) (s.unlatch l) := by
  have hline : lineOfCode (Cmd.line cmd) = some l := (lineOfCode_eq_some_iff _ _).2 hl
  have hstep : ∀ (t : State) (g : GroupId),
      (if (!(s.unlatch l).tripCondition g) = true then t.modGroup g Group.clearTrip else t) =
        if (s.unlatch l).tripCondition g = true then t else t.modGroup g Group.clearTrip := by
    intro t g
    cases (s.unlatch l).tripCondition g <;> rfl
  rw [State.untripped, List.foldl_filter, clearTripEffect, hline]
  simp only [hstep]
  exact if_pos hlatch

/-- Beside the groups, CLEAR_TRIP changes the latch alone. -/
theorem clearTripEffect_eq (hl : byteOf cmd 6 = l) (hlatch : (s.line l).latch = true) :
    clearTripEffect cmd s = { s.unlatch l with groups := (clearTripEffect cmd s).groups } := by
  rw [clearTripEffect_of_latched hl hlatch]
  exact foldl_modGroup_eq _ _ _

theorem clearTripEffect_group (hl : byteOf cmd 6 = l) (hlatch : (s.line l).latch = true) (g : GroupId) :
    (clearTripEffect cmd s).group g =
      if (s.group g).state = .tripped ∧ (s.unlatch l).tripCondition g = false then
        { s.group g with state := .stopped, notices := (s.group g).notices.add .tripCleared }
      else s.group g := by
  rw [clearTripEffect_of_latched hl hlatch, group_foldl_modGroup _ (State.untripped_nodup _), Group.clearTrip_eq]
  have hgroup : (s.unlatch l).group g = s.group g := rfl
  simp only [State.mem_untripped, hgroup]
  by_cases ht : (s.unlatch l).tripCondition g = false <;> simp [ht]

/-- A released group produced nothing while it was TRIPPED, and produces nothing once it is STOPPED. -/
theorem clearTripEffect_producing (hl : byteOf cmd 6 = l) (hlatch : (s.line l).latch = true) (g : GroupId) :
    ((clearTripEffect cmd s).group g).producing = (s.group g).producing := by
  rw [clearTripEffect_group hl hlatch]
  split
  next hreleased => rw [Group.producing_of_quiet (.inr rfl), Group.producing_of_tripped hreleased.1]
  next => rfl

end Effect

/-! ## The pairs under a new selection -/

/-- A selection reads the pair's own group, its trip condition and whether it produces. -/
theorem State.selection_congr {s t : State} {u : PairUnit} (hctrl : t.ctrl = s.ctrl)
    (hprod : ∀ g, (t.group g).producing = (s.group g).producing)
    (htrip : ∀ g, u.group = some g → t.tripCondition g = s.tripCondition g) : t.selection u = s.selection u := by
  cases hg : u.group with
  | none => rw [State.selection_of_unbound hg, State.selection_of_unbound hg]
  | some g => simp [State.selection, hg, hctrl, hprod, htrip g hg]

/-- A pair that leaves its safe levels for its idle ones only moves its pins: its working state is clear. -/
theorem PairUnit.settleAs_idle_of_safe {u : PairUnit} (h : u.settleAs .safe false = u) :
    u.settleAs .idle false = { u with pins := u.idle } := by
  have hmove : (u.settleAs .safe false).settleAs .idle false =
      { u.settleAs .safe false with pins := (u.settleAs .safe false).idle } := rfl
  rwa [h] at hmove

/-- Under its trip condition a group of a RUNNING block is UNBOUND or TRIPPED (R122), so it produces nothing. -/
theorem TripLaw.producing_of_tripCondition {s : State} (h : TripLaw s) (hr : s.ctrl = .running) {g : GroupId}
    (ht : s.tripCondition g = true) : (s.group g).producing = false := by
  have hlaw := h.1 hr g
  split at hlaw
  next hunbound => exact Group.producing_of_quiet (.inl hunbound)
  next => exact Group.producing_of_tripped (hlaw.2 ht)

/-! ## The state that an accepted CLEAR_TRIP leaves -/

/-- The state in which an accepted CLEAR_TRIP ends. -/
def afterClearTrip (s : State) (cmd : Slot32) : State :=
  ((clearTripEffect cmd s.received).report cmd .ok 0).settle

section After

variable {s : State} {cmd : Slot32} {l : LineId}

/-- A line whose latch is clear is reported, and nothing else happens. -/
theorem afterClearTrip_of_unlatched (hl : byteOf cmd 6 = l) (hlatch : (s.line l).latch = false) :
    afterClearTrip s cmd = (s.received.report cmd .ok 0).settle := by
  rw [afterClearTrip, clearTripEffect_of_unlatched (s := s.received) hl hlatch]

variable (hl : byteOf cmd 6 = l) (hlatch : (s.line l).latch = true)
include hl hlatch

theorem afterClearTrip_lines : (afterClearTrip s cmd).lines = (s.unlatch l).lines := by
  rw [afterClearTrip, clearTripEffect_eq (s := s.received) hl hlatch]; rfl

theorem afterClearTrip_line (m : LineId) :
    (afterClearTrip s cmd).line m = if m = l then { s.line l with latch := false } else s.line m := by
  rw [← State.line_unlatch]
  exact congrArg (·.get m) (afterClearTrip_lines hl hlatch)

theorem afterClearTrip_tripCondition (g : GroupId) :
    (afterClearTrip s cmd).tripCondition g = (s.unlatch l).tripCondition g := by
  simp only [State.tripCondition, State.line, afterClearTrip_lines hl hlatch]

theorem afterClearTrip_group (g : GroupId) :
    (afterClearTrip s cmd).group g =
      if (s.group g).state = .tripped ∧ (afterClearTrip s cmd).tripCondition g = false then
        { s.group g with state := .stopped, notices := (s.group g).notices.add .tripCleared }
      else s.group g := by
  rw [afterClearTrip_tripCondition hl hlatch]
  exact clearTripEffect_group (s := s.received) hl hlatch g

theorem afterClearTrip_producing (g : GroupId) :
    ((afterClearTrip s cmd).group g).producing = (s.group g).producing :=
  clearTripEffect_producing (s := s.received) hl hlatch g

theorem afterClearTrip_ctrl : (afterClearTrip s cmd).ctrl = s.ctrl := by
  rw [afterClearTrip, clearTripEffect_eq (s := s.received) hl hlatch]; rfl

/-- The selection of each pair is made anew, and nothing else moves a pair. -/
theorem afterClearTrip_pair (p : PairId) :
    (afterClearTrip s cmd).pair p =
      (s.pair p).settleAs ((afterClearTrip s cmd).selection (s.pair p)) (s.ctrl == .halted) := by
  rw [← afterClearTrip_ctrl hl hlatch, ← State.settledPair_eq, afterClearTrip, State.settle_pair,
    ← (State.settle_same _).settledPair]
  congr 1
  rw [clearTripEffect_eq (s := s.received) hl hlatch]; rfl

/-- The pairs of a group whose trip condition has become false take their idle levels. -/
theorem afterClearTrip_pair_released (hs : Settled s) (htrip : TripLaw s) (hr : s.ctrl = .running) {p : PairId}
    {g : GroupId} (hg : (s.pair p).group = some g) (hbefore : s.tripCondition g = true)
    (hafter : (afterClearTrip s cmd).tripCondition g = false) :
    (afterClearTrip s cmd).pair p = { s.pair p with pins := (s.pair p).idle } := by
  have hsafe : (s.pair p).settleAs .safe false = s.pair p := by
    have hp := ((settled_iff s).1 hs).2.1 p
    rwa [State.settledPair_eq, State.selection_of_tripped hg hbefore, hr] at hp
  have hrunning : (afterClearTrip s cmd).ctrl ≠ .halted := by simp [afterClearTrip_ctrl hl hlatch, hr]
  have hquiet : ((afterClearTrip s cmd).group g).producing = false := by
    rw [afterClearTrip_producing hl hlatch, htrip.producing_of_tripCondition hr hbefore]
  rw [afterClearTrip_pair hl hlatch, State.selection_of_not_producing hg hrunning hafter hquiet, hr]
  exact PairUnit.settleAs_idle_of_safe hsafe

/-- Every other pair stays as it was: the trip condition of its group, if it has one, is the same as before. -/
theorem afterClearTrip_pair_kept (hs : Settled s) {p : PairId}
    (hkept : ∀ g, (s.pair p).group = some g → s.tripCondition g = true →
      (afterClearTrip s cmd).tripCondition g = true) :
    (afterClearTrip s cmd).pair p = s.pair p := by
  have hcondition : ∀ g, (s.pair p).group = some g →
      (afterClearTrip s cmd).tripCondition g = s.tripCondition g := by
    intro g hg
    refine Bool.eq_iff_iff.2 ⟨fun h => ?_, hkept g hg⟩
    exact State.tripCondition_of_unlatch (afterClearTrip_tripCondition hl hlatch g ▸ h)
  rw [afterClearTrip_pair hl hlatch, State.selection_congr (afterClearTrip_ctrl hl hlatch)
    (afterClearTrip_producing hl hlatch) hcondition, ← State.settledPair_eq]
  exact ((settled_iff s).1 hs).2.1 p

theorem afterClearTrip_reported : Reported cmd .ok 0 s (afterClearTrip s cmd) := by
  rw [afterClearTrip, clearTripEffect_eq (s := s.received) hl hlatch]
  exact reported_settle rfl rfl rfl rfl

theorem afterClearTrip_presc_and_mark :
    (afterClearTrip s cmd).tripPresc = s.tripPresc ∧ (afterClearTrip s cmd).marks.trip = s.marks.trip := by
  rw [afterClearTrip, clearTripEffect_eq (s := s.received) hl hlatch]
  exact ⟨rfl, rfl⟩

/-- CLEAR_TRIP touches the trip line, the groups with their pairs, and what reports it, and nothing else. -/
theorem afterClearTrip_frame (hs : Settled s) :
    SameExcept (everyGroup ++ [.pairs, .tripUnit, .admin, .requests, .port]) s (afterClearTrip s cmd) := by
  intro b hb
  rw [afterClearTrip, clearTripEffect_eq (s := s.received) hl hlatch]
  have hsame := Block.same_refl s b
  cases b with
  | group g => exact absurd (List.mem_append_left _ (group_mem_everyGroup g)) hb
  | pairs | tripUnit | admin | requests | port => simp at hb
  | events => exact same_settle_events hs rfl rfl
  | resetPin | registers | tokens | sets | captureQueue | converter | resultWriter | completion | groupTicks =>
    exact hsame

end After

/-! ## O58 -/

/-- The slot of CLEAR_TRIP is judged by `clearTripVerdict`, and takes its effect where that is OK. -/
theorem exec_clearTrip {cmd : Slot32} (ho : opcodeOf cmd = 0x0B) (s : State) :
    exec (.clearTrip false cmd) s =
      command false true cmd (clearTripVerdict cmd s) 0 (clearTripEffect cmd) s := by
  have hrow : (Cmd.opcode cmd == 0x0B) = true := beq_iff_eq.2 ho
  rw [← hrow]; rfl

/-- An accepted CLEAR_TRIP ends in `afterClearTrip`. -/
theorem exec_clearTrip_ok {s : State} {cmd : Slot32} (ha : Awaits s .adminProcessor) (ho : opcodeOf cmd = 0x0B)
    (hv : clearTripVerdict cmd s = .ok) : exec (.clearTrip false cmd) s = .next (afterClearTrip s cmd) := by
  rw [exec_clearTrip ho, command_of_awaits ha, if_pos hv]; rfl

/-- Settles O58: the verdict of each check of R161, and the latch, groups and pairs that R126 leaves. -/
theorem clearTripReleasesTheGroups : Obligations.ClearTripReleasesTheGroups := by
  unfold Obligations.ClearTripReleasesTheGroups
  intro s cmd hs htrip ha ho
  have refused : ∀ {status}, clearTripVerdict cmd s = status → status ≠ .ok →
      Refused (.clearTrip false cmd) cmd status s :=
    refused_of_command hs ha (exec_clearTrip ho s)
  refine ⟨fun hparams => refused (clearTripVerdict_of_not_params hparams) (by decide), fun hparams l hl => ?_⟩
  have hverdict := clearTripVerdict_of_params (s := s) hparams hl
  have accepted : (s.line l).filtered = false → exec (.clearTrip false cmd) s = .next (afterClearTrip s cmd) :=
    fun hfiltered => exec_clearTrip_ok ha ho (hverdict.trans (if_neg (by simp [hfiltered])))
  refine ⟨fun hactive => refused (hverdict.trans (if_pos hactive)) (by decide), fun hfiltered hlatch => ?_,
    fun hfiltered hlatch => ?_⟩
  · refine ⟨afterClearTrip s cmd, accepted hfiltered, ?_, ?_⟩ <;> rw [afterClearTrip_of_unlatched hl hlatch]
    · exact reported_settle (u := s.received) rfl rfl rfl rfl
    · exact refused_frame hs
  · obtain ⟨hpresc, hmark⟩ := afterClearTrip_presc_and_mark hl hlatch
    exact ⟨afterClearTrip s cmd, accepted hfiltered, (afterClearTrip_line hl hlatch l).trans (if_pos rfl),
      fun m hm => (afterClearTrip_line hl hlatch m).trans (if_neg hm), hpresc, hmark,
      afterClearTrip_group hl hlatch,
      fun p g => afterClearTrip_pair_released hl hlatch hs htrip ha.1,
      fun p => afterClearTrip_pair_kept hl hlatch hs,
      afterClearTrip_reported hl hlatch, afterClearTrip_frame hl hlatch hs⟩

end Sys2Proof.Machine
end

section
/-! PROOF. The identification, the ring geometry and the interrupt line in the register window (R174, R181,
R184). -/

namespace Sys2Proof.Machine

/-! ## Accesses to the register window -/

section Access

variable {s : State}

/-- An access while the reset pin is not asserted takes its effect (R179). -/
theorem access_of_released (h : s.rstn = .high) (t : State) : access s t = .next t.settle := by
  simp [access, State.inReset, h]

/-- An access without an effect changes nothing in a settled state, whatever the level of the reset pin. -/
theorem access_self (hs : Settled s) : access s s = .next s := by
  have hsettle : s.settle = s := hs
  simp [access, hsettle]

/-- A write that is acted on only in OFF has no effect elsewhere (R181). -/
theorem State.whenOff_of_not_off (h : s.ctrl ≠ .off) (t : State) : State.whenOff t s = s := by
  simp [State.whenOff, h]

/-- A write that is acted on only in OFF takes its effect there (R181). -/
theorem State.whenOff_of_off (h : s.ctrl = .off) (t : State) : State.whenOff t s = t := by
  simp [State.whenOff, h]

/-- A write of the base registers or RINGCFG changes nothing outside OFF (R181). -/
theorem access_whenOff_of_not_off (hs : Settled s) (h : s.ctrl ≠ .off) (t : State) :
    access s (State.whenOff t s) = .next s := by
  rw [State.whenOff_of_not_off h, access_self hs]

theorem readValue_devid (s : State) : readValue .devid s = 0x46120104 := rfl

/-- Writes to DEVID are ignored (R174). -/
theorem exec_registerWrite_devid (hs : Settled s) (narrow : Bool) (v : Word32) :
    exec (.registerWrite .devid narrow v) s = .next s := by
  cases narrow with
  | true => rfl
  | false => exact access_self hs

end Access

/-! ## O26 -/

/-- Settles O26: DEVID is read without a look at the state, and no write to it has an effect. -/
theorem identificationIsConstant : Obligations.IdentificationIsConstant := by
  unfold Obligations.IdentificationIsConstant
  refine ⟨fun s => ?_, fun s narrow v hs => exec_registerWrite_devid hs narrow v⟩
  rw [readValue_devid]
  decide

/-! ## Fields of a register -/

/-- A field of a register put back at its place is the register with its other bits cleared. -/
theorem zeroExtend_extractLsb'_shiftLeft (v : Word32) (k n : Nat) :
    (v.extractLsb' k n).zeroExtend 32 <<< k = v &&& (BitVec.allOnes n).zeroExtend 32 <<< k := by
  refine BitVec.eq_of_getLsbD_eq fun i hi => ?_
  by_cases hk : i < k
  · simp [hk]
  · have hback : k + (i - k) = i := by omega
    by_cases hn : i - k < n <;> simp [hi, hk, hn, hback]

/-- A field at the low end of a register is the register with its other bits cleared. -/
theorem zeroExtend_extractLsb'_zero (v : Word32) (n : Nat) :
    (v.extractLsb' 0 n).zeroExtend 32 = v &&& (BitVec.allOnes n).zeroExtend 32 := by
  simpa using zeroExtend_extractLsb'_shiftLeft v 0 n

/-! ## The ring geometry -/

/-- What the base registers and RINGCFG hold: the two ring bases and the two size codes (R181). -/
structure Geometry where
  admBase : Addr
  cplBase : Addr
  admCode : BitVec 4
  cplCode : BitVec 4

/-- The geometry of a state. -/
def State.geometry (s : State) : Geometry := { s with }

theorem State.geometry_eq_iff {s t : State} :
    t.geometry = s.geometry ↔
      t.admBase = s.admBase ∧ t.cplBase = s.cplBase ∧ t.admCode = s.admCode ∧ t.cplCode = s.cplCode := by
  simp [State.geometry]

/-- What leaves alone the part that the sequencers and the capture path never touch leaves the geometry alone. -/
theorem State.geometry_of_fixed {s t : State} (h : t.fixed = s.fixed) : t.geometry = s.geometry :=
  congrArg (fun f : Fixed => (⟨f.admBase, f.cplBase, f.admCode, f.cplCode⟩ : Geometry)) h

section Frame

variable (s : State)

/-! ### Single updates -/

@[simp] theorem State.geometry_settle : s.settle.geometry = s.geometry := rfl
@[simp] theorem State.geometry_modGroup (g : GroupId) (f : Group → Group) :
    (s.modGroup g f).geometry = s.geometry := rfl
@[simp] theorem State.geometry_answered (r : Requester) : (s.answered r).geometry = s.geometry := rfl
@[simp] theorem State.geometry_report (cmd : Slot32) (status : AdminStatus) (value : BitVec 128) :
    (s.report cmd status value).geometry = s.geometry := rfl
@[simp] theorem State.geometry_wordAnswered : s.wordAnswered.geometry = s.geometry := rfl

@[simp] theorem State.geometry_pump : s.pump.geometry = s.geometry :=
  State.geometry_of_fixed s.fixed_pump
@[simp] theorem State.geometry_faultGroup (g : GroupId) : (s.faultGroup g).geometry = s.geometry :=
  State.geometry_of_fixed (s.fixed_faultGroup g)
@[simp] theorem State.geometry_tripGroup (g : GroupId) : (s.tripGroup g).geometry = s.geometry :=
  State.geometry_of_fixed (s.fixed_tripGroup g)

@[simp] theorem State.geometry_popQueue (v : Server) : (s.popQueue v).geometry = s.geometry := by
  cases v <;> rfl

/-! ### The register window -/

@[simp] theorem State.geometry_ctrlStart : s.ctrlStart.geometry = s.geometry := by
  unfold State.ctrlStart; split
  · split <;> rfl
  · rfl

/-- A controller reset keeps the ring bases and RINGCFG (R178). -/
@[simp] theorem State.geometry_controllerReset : s.controllerReset.geometry = s.geometry := rfl

@[simp] theorem State.geometry_postGroup (g : GroupId) (i : Word16) :
    (s.postGroup g i).geometry = s.geometry := by
  unfold State.postGroup; split <;> rfl

@[simp] theorem State.geometry_postAdmin (i : Word16) : (s.postAdmin i).geometry = s.geometry := by
  unfold State.postAdmin; split <;> rfl

@[simp] theorem State.geometry_postRelease (i : Word16) : (s.postRelease i).geometry = s.geometry := by
  unfold State.postRelease; split <;> rfl

@[simp] theorem State.geometry_writePost (v : Word32) : (s.writePost v).geometry = s.geometry := by
  unfold State.writePost
  dsimp only
  split
  · exact s.geometry_postGroup _ _
  · split
    · exact s.geometry_postAdmin _
    · split
      · exact s.geometry_postRelease _
      · rfl

@[simp] theorem State.geometry_writeCtrl (v : Word32) : (s.writeCtrl v).geometry = s.geometry := by
  unfold State.writeCtrl; split
  · exact s.geometry_controllerReset
  · split
    · exact s.geometry_ctrlStart
    · rfl

/-! ### Answers, completion writes and result writes -/

@[simp] theorem State.geometry_readAnswered (g : GroupId) (f : Entry → Entry) :
    (s.readAnswered g f).geometry = s.geometry := by
  unfold State.readAnswered; dsimp only; split
  · split <;> simp
  · rfl

theorem State.geometry_resultAnswered {f : WordOnBus → State → State}
    (hf : ∀ w t, (f w t).fixed = t.fixed) : (s.resultAnswered f).geometry = s.geometry := by
  unfold State.resultAnswered; split
  · rfl
  · rw [State.geometry_pump]
    split
    · rfl
    · exact (State.geometry_of_fixed (hf _ s.wordAnswered)).trans s.geometry_wordAnswered

@[simp] theorem State.geometry_issueWord : s.issueWord.geometry = s.geometry := by
  unfold State.issueWord; split
  · rfl
  · split <;> rfl

@[simp] theorem State.geometry_issueEntry : s.issueEntry.geometry = s.geometry := by
  unfold State.issueEntry; split
  · rfl
  · split
    · rfl
    · exact s.geometry_popQueue _

/-! ### The trip unit -/

@[simp] theorem State.geometry_levelChange (l : LineId) : (s.levelChange l).geometry = s.geometry := by
  unfold State.levelChange; dsimp only; split
  · split
    · rw [State.geometry_pump, foldl_keeps State.geometry _ State.geometry_tripGroup]; rfl
    · rfl
  · rfl

@[simp] theorem State.geometry_judgeSample (l : LineId) (level : Level) :
    (s.judgeSample l level).geometry = s.geometry := by
  unfold State.judgeSample; split
  · exact s.geometry_levelChange l
  · rfl

@[simp] theorem State.geometry_lineStep (l : LineId) : (s.lineStep l).geometry = s.geometry := by
  unfold State.lineStep; split
  · rfl
  · exact s.geometry_judgeSample l _

@[simp] theorem State.geometry_finishSample : s.finishSample.geometry = s.geometry :=
  foldl_keeps State.geometry _ State.geometry_lineStep _ _

/-! ### Administrative commands -/

@[simp] theorem geometry_bindRingEffect (cmd : Slot32) : (bindRingEffect cmd s).geometry = s.geometry := by
  unfold bindRingEffect; split <;> rfl

@[simp] theorem geometry_unbindRingEffect (cmd : Slot32) : (unbindRingEffect cmd s).geometry = s.geometry := by
  unfold unbindRingEffect; split <;> rfl

@[simp] theorem geometry_setGroupEffect (cmd : Slot32) : (setGroupEffect cmd s).geometry = s.geometry := by
  unfold setGroupEffect; split <;> rfl

@[simp] theorem geometry_setPairEffect (cmd : Slot32) : (setPairEffect cmd s).geometry = s.geometry := by
  unfold setPairEffect; split <;> rfl

@[simp] theorem geometry_setTripEffect (cmd : Slot32) : (setTripEffect cmd s).geometry = s.geometry := by
  unfold setTripEffect; split <;> rfl

@[simp] theorem geometry_setTokenEffect (cmd : Slot32) : (setTokenEffect cmd s).geometry = s.geometry := by
  unfold setTokenEffect; split <;> rfl

@[simp] theorem geometry_startEffect (cmd : Slot32) : (startEffect cmd s).geometry = s.geometry := by
  rw [startEffect_eq]; rfl

@[simp] theorem geometry_stopEffect (cmd : Slot32) : (stopEffect cmd s).geometry = s.geometry := by
  unfold stopEffect; split
  · exact State.geometry_of_fixed (by simp)
  · rfl

@[simp] theorem geometry_abortEffect (cmd : Slot32) : (abortEffect cmd s).geometry = s.geometry := by
  unfold abortEffect; dsimp only; split
  · rfl
  · refine State.geometry_of_fixed ?_
    split <;> simp

@[simp] theorem geometry_clearTripEffect (cmd : Slot32) : (clearTripEffect cmd s).geometry = s.geometry := by
  unfold clearTripEffect; split
  · rfl
  · dsimp only
    split
    · rw [foldl_keeps State.geometry _ fun t g => ?_]
      · rfl
      · split <;> rfl
    · rfl

end Frame

section Commands

variable {s : State}

/-! ### Every command -/

/-- Outside OFF no register write changes the geometry (R181). -/
theorem State.geometry_writeReg (h : s.ctrl ≠ .off) (reg : RegName) (v : Word32) :
    (s.writeReg reg v).geometry = s.geometry := by
  cases reg with
  | devid | stat | evt | evtmask => rfl
  | ctrl => exact s.geometry_writeCtrl v
  | post => exact s.geometry_writePost v
  | admbaseLo | cplbaseLo | admbaseHi | cplbaseHi | ringcfg =>
    exact congrArg State.geometry (State.whenOff_of_not_off h _)

/-- Outside OFF the effect of no command but POWER_ON_RESET changes the geometry (R181). -/
theorem Happens.keeps_geometry {c : Instr} {u : State} (h : Happens c s u) (hoff : s.ctrl ≠ .off)
    (hreset : ∀ pin, c ≠ .powerOnReset pin) : u.geometry = s.geometry := by
  cases h with
  | powerOnReset pin => exact absurd rfl (hreset pin)
  | admbaseLoWrite | cplbaseLoWrite | admbaseHiWrite | cplbaseHiWrite =>
    exact congrArg State.geometry (State.whenOff_of_not_off hoff _)
  | registerWrite => exact State.geometry_writeReg hoff _ _
  | groupTick | periodBoundary | starvedResume | startSetFire | converterTick | conversionEnd =>
    exact State.geometry_of_fixed (by simp)
  | resultWriteOk => exact s.geometry_resultAnswered fun w t => t.fixed_countWord w
  | resultWriteError => exact s.geometry_resultAnswered fun w t => t.fixed_faultWord w
  | ctrlReset | evtWrite | evtmaskWrite | admbaseHiRead | cplbaseHiRead | groupFetchIssue | deadTimeExpiry
  | recordLeave | noticeQueue | adminFetchIssue | adminReadError | completionWriteOk | completionWriteError
  | tripSample | refused | setConverter | query => rfl
  | ctrlStart | postGroupTail | postAdminTail | postCompletionRelease | groupReadOk | groupReadError
  | resultWriteIssue | completionWriteIssue | filteredLevelChange | bindRing | unbindRing | setGroup | setPair
  | setTrip | start | stop | abort | setToken | clearTrip | queryTrips => simp

/-- Outside OFF no command but POWER_ON_RESET changes the geometry (R181). -/
theorem exec_keeps_geometry {c : Instr} {t : State} (hoff : s.ctrl ≠ .off)
    (hreset : ∀ pin, c ≠ .powerOnReset pin) (h : exec c s = .next t) : t.geometry = s.geometry := by
  rcases exec_next h with rfl | ⟨r, rfl⟩ | ⟨r, rfl⟩ | ⟨u, hu, rfl⟩
  · rfl
  · rfl
  · rfl
  · exact hu.keeps_geometry hoff hreset

/-! ### RINGCFG -/

/-- In OFF neither of the requesters that look at a ring size asks, so that a settled state stays
settled (R137, R142). -/
theorem settle_writeRingcfg (hs : Settled s) (hoff : s.ctrl = .off) (v : Word32) :
    (s.writeRingcfg v).settle = s.writeRingcfg v := by
  refine settle_of_same hs ⟨rfl, rfl, fun _ => rfl⟩ rfl rfl rfl rfl ?_ rfl rfl rfl ?_ rfl
  · simp [State.settledAdmin, State.adminMayAsk, State.isRunning, State.writeRingcfg, hoff]
  · simp [State.settledCpl, State.cplMayAsk, State.isRunning, State.writeRingcfg, hoff]

/-- In OFF a RINGCFG write is taken (R181). -/
theorem exec_registerWrite_ringcfg (hs : Settled s) (hr : s.rstn = .high) (hoff : s.ctrl = .off) (v : Word32) :
    exec (.registerWrite .ringcfg false v) s = .next (s.writeRingcfg v) := by
  show access s (State.whenOff (s.writeRingcfg v) s) = _
  rw [State.whenOff_of_off hoff, access_of_released hr, settle_writeRingcfg hs hoff]

/-- The two size codes written to RINGCFG read back, and its other bits read as zero. -/
theorem readValue_writeRingcfg (s : State) (v : Word32) :
    readValue .ringcfg (s.writeRingcfg v) = v &&& 0xF0F := by
  show (v.extractLsb' 0 4).zeroExtend 32 ||| (v.extractLsb' 8 4).zeroExtend 32 <<< 8 = _
  rw [zeroExtend_extractLsb'_zero, zeroExtend_extractLsb'_shiftLeft, ← BitVec.and_or_distrib_left]
  rfl

/-- A controller reset keeps RINGCFG, also where the asserted reset pin holds everything as it is (R178, R179). -/
theorem exec_ctrlReset_keeps_ringcfg (s : State) :
    ∃ t, exec .ctrlReset s = .next t ∧ readValue .ringcfg t = readValue .ringcfg s := by
  refine ⟨_, rfl, ?_⟩
  split <;> rfl

end Commands

/-! ## O25 -/

/-- Settles O25: the writes act only in OFF, and no command's effect outside OFF reaches the geometry. -/
theorem geometryIsLockedOutsideOff : Obligations.GeometryIsLockedOutsideOff := by
  unfold Obligations.GeometryIsLockedOutsideOff
  refine ⟨fun s v hs hoff => ?_, fun c s t hoff hreset h => ?_, fun s v hs hr hoff => ?_,
    fun s => ⟨fun pin => ?_, ?_⟩⟩
  · have ignored := access_whenOff_of_not_off hs hoff
    exact ⟨ignored _, ignored _, ignored _, ignored _, ignored _⟩
  · exact State.geometry_eq_iff.1 (exec_keeps_geometry hoff hreset h)
  · exact ⟨s.writeRingcfg v, exec_registerWrite_ringcfg hs hr hoff v, rfl, readValue_writeRingcfg s v⟩
  · exact ⟨_, rfl, by simp [readValue, State.powerOn, State.reset]⟩
  · exact exec_ctrlReset_keeps_ringcfg s

/-! ## The interrupt line -/

/-- With every enable clear IRQ is not asserted. -/
theorem irqLevel_zero_mask (evt : BitVec 6) : irqLevel evt 0 = false := by simp [irqLevel]

/-- IRQ has the level that EVT and EVTMASK give it (R184). -/
def IrqLaw (s : State) : Prop := s.irq = irqLevel s.evt s.evtMask

/-- IRQ is asserted exactly while an enabled event bit is set (R184). -/
theorem IrqLaw.irq_iff {s : State} (h : IrqLaw s) :
    s.irq = true ↔ ∃ i : Fin 6, s.evt.getLsbD i = true ∧ s.evtMask.getLsbD i = true := by
  rw [show s.irq = irqLevel s.evt s.evtMask from h, irqLevel_iff]

theorem Settled.irqLaw {s : State} (hs : Settled s) : IrqLaw s := ((settled_iff s).1 hs).1

/-- Every effect ends with settling, and nothing else touches the events or the line. -/
theorem step_keeps_irqLaw {s t : State} (hs : IrqLaw s) (h : step s = .next t) : IrqLaw t :=
  step_keeps IrqLaw (fun _ _ h => h) (fun _ _ h => h) (fun _ _ h => h) (fun _ _ _ _ _ => rfl) (fun _ h => h) hs h

/-- Writing EVTMASK in a settled state moves the enables and the interrupt line, and nothing else. -/
theorem settle_writeMask {s : State} (hs : Settled s) (v : Word32) :
    (s.writeMask v).settle =
      { s with evtMask := v.extractLsb' 0 6, irq := irqLevel s.evt (v.extractLsb' 0 6) } := by
  have hsettle : (s.writeMask v).settle =
      { s.settle with evtMask := v.extractLsb' 0 6, irq := irqLevel s.evt (v.extractLsb' 0 6) } := rfl
  rw [hsettle, show s.settle = s from hs]

/-- The six enables written to EVTMASK read back, and its other bits read as zero. -/
theorem readValue_writeMask (s : State) (v : Word32) :
    readValue .evtmask (s.writeMask v).settle = v &&& 0x3F :=
  zeroExtend_extractLsb'_zero v 6

/-- An EVTMASK write touches the events and nothing else. -/
theorem settle_writeMask_frame {s : State} (hs : Settled s) (v : Word32) :
    SameExcept [.events] s (s.writeMask v).settle := by
  intro b hb
  rw [settle_writeMask hs]
  have hsame := Block.same_refl s b
  cases b with
  | events => simp at hb
  | resetPin | registers | group _ | pairs | tokens | sets | captureQueue | converter | resultWriter | tripUnit
  | admin | completion | requests | port | groupTicks => exact hsame

/-! ## O20 -/

/-- Settles O20: settling gives IRQ its level, and both resets clear EVT and EVTMASK before it. -/
theorem interruptLineFollowsEventsAndMask : Obligations.InterruptLineFollowsEventsAndMask := by
  unfold Obligations.InterruptLineFollowsEventsAndMask
  refine ⟨fun s hs => ⟨hs.irqLaw.irq_iff, rfl, rfl⟩, fun s t hs h => (step_keeps_irqLaw hs.irqLaw h).irq_iff,
    fun s v hs hr => ?_, fun s => ⟨fun pin => ?_, fun hr => ?_⟩⟩
  · refine ⟨_, access_of_released hr _, rfl, rfl, readValue_writeMask s v, ?_, settle_writeMask_frame hs v⟩
    rw [(settled_settle _).irqLaw.irq_iff]
    simp [State.writeMask]
  · exact ⟨_, rfl, rfl, irqLevel_zero_mask _⟩
  · exact ⟨_, access_of_released hr _, rfl, irqLevel_zero_mask _⟩

end Sys2Proof.Machine
end

section
/-! PROOF. Steps and the queue of waiting commands: a command always answers, and touches neither the queue nor the
count of device clocks; with nothing due a device clock passes; what the state after reset holds. -/

namespace Sys2Proof.Machine

/-! ## O1 -/

/-- Settles O1: the queue of `s` is put aside and given back. -/
theorem stepRunsFrontCommand : Obligations.StepRunsFrontCommand := by
  unfold Obligations.StepRunsFrontCommand
  intro c s
  rfl

/-! ## Every command answers -/

theorem happen_answers (due : Bool) (s t : State) : ∃ u, happen due s t = .next u := ⟨_, rfl⟩

theorem answer_answers (late : Bool) (r : Requester) (s t : State) : ∃ u, answer late r s t = .next u := by
  unfold answer
  split
  · exact ⟨_, rfl⟩
  · split
    · exact ⟨_, rfl⟩
    · exact happen_answers _ s t

theorem command_answers (late isRow : Bool) (cmd : Slot32) (v : AdminStatus) (value : BitVec 128)
    (f : State → State) (s : State) : ∃ u, command late isRow cmd v value f s = .next u := by
  unfold command
  split
  · exact answer_answers _ _ _ _
  · exact ⟨_, rfl⟩

theorem exec_answers (c : Instr) (s : State) : ∃ t, exec c s = .next t := by
  cases c with
  | powerOnReset | ctrlReset | ctrlStart | evtWrite | evtmaskWrite | postGroupTail | postAdminTail
  | postCompletionRelease | admbaseLoWrite | cplbaseLoWrite | admbaseHiWrite | cplbaseHiWrite | admbaseHiRead
  | cplbaseHiRead | filteredLevelChange => exact ⟨_, rfl⟩
  | registerWrite r narrow v => cases narrow <;> exact ⟨_, rfl⟩
  | groupFetchIssue | groupTick | periodBoundary | deadTimeExpiry | starvedResume | startSetFire | converterTick
  | conversionEnd | resultWriteIssue | recordLeave | noticeQueue | adminFetchIssue | completionWriteIssue
  | tripSample => exact happen_answers _ _ _
  | groupReadOk | groupReadError | resultWriteOk | resultWriteError | adminReadError | completionWriteOk
  | completionWriteError => exact answer_answers _ _ _ _
  | bindRing | unbindRing | setGroup | setPair | setConverter | setTrip | start | stop | abort | setToken
  | clearTrip | queryGroup | queryTokens | queryTrips | queryConverter | unknown =>
    exact command_answers _ _ _ _ _ _ _

/-! ## What comes from outside the block -/

/-- The reset pin, and the model's own bookkeeping: the waiting commands and the count of device clocks. -/
structure External where
  rstn : Level
  pending : List Instr
  clock : Nat

def State.external (s : State) : External := { s with }

theorem State.external_eq_iff {s t : State} :
    t.external = s.external ↔ t.rstn = s.rstn ∧ t.pending = s.pending ∧ t.clock = s.clock := by
  simp [State.external]

/-- What leaves alone the part that the sequencers and the capture path never touch leaves it alone. -/
theorem State.external_of_fixed {s t : State} (h : t.fixed = s.fixed) : t.external = s.external :=
  congrArg (fun f : Fixed => (⟨f.rstn, f.pending, f.clock⟩ : External)) h

section Outside

variable (s : State)

@[simp] theorem State.external_settle : s.settle.external = s.external := rfl
@[simp] theorem State.external_report (cmd : Slot32) (status : AdminStatus) (value : BitVec 128) :
    (s.report cmd status value).external = s.external := rfl
@[simp] theorem State.external_received : s.received.external = s.external := rfl
@[simp] theorem State.external_modGroup (g : GroupId) (f : Group → Group) :
    (s.modGroup g f).external = s.external := rfl
@[simp] theorem State.external_pump : s.pump.external = s.external :=
  State.external_of_fixed s.fixed_pump

@[simp] theorem State.external_ctrlStart : s.ctrlStart.external = s.external := by
  unfold State.ctrlStart; split
  · split <;> rfl
  · rfl

@[simp] theorem State.external_postGroup (g : GroupId) (i : Word16) :
    (s.postGroup g i).external = s.external := by
  unfold State.postGroup; split <;> rfl

@[simp] theorem State.external_postAdmin (i : Word16) : (s.postAdmin i).external = s.external := by
  unfold State.postAdmin; split <;> rfl

@[simp] theorem State.external_postRelease (i : Word16) :
    (s.postRelease i).external = s.external := by
  unfold State.postRelease; split <;> rfl

@[simp] theorem State.external_whenOff (t : State) (h : t.external = s.external) :
    (State.whenOff t s).external = s.external := by
  unfold State.whenOff; split
  · exact h
  · rfl

@[simp] theorem State.external_writeReg (reg : RegName) (v : Word32) :
    (s.writeReg reg v).external = s.external := by
  cases reg with
  | devid | stat | evt | evtmask => rfl
  | ctrl =>
    show (s.writeCtrl v).external = _
    unfold State.writeCtrl; split
    · rfl
    · split
      · exact s.external_ctrlStart
      · rfl
  | post =>
    show (s.writePost v).external = _
    unfold State.writePost; dsimp only; split
    · exact s.external_postGroup _ _
    · split
      · exact s.external_postAdmin _
      · split
        · exact s.external_postRelease _
        · rfl
  | admbaseLo | cplbaseLo | admbaseHi | cplbaseHi | ringcfg => exact s.external_whenOff _ rfl

@[simp] theorem State.external_readAnswered (g : GroupId) (f : Entry → Entry) :
    (s.readAnswered g f).external = s.external := by
  unfold State.readAnswered; dsimp only; split
  · split
    · rw [State.external_pump, State.external_of_fixed (State.fixed_faultGroup _ g)]; rfl
    · rfl
  · rfl

theorem State.external_resultAnswered {f : WordOnBus → State → State}
    (hf : ∀ w t, (f w t).fixed = t.fixed) : (s.resultAnswered f).external = s.external := by
  unfold State.resultAnswered; split
  · rfl
  · rw [State.external_pump]
    split
    · rfl
    · exact (State.external_of_fixed (hf _ s.wordAnswered)).trans rfl

@[simp] theorem State.external_issueWord : s.issueWord.external = s.external := by
  unfold State.issueWord; split
  · rfl
  · split <;> rfl

@[simp] theorem State.external_issueEntry : s.issueEntry.external = s.external := by
  unfold State.issueEntry; split
  · rfl
  · rename_i v _
    split
    · rfl
    · cases v <;> rfl

@[simp] theorem State.external_judgeSample (l : LineId) (level : Level) :
    (s.judgeSample l level).external = s.external := by
  unfold State.judgeSample; split
  · unfold State.levelChange; dsimp only; split
    · split
      · rw [State.external_pump,
          foldl_keeps State.external _ fun t g => State.external_of_fixed (t.fixed_tripGroup g)]
        rfl
      · rfl
    · rfl
  · rfl

@[simp] theorem State.external_finishSample : s.finishSample.external = s.external := by
  refine foldl_keeps State.external _ (fun t l => ?_) _ _
  unfold State.lineStep; split
  · rfl
  · exact t.external_judgeSample _ _

@[simp] theorem external_bindRingEffect (cmd : Slot32) :
    (bindRingEffect cmd s).external = s.external := by
  unfold bindRingEffect; split <;> rfl

@[simp] theorem external_unbindRingEffect (cmd : Slot32) :
    (unbindRingEffect cmd s).external = s.external := by
  unfold unbindRingEffect; split <;> rfl

@[simp] theorem external_setGroupEffect (cmd : Slot32) :
    (setGroupEffect cmd s).external = s.external := by
  unfold setGroupEffect; split <;> rfl

@[simp] theorem external_setPairEffect (cmd : Slot32) :
    (setPairEffect cmd s).external = s.external := by
  unfold setPairEffect; split <;> rfl

@[simp] theorem external_setTripEffect (cmd : Slot32) :
    (setTripEffect cmd s).external = s.external := by
  unfold setTripEffect; split <;> rfl

@[simp] theorem external_setTokenEffect (cmd : Slot32) :
    (setTokenEffect cmd s).external = s.external := by
  unfold setTokenEffect; split <;> rfl

@[simp] theorem external_startEffect (cmd : Slot32) : (startEffect cmd s).external = s.external := by
  rw [startEffect_eq]; rfl

@[simp] theorem external_stopEffect (cmd : Slot32) : (stopEffect cmd s).external = s.external := by
  unfold stopEffect; split
  · exact State.external_of_fixed (by simp)
  · rfl

@[simp] theorem external_abortEffect (cmd : Slot32) : (abortEffect cmd s).external = s.external := by
  unfold abortEffect; dsimp only; split
  · rfl
  · refine State.external_of_fixed ?_
    split <;> simp

@[simp] theorem external_clearTripEffect (cmd : Slot32) :
    (clearTripEffect cmd s).external = s.external := by
  unfold clearTripEffect; split
  · rfl
  · dsimp only; split
    · rw [foldl_keeps State.external _ fun t g => ?_]
      · rfl
      · split <;> rfl
    · rfl

end Outside

/-- No effect but that of POWER_ON_RESET touches the reset pin or the bookkeeping. -/
theorem Happens.keeps_external {c : Instr} {s u : State} (h : Happens c s u) (hc : ∀ pin, c ≠ .powerOnReset pin) :
    u.external = s.external := by
  cases h with
  | powerOnReset pin => exact absurd rfl (hc pin)
  | admbaseLoWrite | cplbaseLoWrite | admbaseHiWrite | cplbaseHiWrite => exact s.external_whenOff _ rfl
  | groupTick | periodBoundary | starvedResume | startSetFire | converterTick | conversionEnd =>
    exact State.external_of_fixed (by simp)
  | resultWriteOk => exact s.external_resultAnswered fun w t => t.fixed_countWord w
  | resultWriteError => exact s.external_resultAnswered fun w t => t.fixed_faultWord w
  | ctrlReset | evtWrite | evtmaskWrite | admbaseHiRead | cplbaseHiRead | groupFetchIssue
  | deadTimeExpiry | recordLeave | noticeQueue | adminFetchIssue | adminReadError | completionWriteOk
  | completionWriteError | tripSample | refused | setConverter | query => rfl
  | ctrlStart | postGroupTail | postAdminTail | postCompletionRelease | registerWrite | groupReadOk
  | groupReadError | resultWriteIssue | completionWriteIssue | filteredLevelChange | bindRing | unbindRing
  | setGroup | setPair | setTrip | start | stop | abort | setToken | clearTrip | queryTrips => simp

/-- No command but POWER_ON_RESET touches the reset pin or the bookkeeping. -/
theorem exec_keeps_external {c : Instr} {s t : State} (h : exec c s = .next t)
    (hc : ∀ pin, c ≠ .powerOnReset pin) : t.external = s.external := by
  rcases exec_next h with rfl | ⟨r, rfl⟩ | ⟨r, rfl⟩ | ⟨u, hu, rfl⟩
  · rfl
  · rfl
  · rfl
  · exact hu.keeps_external hc

/-! ## O2 -/

/-- Settles O2: every arm of `exec` answers, and no effect touches the bookkeeping. -/
theorem everyCommandAnswersANextState : Obligations.EveryCommandAnswersANextState := by
  unfold Obligations.EveryCommandAnswersANextState
  intro c s
  by_cases hc : ∀ pin, c ≠ .powerOnReset pin
  · obtain ⟨t, ht⟩ := exec_answers c s
    obtain ⟨-, hpending, hclock⟩ := State.external_eq_iff.1 (exec_keeps_external ht hc)
    exact ⟨t, ht, hpending, hclock⟩
  · simp only [not_forall, not_not] at hc
    obtain ⟨pin, rfl⟩ := hc
    exact ⟨_, rfl, rfl, rfl⟩

/-! ## O3 -/

theorem State.passClock_group (s : State) (g : GroupId) :
    s.passClock.group g = (s.group g).passClock s.ctrl := by
  simp [State.passClock, State.group, vector_get]

theorem step_of_nothing_due {s : State} (hp : s.pending = []) (ho : s.nextOwn = none) :
    step s = .next s.passClock := by
  simp [step, hp, ho]

/-- A passing device clock touches the prescalers, the marks and nothing else. -/
theorem passClock_frame (s : State) :
    SameExcept (everyGroup ++ [.converter, .tripUnit, .sets, .port, .groupTicks]) s s.passClock := by
  intro b hb
  have hsame := Block.same_refl s b
  cases b with
  | group g => exact absurd (List.mem_append_left _ (group_mem_everyGroup g)) hb
  | converter | tripUnit | sets | port | groupTicks => simp at hb
  | resetPin | registers | events | pairs | tokens | captureQueue | resultWriter | admin | completion | requests =>
    exact hsame

/-- Settles O3: the step is `passClock`, whose prescalers go by the controller state. -/
theorem idleStepPassesADeviceClock : Obligations.IdleStepPassesADeviceClock := by
  unfold Obligations.IdleStepPassesADeviceClock
  intro s hp ho
  refine ⟨s.passClock, step_of_nothing_due hp ho, fun g => ?_, ?_, ?_, rfl, rfl, rfl, rfl, hp, rfl, rfl,
    passClock_frame s⟩
  · rw [State.passClock_group]
    unfold Group.passClock
    cases s.ctrl <;> rfl
  · show s.converter.passClock s.ctrl = _
    unfold Converter.passClock
    cases s.ctrl <;> rfl
  · show (if s.inReset then s.tripPresc else (s.tripPresc + 1) % 8) = _
    simp [State.inReset]

/-! ## O4 -/

/-- Every group of the state after reset is the group of its declaration's defaults. -/
theorem reset_group (g : GroupId) : State.reset.group g = {} := by revert g; decide

theorem reset_pair (p : PairId) : State.reset.pair p = {} := by revert p; decide

theorem reset_line (l : LineId) : State.reset.line l = {} := by revert l; decide

theorem reset_token (k : TokenId) : State.reset.token k = 0 := by revert k; decide

theorem settled_reset : Settled State.reset := by
  refine (settled_iff _).2 ⟨rfl, fun p => ?_, rfl, rfl, rfl⟩
  rw [reset_pair]
  rfl

theorem powerOnValues_reset : PowerOnValues State.reset where
  controller := rfl
  stat := rfl
  events := ⟨rfl, rfl, rfl⟩
  holding := rfl
  groups := reset_group
  pairs := reset_pair
  tokens := reset_token
  sets := rfl
  captureQueue := rfl
  converter := rfl
  writer := rfl
  admin := rfl
  completion := rfl
  arbiter := rfl
  bases := ⟨rfl, rfl, rfl, rfl⟩
  lines := reset_line
  tripPresc := rfl

theorem captureLaw_reset : CaptureLaw State.reset := by
  refine ⟨by decide, by decide, fun _ => rfl, by decide, fun _ => ⟨rfl, rfl⟩, by decide, fun _ => ⟨rfl, rfl, rfl⟩,
    fun g => ?_⟩
  simp [reset_group]

theorem ownerLaw_reset : OwnerLaw State.reset where
  requests := by simp [State.reset]
  current := by simp [State.reset]
  held := by simp [State.reset]
  results := by simp [State.reset]
  fill := by simp [State.reset]
  resultJob := by simp [State.reset]
  fillJob := by simp [State.reset]
  onBus := by simp [State.reset]

theorem positionLaw_reset : PositionLaw State.reset := by
  refine ⟨fun g e he => ?_, by simp [State.reset]⟩
  simp [reset_group] at he

theorem ringLaw_reset : RingLaw State.reset := by
  intro g
  rw [reset_group]
  refine ⟨by decide, by decide, rfl, by decide, fun _ => rfl, by decide, by simp, by simp, .inl (by decide),
    fun _ => rfl⟩

/-- Settles O4: the state of the declarations' defaults, law by law. -/
theorem resetMeetsEveryLaw : Obligations.ResetMeetsEveryLaw := by
  unfold Obligations.ResetMeetsEveryLaw
  refine ⟨settled_reset, fun k => by simp [reset_token], ⟨by decide, by decide, by decide, fun g => ?_⟩,
    fun l => by simp [reset_line], fun g => ?_, fun g => ?_, fun g => ?_, fun g => ?_, fun g => ?_,
    captureLaw_reset, ownerLaw_reset, positionLaw_reset, fun g => ?_, fun p => ?_, ⟨by decide, fun _ => rfl⟩, ?_,
    ⟨fun h => by simp [State.reset] at h, fun _ g => by rw [reset_group]⟩, ringLaw_reset, powerOnValues_reset⟩
  · simp [reset_group]
  · rw [reset_group]; rfl
  · rw [reset_group]; exact ⟨by simp, by simp⟩
  · rw [reset_group]; decide
  · simp [reset_group]
  · rw [reset_group]; decide
  · simp [reset_group]
  · rw [reset_pair]; decide
  · exact ⟨fun g => Nat.zero_le _, Nat.zero_le _, Nat.zero_le _, Nat.zero_le _, Nat.zero_le _⟩

/-! ## O5 -/

/-- Settles O5: a command that takes an effect ends with settling, and what drops an answer or passes a device clock
touches nothing that settling reads. -/
theorem everyStepSettlesOutputsAndRequests : Obligations.EveryStepSettlesOutputsAndRequests := by
  unfold Obligations.EveryStepSettlesOutputsAndRequests
  intro s t hs h
  refine step_keeps Settled (fun s q hs => ?_) (fun s r hs => ?_) (fun s r hs => ?_)
    (fun _ _ u _ _ => settled_settle u) (fun s hs => ?_) hs h
  · exact settled_of_same hs ⟨rfl, rfl, fun _ => rfl⟩ rfl rfl rfl rfl rfl rfl rfl rfl rfl rfl
  · exact settled_of_same hs ⟨rfl, rfl, fun _ => rfl⟩ rfl rfl rfl rfl rfl rfl rfl rfl rfl rfl
  · exact settled_of_same hs ⟨rfl, rfl, fun _ => rfl⟩ rfl rfl rfl rfl rfl rfl rfl rfl rfl rfl
  · refine settled_of_same hs ⟨rfl, rfl, fun g => ?_⟩ rfl rfl rfl rfl rfl rfl rfl rfl ?_ rfl
    · rw [State.passClock_group]; unfold Group.passClock; cases s.ctrl <;> rfl
    · have hq : ∀ g, (s.passClock.group g).queue = (s.group g).queue := fun g => by
        rw [State.passClock_group]; unfold Group.passClock; cases s.ctrl <;> rfl
      have hany : s.passClock.anyHolding = s.anyHolding := by
        simp only [State.anyHolding, hq]; rfl
      simp only [State.settledCpl, State.cplMayAsk, hany]
      rfl

/-! ## O19 -/

/-- In a complementary mode the levels of the mode are apart. -/
theorem PairMode.level_eq_activeLevel (m : PairMode) (b : Bool) : m.level b = m.activeLevel ↔ b = true := by
  cases m <;> cases b <;> decide

/-- Settles O19: the configured levels are legal, and the two delayed outputs never have an active source
together. -/
theorem complementaryOutputsNeverBothActive : Obligations.ComplementaryOutputsNeverBothActive := by
  unfold Obligations.ComplementaryOutputsNeverBothActive
  intro s p hs hlaw hmode
  obtain ⟨hidle, hsafe, hdelayed⟩ := hlaw p
  have hlegal : ∀ v : Levels, v.legal (s.pair p).mode = true →
      ¬(v.p = (s.pair p).mode.activeLevel ∧ v.n = (s.pair p).mode.activeLevel) := by
    intro v hv
    rcases hmode with hm | hm <;> simpa [Levels.legal, hm, ← not_and_or] using hv
  rw [PairUnit.bothActive, hs.pins_eq_shown p]
  cases s.selection (s.pair p) with
  | idle => exact hlegal _ hidle
  | safe => exact hlegal _ hsafe
  | waveform =>
    have hdelays : (s.pair p).mode.delays = true := by rcases hmode with hm | hm <;> rw [hm] <;> rfl
    obtain ⟨hp, hn⟩ := hdelayed hdelays
    have hwave : (s.pair p).waveLevels =
        ⟨(s.pair p).mode.level (s.pair p).outP.delayed, (s.pair p).mode.level (s.pair p).outN.delayed⟩ := by
      rcases hmode with hm | hm <;> simp [PairUnit.waveLevels, hm]
    rw [PairUnit.shown, hwave]
    rintro ⟨h1, h2⟩
    have hraw := hp ((PairMode.level_eq_activeLevel _ _).1 h1)
    have hnraw := hn ((PairMode.level_eq_activeLevel _ _).1 h2)
    simp [hraw] at hnraw

end Sys2Proof.Machine
end

section
/-! PROOF. Resets, CTRL.START, POST and the other accesses to the register window (Chapter 10, R132 to R136). -/

namespace Sys2Proof.Machine

/-! ## Frames of accesses -/

/-- Two states with the same pair units, one by one. -/
theorem State.pairs_eq_of_pair {s t : State} (h : ∀ p, t.pair p = s.pair p) : t.pairs = s.pairs :=
  Vector.ext fun i hi => h ⟨i, hi⟩

/-- Two states with the same groups, one by one. -/
theorem State.groups_eq_of_group {s t : State} (h : ∀ g, t.group g = s.group g) : t.groups = s.groups :=
  Vector.ext fun i hi => h ⟨i, hi⟩

section Access

variable {s t : State}

/-- What a change that leaves the groups' waveforms, the pairs, the events and the requests' conditions alone leaves of
a settled state after settling: every part as the change left it. -/
theorem sameExcept_settle_of_requests (hs : Settled s) (touched : List Block) (hreq : .requests ∈ touched)
    (hsel : SameSelection s t) (hp : t.pairs = s.pairs)
    (hev : .events ∉ touched → t.evt = s.evt ∧ t.evtMask = s.evtMask)
    (h : ∀ b, b ∉ touched → b ∉ [.pairs, .events] → b.Same s t) : SameExcept touched s t.settle := by
  intro b hb
  cases b with
  | requests => exact absurd hreq hb
  | pairs => exact same_settle_pairs hs hsel hp
  | events => exact same_settle_events hs (hev hb).1 (hev hb).2
  | resetPin => exact h .resetPin hb (by simp)
  | registers => exact h .registers hb (by simp)
  | group g => exact h (.group g) hb (by simp)
  | tokens => exact h .tokens hb (by simp)
  | sets => exact h .sets hb (by simp)
  | captureQueue => exact h .captureQueue hb (by simp)
  | converter => exact h .converter hb (by simp)
  | resultWriter => exact h .resultWriter hb (by simp)
  | tripUnit => exact h .tripUnit hb (by simp)
  | admin => exact h .admin hb (by simp)
  | completion => exact h .completion hb (by simp)
  | port => exact h .port hb (by simp)
  | groupTicks => exact h .groupTicks hb (by simp)

/-- The same where the change keeps the conditions of the three requesters. -/
theorem sameExcept_settle (hs : Settled s) (touched : List Block)
    (hsel : SameSelection s t) (hp : t.pairs = s.pairs)
    (hev : .events ∉ touched → t.evt = s.evt ∧ t.evtMask = s.evtMask) (hask : SameAsking s t)
    (h : ∀ b, b ∉ touched → b ∉ [.pairs, .events, .requests] → b.Same s t) : SameExcept touched s t.settle := by
  intro b hb
  by_cases hr : b = .requests
  · subst hr; exact ⟨hask.admin, hask.writer, hask.cpl⟩
  · refine sameExcept_settle_of_requests hs (.requests :: touched) (by simp) hsel hp
      (fun he => hev fun hm => he (List.mem_cons_of_mem _ hm)) (fun b hb hpe => h b ?_ ?_) b (by simp [hr, hb])
    · simp_all
    · simp_all

/-- A change that none of the three requesters looks at. -/
theorem sameAsking_of_same (hs : Settled s) (hctrl : t.ctrl = s.ctrl)
    (hg : ∀ g, (t.group g).queue = (s.group g).queue)
    (ha : t.admin = s.admin) (hw : t.writer = s.writer) (hc : t.cpl = s.cpl) (hac : t.admCode = s.admCode)
    (hcc : t.cplCode = s.cplCode) : SameAsking s t := by
  obtain ⟨-, -, h1, h2, h3⟩ := (settled_iff s).1 hs
  refine ⟨h1 ▸ ?_, h2 ▸ ?_, h3 ▸ ?_⟩
  · unfold State.settledAdmin State.adminMayAsk State.isRunning State.commandsAvailable State.admSize
    rw [hctrl, ha, hac]
  · simp [State.settledWriter, hctrl, hw]
  · unfold State.settledCpl State.cplMayAsk State.isRunning State.anyHolding State.cplSize
    simp only [hctrl, hg, ha, hc, hcc]

end Access

/-! ## The state after a reset -/

theorem settle_controllerReset (s : State) : ResetValues s.controllerReset.settle where
  controller := rfl
  stat := rfl
  events := ⟨rfl, rfl, irqLevel_zero_mask _⟩
  holding := rfl
  groups := reset_group
  pairs p := by
    rw [State.settle_pair]
    show s.controllerReset.settledPair (State.reset.pair p) = _
    rw [reset_pair]; rfl
  tokens := reset_token
  sets := rfl
  captureQueue := rfl
  converter := rfl
  writer := rfl
  admin := rfl
  completion := rfl
  arbiter := rfl

theorem powerOnValues_settle_powerOn (s : State) (pin : Level) :
    PowerOnValues { s.powerOn with rstn := pin }.settle where
  controller := rfl
  stat := rfl
  events := ⟨rfl, rfl, irqLevel_zero_mask _⟩
  holding := rfl
  groups := reset_group
  pairs p := by
    rw [State.settle_pair]
    show State.settledPair { s.powerOn with rstn := pin } (State.reset.pair p) = _
    rw [reset_pair]; rfl
  tokens := reset_token
  sets := rfl
  captureQueue := rfl
  converter := rfl
  writer := rfl
  admin := rfl
  completion := rfl
  arbiter := rfl
  bases := ⟨rfl, rfl, rfl, rfl⟩
  lines := reset_line
  tripPresc := rfl

/-! ## An asserted reset pin -/

section Held

variable {s t : State}

/-- A state that differs only in the data of the last read and the bus. -/
abbrev OnlyReadsAndBus (s t : State) : Prop := t = { s with readData := t.readData, bus := t.bus }

theorem OnlyReadsAndBus.refl (s : State) : OnlyReadsAndBus s s := rfl

/-- The values that an asserted reset pin holds are settled. -/
theorem PowerOnValues.settled (h : PowerOnValues s) : Settled s := by
  refine (settled_iff s).2 ⟨?_, fun p => ?_, ?_, ?_, ?_⟩
  · rw [h.events.1, h.events.2.1, h.events.2.2]; rfl
  · rw [h.pairs p]
    simp [State.settledPair, State.selection, PairUnit.quiet, PairUnit.shown, h.controller]
  · simp [State.settledAdmin, State.adminMayAsk, State.isRunning, h.controller, h.admin]
  · simp [State.settledWriter, h.controller, h.writer]
  · simp [State.settledCpl, State.cplMayAsk, State.isRunning, h.controller, h.completion]

theorem State.isRunning_of_off (h : s.ctrl = .off) : s.isRunning = false := by simp [State.isRunning, h]

theorem State.granted_of_not_running (h : s.isRunning = false) (r : Requester) : s.granted r = false := by
  simp [State.granted, State.grantee, h]

/-- A happening that is not due leaves the state as it is. -/
theorem happen_of_not_due {due : Bool} (hd : due = false) (s t : State) : happen due s t = .next s := by
  simp [happen, hd]

/-- An answer while the controller is OFF changes at most the bus. -/
theorem answer_of_off (h : s.ctrl = .off) (late : Bool) (r : Requester) (t : State) :
    ∃ u, answer late r s t = .next u ∧ OnlyReadsAndBus s u := by
  cases late with
  | true => exact ⟨s.dropLate r, rfl, rfl⟩
  | false => exact ⟨s, by simp [answer, happen, h, State.isRunning_of_off h], rfl⟩

theorem command_of_off (h : s.ctrl = .off) (late isRow : Bool) (cmd : Slot32) (v : AdminStatus)
    (value : BitVec 128) (f : State → State) :
    ∃ u, command late isRow cmd v value f s = .next u ∧ OnlyReadsAndBus s u := by
  cases isRow with
  | true => exact answer_of_off h late _ _
  | false => exact ⟨s, rfl, rfl⟩

/-- With the pin asserted an access to the register window has no effect (R179). -/
theorem access_of_held (hr : s.rstn = .low) (t : State) : access s t = .next s := by
  simp [access, State.inReset, hr]

/-- A register read under an asserted pin returns data and changes nothing else (R179). -/
theorem readHigh_of_held (h : PowerOnValues s) (hr : s.rstn = .low) (reg : RegName) (base : Addr) (w : ReadWidth) :
    ∃ u, readHigh reg base w s = .next u ∧ OnlyReadsAndBus s u := by
  have hin : s.inReset = true := by simp [State.inReset, hr]
  have hsettle : ({ s with readData := laneBytes (readValue reg s) w } : State).settle =
      { s with readData := laneBytes (readValue reg s) w } :=
    settle_of_same h.settled ⟨rfl, rfl, fun _ => rfl⟩ rfl rfl rfl rfl rfl rfl rfl rfl rfl rfl
  refine ⟨{ s with readData := laneBytes (readValue reg s) w }, ?_, rfl⟩
  simp only [readHigh, hin, if_true]
  exact congrArg _ hsettle

/-- While the reset pin is asserted no command but POWER_ON_RESET changes more than the data of the last read and
the bus (R52, R115, R179). -/
theorem exec_of_held (h : PowerOnValues s) (hr : s.rstn = .low) {c : Instr} (hc : ∀ pin, c ≠ .powerOnReset pin) :
    ∃ t, exec c s = .next t ∧ OnlyReadsAndBus s t := by
  have hoff := h.controller
  have hrun := State.isRunning_of_off hoff
  have notDue : ∀ {due : Bool} {t : State}, due = false →
      ∃ u, happen due s t = .next u ∧ OnlyReadsAndBus s u := fun hd => ⟨s, happen_of_not_due hd _ _, rfl⟩
  have notGranted := State.granted_of_not_running hrun
  cases c with
  | powerOnReset pin => exact absurd rfl (hc pin)
  | ctrlReset | ctrlStart | evtWrite | evtmaskWrite | postGroupTail | postAdminTail | postCompletionRelease
  | admbaseLoWrite | cplbaseLoWrite | admbaseHiWrite | cplbaseHiWrite => exact ⟨s, access_of_held hr _, rfl⟩
  | registerWrite r narrow v =>
    cases narrow with
    | true => exact ⟨s, rfl, rfl⟩
    | false => exact ⟨s, access_of_held hr _, rfl⟩
  | admbaseHiRead w => exact readHigh_of_held h hr _ _ w
  | cplbaseHiRead w => exact readHigh_of_held h hr _ _ w
  | groupFetchIssue | resultWriteIssue | adminFetchIssue | completionWriteIssue => exact notDue (notGranted _)
  | groupReadOk | groupReadError | resultWriteOk | resultWriteError | adminReadError | completionWriteOk
  | completionWriteError => exact answer_of_off hoff _ _ _
  | groupTick | periodBoundary | starvedResume => exact notDue (by simp [State.tickDue, hrun])
  | deadTimeExpiry p o => exact notDue (by simp [State.expiryDue, h.pairs p, State.selection])
  | startSetFire g => exact notDue (by simp [State.setDue, State.setOf, h.sets])
  | converterTick => exact notDue (by simp [State.convTickDue, hrun])
  | conversionEnd => exact notDue (by simp [State.conversionAtEnd, hrun])
  | recordLeave g => exact notDue (by simp [State.leaveDue, h.groups g])
  | noticeQueue g => exact notDue (by simp [State.noticeDue, hrun])
  | tripSample => exact notDue (by simp [State.tripSampleDue, State.inReset, hr])
  | filteredLevelChange l =>
    exact ⟨s, by simp [exec, execFilteredLevelChange, State.inReset, hr], rfl⟩
  | bindRing | unbindRing | setGroup | setPair | setConverter | setTrip | start | stop | abort | setToken
  | clearTrip | queryGroup | queryTokens | queryTrips | queryConverter | unknown =>
    exact command_of_off hoff _ _ _ _ _ _

/-- The held values do not look at the data of the last read, the bus, the marks or the bookkeeping. -/
theorem PowerOnValues.of_eq (h : PowerOnValues s) {pin : Level} {data : List Byte} {bus : List BusTxn} {marks : Marks}
    {clock : Nat} {pending : List Instr}
    (ht : t = { s with
      rstn := pin, readData := data, bus := bus, marks := marks, clock := clock, pending := pending }) :
    PowerOnValues t := by
  subst ht
  exact ⟨⟨h.controller, h.stat, h.events, h.holding, h.groups, h.pairs, h.tokens, h.sets, h.captureQueue, h.converter,
    h.writer, h.admin, h.completion, h.arbiter⟩, h.bases, h.lines, h.tripPresc⟩

/-- A passing device clock under an asserted pin. -/
theorem PowerOnValues.passClock (h : PowerOnValues s) (hr : s.rstn = .low) : PowerOnValues s.passClock where
  controller := h.controller
  stat := h.stat
  events := h.events
  holding := h.holding
  groups g := by rw [State.passClock_group, h.groups g, h.controller]; rfl
  pairs := h.pairs
  tokens := h.tokens
  sets := by simp [State.passClock, h.sets]
  captureQueue := h.captureQueue
  converter := by simp [State.passClock, Converter.passClock, h.converter, h.controller]
  writer := h.writer
  admin := h.admin
  completion := h.completion
  arbiter := h.arbiter
  bases := h.bases
  lines := h.lines
  tripPresc := by simp [State.passClock, State.inReset, hr, h.tripPresc]

theorem exec_keeps_held {c : Instr} (hs : HeldLaw s) (h : exec c s = .next t) : HeldLaw t := by
  intro ht
  by_cases hc : ∀ pin, c ≠ .powerOnReset pin
  · have hr : s.rstn = .low := by
      rw [← (State.external_eq_iff.1 (exec_keeps_external h hc)).1, ht]
    obtain ⟨u, hu, heq⟩ := exec_of_held (hs hr) hr hc
    obtain rfl : u = t := by rw [h] at hu; exact (Host.Outcome.next.inj hu).symm
    exact (hs hr).of_eq heq
  · simp only [not_forall, not_not] at hc
    obtain ⟨pin, rfl⟩ := hc
    simp only [exec, execPowerOnReset, Host.Outcome.next.injEq] at h
    exact h ▸ powerOnValues_settle_powerOn s pin

/-- Every step keeps the law that an asserted pin holds the power-on values. -/
theorem step_keeps_held (hs : HeldLaw s) (h : step s = .next t) : HeldLaw t := by
  rcases step_next h with ⟨c, rest, -, h⟩ | ⟨c, -, -, h⟩ | ⟨-, -, rfl⟩
  · exact exec_keeps_held (s := { s with pending := rest }) (fun hr => (hs hr).of_eq rfl) h
  · exact exec_keeps_held hs h
  · exact fun hr => (hs hr).passClock hr

end Held

/-! ## O21 -/

/-- Settles O21: the two resets field by field, and an asserted pin command by command. -/
theorem resetsLeaveTheResetValues : Obligations.ResetsLeaveTheResetValues := by
  unfold Obligations.ResetsLeaveTheResetValues
  refine ⟨fun s hr => ?_, fun s pin => ?_, fun c s hs hr hc => exec_of_held (hs hr) hr hc,
    fun s t => step_keeps_held⟩
  · exact ⟨_, access_of_released hr _, settle_controllerReset s, rfl, rfl, rfl, rfl, rfl, rfl, rfl, rfl, rfl⟩
  · exact ⟨_, rfl, powerOnValues_settle_powerOn s pin, rfl, rfl, rfl⟩

end Sys2Proof.Machine
end

section
/-! PROOF. CTRL.START, POST, the base registers and the other writes (R132 to R136, R173 to R183), and the order of the
arbiter (R147). -/

namespace Sys2Proof.Machine

/-! ## CTRL.START -/

section Start

variable {s : State}

/-- The low bits of a base are clear exactly where it is a multiple. -/
theorem extractLsb'_eq_zero_iff {n : Nat} (v : BitVec n) (k : Nat) :
    v.extractLsb' 0 k = 0 ↔ v.toNat % 2 ^ k = 0 := by
  rw [← BitVec.toNat_inj]
  simp [BitVec.extractLsb'_toNat]

/-- The checks of CTRL.START as numbers (R176). -/
theorem State.geometryLegal_iff (s : State) : s.geometryLegal = true ↔
    s.admBase.toNat % 32 = 0 ∧ s.cplBase.toNat % 32 = 0 ∧ 2 ≤ s.admCode.toNat ∧ s.admCode.toNat ≤ 8
      ∧ 4 ≤ s.cplCode.toNat ∧ s.cplCode.toNat ≤ 12 := by
  simp only [State.geometryLegal, Bool.and_eq_true, beq_iff_eq, extractLsb'_eq_zero_iff, decide_eq_true_eq, and_assoc]
  rfl

/-- In OFF with a legal geometry the controller starts with empty rings. -/
theorem ctrlStart_of_legal (hoff : s.ctrl = .off) (hl : s.geometryLegal = true) :
    s.ctrlStart = { s with
      ctrl := .running
      stat := { s.stat with cfgErr := false }
      admin := { s.admin with tail := 0, fetch := 0 }
      cpl := { s.cpl with write := 0, release := 0, unreleased := 0, lap := true } } := by
  simp [State.ctrlStart, hoff, hl]

theorem ctrlStart_of_illegal (hoff : s.ctrl = .off) (hl : s.geometryLegal = false) :
    s.ctrlStart = { s with stat := { s.stat with cfgErr := true } } := by
  simp [State.ctrlStart, hoff, hl]

/-- Leaving OFF for RUNNING changes no selection: neither controller state overrides the group's. -/
theorem settledPair_ctrlStart (hoff : s.ctrl = .off) (hl : s.geometryLegal = true) (u : PairUnit) :
    s.ctrlStart.settledPair u = s.settledPair u := by
  have hsel : s.ctrlStart.selection u = s.selection u := by
    rw [ctrlStart_of_legal hoff hl]
    cases hu : u.group with
    | none => simp [State.selection, hu]
    | some g => simp [State.selection, hu, hoff]; rfl
  simp only [State.settledPair, hsel, hoff]
  rw [ctrlStart_of_legal hoff hl]
  rfl

theorem settle_ctrlStart_pairs (hs : Settled s) (hoff : s.ctrl = .off) (hl : s.geometryLegal = true) :
    s.ctrlStart.settle.pairs = s.pairs := by
  refine State.pairs_eq_of_pair fun p => ?_
  have hpair : s.ctrlStart.pair p = s.pair p := by rw [ctrlStart_of_legal hoff hl]; rfl
  rw [State.settle_pair, settledPair_ctrlStart hoff hl, hpair]
  exact ((settled_iff s).1 hs).2.1 p

theorem ctrlStart_frame (hs : Settled s) (hoff : s.ctrl = .off) (hl : s.geometryLegal = true) :
    SameExcept [.registers, .admin, .completion, .requests] s s.ctrlStart.settle := by
  intro b hb
  cases b with
  | registers | admin | completion | requests => simp at hb
  | pairs => exact settle_ctrlStart_pairs hs hoff hl
  | events => rw [ctrlStart_of_legal hoff hl]; exact same_settle_events hs rfl rfl
  | resultWriter => rw [ctrlStart_of_legal hoff hl]; exact ⟨rfl, rfl, rfl, rfl, rfl⟩
  | resetPin | group _ | tokens | sets | captureQueue | groupTicks => rw [ctrlStart_of_legal hoff hl]; rfl
  | converter => rw [ctrlStart_of_legal hoff hl]; exact ⟨rfl, rfl⟩
  | tripUnit | port => rw [ctrlStart_of_legal hoff hl]; exact ⟨rfl, rfl, rfl⟩

end Start

/-- Settles O22: the checks of R176 decide between the two effects, and outside OFF there is none. -/
theorem startChecksTheRingGeometry : Obligations.StartChecksTheRingGeometry := by
  unfold Obligations.StartChecksTheRingGeometry
  intro s hs hr
  have hexec : exec .ctrlStart s = .next s.ctrlStart.settle := access_of_released hr _
  simp only [← State.geometryLegal_iff]
  refine ⟨fun hoff => ?_, fun hoff => ⟨fun hl => ?_, fun hl => ?_⟩⟩
  · have hstart : s.ctrlStart = s := by simp [State.ctrlStart, hoff]
    rw [hexec, hstart, show s.settle = s from hs]
  · refine ⟨s.ctrlStart.settle, hexec, ?_⟩
    have hframe := ctrlStart_frame hs hoff hl
    rw [ctrlStart_of_legal hoff hl] at hframe ⊢
    exact ⟨rfl, rfl, rfl, rfl, rfl, rfl, rfl, rfl, rfl, rfl, rfl, rfl, rfl, rfl, rfl, rfl, rfl, hframe⟩
  · rw [hexec, ctrlStart_of_illegal hoff (Bool.eq_false_of_not_eq_true hl)]
    exact congrArg _ (settle_of_same hs ⟨rfl, rfl, fun _ => rfl⟩ rfl rfl rfl rfl rfl rfl rfl rfl rfl rfl)

/-! ## POST (R132 to R136) -/

section Post

variable {s : State}

/-- What a POST write that is ignored leaves: the event, and ring and index in STAT (R133). -/
abbrev PostRecorded (s : State) (ring : BitVec 3) (i : Word16) (t : State) : Prop :=
  t.evt = s.evt ||| 0b100000#6 ∧ t.evtMask = s.evtMask
    ∧ t.stat = { s.stat with postRing := ring, postIndex := i }
    ∧ Block.Same { s with stat := t.stat } t .registers
    ∧ SameExcept [.registers, .events] s t

theorem postIgnored_recorded (hs : Settled s) (ring : BitVec 3) (i : Word16) :
    PostRecorded s ring i (s.postIgnored ring i).settle := by
  refine ⟨rfl, rfl, rfl, ⟨rfl, rfl, rfl, rfl, rfl, rfl, rfl, rfl⟩, ?_⟩
  refine sameExcept_settle hs _ ⟨rfl, rfl, fun _ => rfl⟩ rfl (by simp)
    (sameAsking_of_same hs rfl (fun _ => rfl) rfl rfl rfl rfl rfl) fun b hb hb' => ?_
  have hsame := Block.same_refl s b
  cases b with
  | registers | events => simp at hb
  | pairs | requests => simp at hb'
  | resetPin | group _ | tokens | sets | captureQueue | converter | resultWriter | tripUnit | admin | completion
  | port | groupTicks => exact hsame

/-- A tail posted to a group ring moves that tail alone: no requester looks at it but the group's fetcher. -/
theorem postTail_frame (hs : Settled s) (g : GroupId) (n : Nat) :
    SameExcept [.group g] s (s.modGroup g fun x => { x with ring := { x.ring with tail := n } }).settle := by
  have hproducing := sameSelection_modGroup s g (fun x => { x with ring := { x.ring with tail := n } }) rfl
  have hqueue : ∀ m, ((s.modGroup g fun x => { x with ring := { x.ring with tail := n } }).group m).queue
      = (s.group m).queue := fun m => by rw [State.group_modGroup]; split <;> rfl
  refine sameExcept_settle hs _ hproducing rfl (fun _ => ⟨rfl, rfl⟩)
    (sameAsking_of_same hs rfl hqueue rfl rfl rfl rfl rfl) fun b hb hb' => ?_
  have hsame := Block.same_refl s b
  cases b with
  | group m => exact State.group_modGroup_ne s _ fun h => hb (by simp [h])
  | pairs | events | requests => simp at hb'
  | resetPin | registers | tokens | sets | captureQueue | converter | resultWriter | tripUnit | admin | completion
  | port | groupTicks => exact hsame

theorem postAdmin_frame (hs : Settled s) (n : Nat) :
    SameExcept [.admin, .requests] s ({ s with admin := { s.admin with tail := n } } : State).settle := by
  refine sameExcept_settle_of_requests hs _ (by simp) ⟨rfl, rfl, fun _ => rfl⟩ rfl (fun _ => ⟨rfl, rfl⟩)
    fun b hb hb' => ?_
  have hsame := Block.same_refl s b
  cases b with
  | admin | requests => simp at hb
  | pairs | events => simp at hb'
  | resetPin | registers | group _ | tokens | sets | captureQueue | converter | resultWriter | tripUnit | completion
  | port | groupTicks => exact hsame

theorem postRelease_frame (hs : Settled s) (r u : Nat) :
    SameExcept [.completion, .requests] s
      ({ s with cpl := { s.cpl with release := r, unreleased := u } } : State).settle := by
  refine sameExcept_settle_of_requests hs _ (by simp) ⟨rfl, rfl, fun _ => rfl⟩ rfl (fun _ => ⟨rfl, rfl⟩)
    fun b hb hb' => ?_
  have hsame := Block.same_refl s b
  cases b with
  | completion | requests => simp at hb
  | pairs | events => simp at hb'
  | resetPin | registers | group _ | tokens | sets | captureQueue | converter | resultWriter | tripUnit | admin
  | port | groupTicks => exact hsame

theorem State.groupTailAccepted_iff (s : State) (g : GroupId) (n : Nat) : s.groupTailAccepted g n = true ↔
    s.ctrl = .running ∧ (s.group g).ring.bound = true ∧ n < (s.group g).ring.size
      ∧ ¬(0 < (n + (s.group g).ring.size - (s.group g).ring.retire) % (s.group g).ring.size
        ∧ (n + (s.group g).ring.size - (s.group g).ring.retire) % (s.group g).ring.size
            < (s.group g).ring.span) := by
  simp only [State.groupTailAccepted, State.isRunning, Bool.and_eq_true, beq_iff_eq, decide_eq_true_eq,
    Bool.not_eq_true', ← Bool.not_eq_true, and_assoc]
  rfl

end Post

/-- Settles O23: each of the three rows is taken under its condition, and recorded otherwise. -/
theorem postWritesAreTakenOrRecorded : Obligations.PostWritesAreTakenOrRecorded := by
  unfold Obligations.PostWritesAreTakenOrRecorded
  intro s g i hs hr
  refine ⟨?_, ?_, ?_⟩
  · simp only [← State.groupTailAccepted_iff]
    have hexec : exec (.postGroupTail g i) s = .next (s.postGroup g i).settle := access_of_released hr _
    split
    · rename_i h
      rw [State.postGroup, if_pos h] at hexec
      exact ⟨_, hexec, by simp, postTail_frame hs g i.toNat⟩
    · rename_i h
      rw [State.postGroup, if_neg h] at hexec
      exact ⟨_, hexec, postIgnored_recorded hs _ _⟩
  · have hexec : exec (.postAdminTail i) s = .next (s.postAdmin i).settle := access_of_released hr _
    have hiff : (s.isRunning && decide (i.toNat < s.admSize)) = true ↔
        s.ctrl = .running ∧ i.toNat < 2 ^ s.admCode.toNat := by
      simp only [Bool.and_eq_true, State.isRunning, beq_iff_eq, decide_eq_true_eq]; rfl
    split
    · rename_i h
      rw [State.postAdmin, if_pos (hiff.2 h)] at hexec
      exact ⟨_, hexec, rfl, rfl, rfl, postAdmin_frame hs _⟩
    · rename_i h
      rw [State.postAdmin, if_neg (mt hiff.1 h)] at hexec
      exact ⟨_, hexec, postIgnored_recorded hs _ _⟩
  · have hexec : exec (.postCompletionRelease i) s = .next (s.postRelease i).settle := access_of_released hr _
    have hiff : (s.isRunning && decide (i.toNat < s.cplSize)
        && decide (s.released i.toNat ≤ s.cpl.unreleased)) = true ↔
        s.ctrl = .running ∧ i.toNat < 2 ^ s.cplCode.toNat ∧ s.released i.toNat ≤ s.cpl.unreleased := by
      simp only [Bool.and_eq_true, State.isRunning, beq_iff_eq, decide_eq_true_eq, and_assoc]; rfl
    rw [show (if i.toNat = s.cpl.write then s.cpl.unreleased else
      (i.toNat + 2 ^ s.cplCode.toNat - s.cpl.release) % 2 ^ s.cplCode.toNat) = s.released i.toNat from rfl]
    split
    · rename_i h
      rw [State.postRelease, if_pos (hiff.2 h)] at hexec
      exact ⟨_, hexec, rfl, rfl, rfl, rfl, rfl, rfl, postRelease_frame hs _ _⟩
    · rename_i h
      rw [State.postRelease, if_neg (mt hiff.1 h)] at hexec
      exact ⟨_, hexec, postIgnored_recorded hs _ _⟩

/-! ## The base registers (R180, R181) -/

/-- A change of the holding word, the bases or the read data keeps a state settled. -/
theorem settle_bases {s : State} (hs : Settled s) (holding : Word32) (adm cpl : Addr) (data : List Byte) :
    ({ s with holding := holding, admBase := adm, cplBase := cpl, readData := data } : State).settle =
      { s with holding := holding, admBase := adm, cplBase := cpl, readData := data } :=
  settle_of_same hs ⟨rfl, rfl, fun _ => rfl⟩ rfl rfl rfl rfl rfl rfl rfl rfl rfl rfl

/-- Settles O24: row by row of Table 10.5, under the lock of R181. -/
theorem baseRegistersShareTheHoldingWord : Obligations.BaseRegistersShareTheHoldingWord := by
  unfold Obligations.BaseRegistersShareTheHoldingWord
  refine ⟨fun s v hs hr hoff => ?_, fun s v hs hoff => ?_, fun s => ⟨rfl, rfl⟩, fun s w hs hr => ?_,
    fun s => ⟨fun pin => ⟨_, rfl, rfl, rfl, rfl⟩, fun hr => ⟨_, access_of_released hr _, rfl, rfl, rfl⟩⟩⟩
  · have taken : ∀ holding adm cpl, access s (State.whenOff
        { s with holding := holding, admBase := adm, cplBase := cpl, readData := s.readData } s) = .next
          { s with holding := holding, admBase := adm, cplBase := cpl, readData := s.readData } := by
      intro holding adm cpl
      rw [State.whenOff_of_off hoff, access_of_released hr, settle_bases hs]
    exact ⟨taken _ _ _, taken _ _ _, taken _ _ _, taken _ _ _⟩
  · have ignored := access_whenOff_of_not_off hs hoff
    exact ⟨ignored _, ignored _, ignored _, ignored _⟩
  · have hin : s.inReset = false := by simp [State.inReset, hr]
    have read : ∀ reg base, readHigh reg base w s = .next { s with
        readData := laneBytes (readValue reg s) w, holding := base.extractLsb' 0 32 } := by
      intro reg base
      simp only [readHigh, hin]
      exact congrArg _ (settle_bases hs _ _ _ _)
    exact ⟨read _ _, read _ _⟩

/-! ## The other writes -/

section Writes

variable {s : State}

/-- Clearing events touches EVT and the interrupt line. -/
theorem clearEvt_frame (hs : Settled s) (bits : BitVec 6) :
    SameExcept [.events] s (s.clearEvt bits).settle := by
  refine sameExcept_settle hs _ ⟨rfl, rfl, fun _ => rfl⟩ rfl (by simp)
    (sameAsking_of_same hs rfl (fun _ => rfl) rfl rfl rfl rfl rfl) fun b hb hb' => ?_
  have hsame := Block.same_refl s b
  cases b with
  | events => simp at hb
  | pairs | requests => simp at hb'
  | resetPin | registers | group _ | tokens | sets | captureQueue | converter | resultWriter | tripUnit | admin
  | completion | port | groupTicks => exact hsame

theorem clearEvt_getLsbD (s : State) (v : Word32) (i : Fin 6) :
    (s.clearEvt (v.extractLsb' 0 6)).evt.getLsbD i = (s.evt.getLsbD i && !v.getLsbD i) := by
  simp [State.clearEvt]

theorem groupOfCode_eq_none {n : Nat} (h : 4 ≤ n) : groupOfCode n = none := by
  simp [groupOfCode]; omega

/-- A ring id of 6 or 7 names no ring (R133 case 2). -/
theorem writePost_of_no_ring (s : State) (v : Word32) (h : 6 ≤ (v.extractLsb' 16 3).toNat) :
    s.writePost v = s.postIgnored (v.extractLsb' 16 3) (v.extractLsb' 0 16) := by
  have h4 : ¬ v.extractLsb' 16 3 = 4 := by intro h'; rw [h'] at h; simp at h
  have h5 : ¬ v.extractLsb' 16 3 = 5 := by intro h'; rw [h'] at h; simp at h
  unfold State.writePost
  dsimp only
  rw [groupOfCode_eq_none (by omega)]
  simp only [beq_iff_eq, if_neg h4, if_neg h5]

end Writes

/-- Settles O27: EVT clears by bits, and the other writes have no effect or that of an ignored POST. -/
theorem otherRegisterWrites : Obligations.OtherRegisterWrites := by
  unfold Obligations.OtherRegisterWrites
  intro s v hs hr
  refine ⟨⟨_, access_of_released hr _, fun i => clearEvt_getLsbD s v i, rfl, ?_, clearEvt_frame hs _⟩,
    fun reg => rfl, access_self hs, fun h0 h1 => ?_, fun h6 => ?_⟩
  · rw [(settled_settle _).irqLaw.irq_iff]
    simp only [State.settle_evt, State.settle_evtMask, clearEvt_getLsbD, State.clearEvt_evtMask, Bool.and_eq_true,
      Bool.not_eq_true', and_assoc]
  · have hself : s.writeReg .ctrl v = s := by
      simp only [State.writeReg, State.writeCtrl, h0, h1, Bool.false_eq_true, if_false]
    show access s (s.writeReg .ctrl v) = _
    rw [hself, access_self hs]
  · have hpost : s.writeReg .post v = _ := writePost_of_no_ring s v h6
    refine ⟨_, ?_, postIgnored_recorded hs _ _⟩
    show access s (s.writeReg .post v) = _
    rw [hpost, access_of_released hr]

/-! ## The arbiter (R147) -/

section Arbiter

variable (s : State)

/-- The conditions of R23, one by one. -/
theorem State.fetcherAsks_iff (g : GroupId) : s.fetcherAsks g = true ↔
    s.ctrl = .running
      ∧ ((s.group g).state = .armed ∨ (s.group g).state = .running ∨ (s.group g).state = .starved)
      ∧ (s.group g).window.length < 6 ∧ (∀ e ∈ (s.group g).window, e.st ≠ .fetching)
      ∧ (s.group g).ring.span < (s.group g).ring.size
      ∧ s.outstanding (.fetcher g) = false
      ∧ 0 < ((s.group g).ring.tail + (s.group g).ring.size - (s.group g).ring.fetch)
          % (s.group g).ring.size := by
  have hno : (!(s.group g).hasFetching) = true ↔ ∀ e ∈ (s.group g).window, e.st ≠ .fetching := by
    simp [Group.hasFetching]
  simp only [State.fetcherAsks, State.isRunning, Bool.and_eq_true, Bool.or_eq_true, beq_iff_eq, decide_eq_true_eq, hno,
    Bool.not_eq_true', and_assoc, or_assoc]
  rfl

/-- A grant falls on the first requester in the arbiter's order that asks. -/
theorem State.granted_iff (r : Requester) : s.granted r = true ↔
    (s.ctrl = .running ∧ s.marks.grant = false) ∧ s.arbiterOrder.find? s.asking = some r := by
  simp only [State.granted, State.grantee, beq_iff_eq]
  by_cases h : s.ctrl = .running ∧ s.marks.grant = false
  · simp [State.isRunning, h]
  · have hoff : (s.isRunning && !s.marks.grant) = false := by
      simp only [State.isRunning, Bool.and_eq_false_iff, beq_eq_false_iff_ne, Bool.not_eq_false']
      by_cases hc : s.ctrl = .running
      · exact .inr (by simpa [hc] using h)
      · exact .inl hc
    simp [hoff, h]

/-- Of four in a row, the first that asks is the one before which none asks. -/
theorem find?_four {α : Type} (asks : α → Bool) (f : Fin 4 → α) (hf : Function.Injective f) (j : Fin 4) :
    [f 0, f 1, f 2, f 3].find? asks = some (f j) ↔
      asks (f j) = true ∧ ∀ k < j, asks (f k) = false := by
  have hforall : ∀ P : Fin 4 → Prop, (∀ k, P k) ↔ P 0 ∧ P 1 ∧ P 2 ∧ P 3 := fun P => by
    refine ⟨fun h => ⟨h 0, h 1, h 2, h 3⟩, fun ⟨h0, h1, h2, h3⟩ k => ?_⟩
    fin_cases k <;> assumption
  rw [hforall]
  cases h0 : asks (f 0) <;> cases h1 : asks (f 1) <;> cases h2 : asks (f 2) <;> cases h3 : asks (f 3) <;>
    fin_cases j <;> simp [h0, h1, h2, h3, hf.eq_iff]

/-- The fetchers' order, from the one after the last granted. -/
theorem find?_fetcherOrder (asks : GroupId → Bool) (last g : GroupId) :
    [last + 1, last + 2, last + 3, last].find? asks = some g ↔
      asks g = true ∧ ∀ k : GroupId, k < g - last - 1 → asks (last + 1 + k) = false := by
  have horder : [last + 1, last + 2, last + 3, last] =
      [last + 1 + 0, last + 1 + 1, last + 1 + 2, last + 1 + 3] := by revert last; decide
  have hg : g = last + 1 + (g - last - 1) := by revert g last; decide
  have h := find?_four asks (fun k => last + 1 + k) (add_right_injective _) (g - last - 1)
  rwa [← hg, ← horder] at h

end Arbiter

/-- Settles O28: the first asking requester of the order, and the conditions of R23. -/
theorem arbiterTakesRequestersInItsOrder : Obligations.ArbiterTakesRequestersInItsOrder := by
  unfold Obligations.ArbiterTakesRequestersInItsOrder
  intro s
  have hfind : ∀ asks : Requester → Bool, s.arbiterOrder.find? asks =
      if asks .completionWriter then some .completionWriter
      else if asks .resultWriter then some .resultWriter
      else if asks .adminProcessor then some .adminProcessor
      else (s.fetcherOrder.find? (asks ∘ .fetcher)).map .fetcher := by
    intro asks
    rw [State.arbiterOrder, List.find?_append, List.find?_map]
    cases h1 : asks .completionWriter <;> cases h2 : asks .resultWriter <;> cases h3 : asks .adminProcessor <;>
      simp [h1, h2, h3]
  have hasks : (s.asking .completionWriter = true ↔ s.cpl.state = .asking)
      ∧ (s.asking .resultWriter = true ↔ s.writer.write = .asking)
      ∧ (s.asking .adminProcessor = true ↔ s.admin.state = .asking) := by simp [State.asking]
  obtain ⟨hc, hw, ha⟩ := hasks
  have hfetch : ∀ g : GroupId, s.fetcherOrder.find? (s.asking ∘ .fetcher) = some g ↔ _ :=
    fun g => find?_fetcherOrder s.fetcherAsks s.lastFetcher g
  refine ⟨?_, ?_, ?_, fun g => ?_, s.fetcherAsks_iff⟩ <;>
    rw [State.granted_iff, hfind] <;> simp only [hc, hw, ha] <;> by_cases h1 : s.cpl.state = .asking
  · simp [h1]
  · by_cases h2 : s.writer.write = .asking <;> by_cases h3 : s.admin.state = .asking <;> simp [h1, h2, h3]
  · simp [h1]
  · by_cases h2 : s.writer.write = .asking <;> by_cases h3 : s.admin.state = .asking <;> simp [h1, h2, h3]
  · simp [h1]
  · by_cases h2 : s.writer.write = .asking <;> by_cases h3 : s.admin.state = .asking <;> simp [h1, h2, h3]
  · simp [h1]
  · by_cases h2 : s.writer.write = .asking
    · simp [h1, h2]
    · by_cases h3 : s.admin.state = .asking
      · simp [h1, h2, h3]
      · simp only [h1, h2, h3, if_false, Option.map_eq_some_iff, hfetch, Requester.fetcher.injEq]
        simp [h1, h2, h3]

end Sys2Proof.Machine
end

section
/-! PROOF. What a well-formed administrative row comes to (R151), and every refused command (O60). -/

namespace Sys2Proof.Machine

/-! ## The rows of the administrative commands -/

/-- An opcode above 0Ch, or 00h, names none of the twelve commands (Table 11.7). -/
theorem opcodeKnown_eq_false_iff (op : Byte) : opcodeKnown op = false ↔ op = 0 ∨ 12 < op.toNat := by
  revert op; decide

/-- A well-formed administrative row is a command that carries the row's opcode, judged by its own verdict. -/
theorem exec_admin {c : Instr} {s : State} {late : Bool} {cmd : Slot32} {v : AdminStatus}
    (hw : c.wellFormed = true) (ha : answersTo c = some (late, .adminProcessor))
    (hv : adminVerdict c s = some (cmd, v)) :
    ∃ value f, exec c s = command late true cmd v value f s := by
  have row : ∀ {isRow : Bool} {value : BitVec 128} {f : State → State}, isRow = true →
      exec c s = command late isRow cmd v value f s → ∃ value f, exec c s = command late true cmd v value f s :=
    fun hr he => ⟨_, _, hr ▸ he⟩
  cases c <;> simp only [adminVerdict, reduceCtorEq, Option.some.injEq, Prod.mk.injEq] at hv <;>
    obtain ⟨rfl, rfl⟩ := hv <;> simp only [answersTo, Option.some.injEq, Prod.mk.injEq] at ha <;>
    obtain ⟨rfl, -⟩ := ha
  case queryGroup =>
    simp only [Instr.wellFormed, Bool.and_eq_true, beq_iff_eq, bne_iff_ne] at hw
    obtain ⟨⟨⟨hop, h1⟩, h2⟩, h3⟩ := hw
    refine row ?_ rfl
    simp only [isQuery, Cmd.opcode, hop, Bool.not_eq_true', Bool.or_eq_false_iff, beq_self_eq_true,
      Bool.true_and, beq_eq_false_iff_ne]
    exact ⟨⟨h1, h2⟩, h3⟩
  case unknown =>
    simp only [Instr.wellFormed, Bool.or_eq_true, beq_iff_eq, decide_eq_true_eq] at hw
    refine row ?_ rfl
    rw [Bool.not_eq_true']
    exact (opcodeKnown_eq_false_iff _).2 hw
  all_goals exact row hw rfl

/-- Every row that answers the administrative processor but the ERROR answer has a slot and a verdict. -/
theorem adminVerdict_isSome {c : Instr} {late : Bool} (ha : answersTo c = some (late, .adminProcessor)) (s : State) :
    c = .adminReadError late ∨ ∃ cmd v, adminVerdict c s = some (cmd, v) := by
  cases c <;> simp only [answersTo, reduceCtorEq, Option.some.injEq, Prod.mk.injEq, and_false] at ha
  case adminReadError => exact .inl (by rw [ha.1])
  all_goals exact .inr ⟨_, _, rfl⟩

/-! ## O60 -/

/-- Settles O60: a verdict other than OK is refused with it, and an opcode outside the table gives UNKNOWN. -/
theorem refusedCommandsChangeNothing : Obligations.RefusedCommandsChangeNothing := by
  unfold Obligations.RefusedCommandsChangeNothing
  refine ⟨fun c s cmd status hs ha hw hans hv hne => ?_, fun s cmd hs ha hop => ?_⟩
  · obtain ⟨value, f, he⟩ := exec_admin hw hans hv
    exact refused_of_command hs ha he rfl hne
  · have hrow : (!opcodeKnown (Cmd.opcode cmd)) = true := by
      rw [Bool.not_eq_true', opcodeKnown_eq_false_iff]
      refine hop.imp_left fun h => BitVec.eq_of_toNat_eq h
    refine refused_of_command (verdict := .unknown) (value := 0) (f := id) hs ha ?_ rfl (by decide)
    rw [← hrow]; rfl

end Sys2Proof.Machine
end

section
/-! PROOF. Late answers, and what HALTED keeps (R61, R113, R123, R149, R150). -/

namespace Sys2Proof.Machine

/-! ## Answers that are not taken -/

/-- A well-formed answer is an answer to its requester. -/
theorem exec_answer {c : Instr} {late : Bool} {r : Requester} (hw : c.wellFormed = true)
    (ha : answersTo c = some (late, r)) (s : State) : ∃ t, exec c s = answer late r s t := by
  by_cases hr : r = .adminProcessor
  · subst hr
    rcases adminVerdict_isSome ha s with rfl | ⟨cmd, v, hv⟩
    · exact ⟨_, rfl⟩
    · obtain ⟨value, f, he⟩ := exec_admin hw ha hv
      exact ⟨_, he⟩
  · cases c <;> simp only [answersTo, reduceCtorEq, Option.some.injEq, Prod.mk.injEq] at ha <;>
      obtain ⟨rfl, rfl⟩ := ha <;> first | exact absurd rfl hr | exact ⟨_, rfl⟩

/-! ## HALTED -/

section Halted

variable {s : State}

/-- A change of the registers that the host still writes, the events, the trip unit and the bus. -/
def State.haltedUpdate (s : State) (ring : BitVec 3) (index : Word16) (evt mask : BitVec 6) (holding : Word32)
    (data : List Byte) (lines : Vector TripLine 4) (tripMark : Bool) (bus : List BusTxn) : State :=
  { s with
    stat := { s.stat with postRing := ring, postIndex := index }, evt := evt, evtMask := mask, holding := holding
    readData := data, lines := lines, marks := { s.marks with trip := tripMark }, bus := bus }

/-- In HALTED a bound pair shows its safe levels, whatever the trip lines say (R61). -/
theorem State.selection_of_halted' {s t : State} (hs : s.ctrl = .halted) (ht : t.ctrl = .halted) (u : PairUnit) :
    t.selection u = s.selection u := by
  cases hu : u.group with
  | none => rw [State.selection_of_unbound hu, State.selection_of_unbound hu]
  | some g => rw [State.selection_of_halted hu hs, State.selection_of_halted hu ht]

/-- What HALTED keeps through one command. -/
abbrev KeepsHalted (s t : State) : Prop :=
  StaysHalted s t ∧ SameExcept [.registers, .events, .tripUnit, .port] s t

variable (hs : Settled s) (hh : s.ctrl = .halted)
include hs hh

/-- Such a change keeps what HALTED holds: the selections rest on the controller state alone, and each requester's
condition on parts that stay. -/
theorem haltedUpdate_settle (ring : BitVec 3) (index : Word16) (evt mask : BitVec 6) (holding : Word32)
    (data : List Byte) (lines : Vector TripLine 4) (tripMark : Bool) (bus : List BusTxn) :
    KeepsHalted s (s.haltedUpdate ring index evt mask holding data lines tripMark bus).settle := by
  generalize hu : s.haltedUpdate ring index evt mask holding data lines tripMark bus = u
  have hask : SameAsking s u := by
    subst hu; exact sameAsking_of_same hs rfl (fun _ => rfl) rfl rfl rfl rfl rfl
  have hpairs : u.settle.pairs = s.pairs := by
    refine State.pairs_eq_of_pair fun p => ?_
    have hp := ((settled_iff s).1 hs).2.1 p
    have hctrl : u.ctrl = .halted := by subst hu; exact hh
    have hpair : u.pair p = s.pair p := by subst hu; rfl
    rw [State.settledPair_eq, hh] at hp
    rw [State.settle_pair, hpair, State.settledPair_eq, State.selection_of_halted' hh hctrl, hctrl, hp]
  have hframe : SameExcept [.registers, .events, .tripUnit, .port] s u.settle := by
    subst hu
    intro b hb
    have hsame := Block.same_refl s b
    cases b with
    | registers | events | tripUnit | port => simp at hb
    | pairs => exact hpairs
    | requests => exact ⟨hask.admin, hask.writer, hask.cpl⟩
    | resetPin | group _ | tokens | sets | captureQueue | converter | resultWriter | admin | completion
    | groupTicks => exact hsame
  refine ⟨?_, hframe⟩
  have hwide : SameExcept [.registers, .events, .sets, .converter, .tripUnit, .port, .groupTicks] s u.settle :=
    fun b hb => hframe b (by simp_all)
  subst hu
  exact ⟨hh, rfl, rfl, rfl, rfl, rfl, rfl, rfl, rfl, hwide⟩

/-- A state that is settled and changed only so is kept in the same way. -/
theorem haltedUpdate_keeps (ring : BitVec 3) (index : Word16) (holding : Word32) (data : List Byte)
    (tripMark : Bool) (bus : List BusTxn) {t : State}
    (ht : t = s.haltedUpdate ring index s.evt s.evtMask holding data s.lines tripMark bus) : KeepsHalted s t := by
  have hsettle : t.settle = t := by
    subst ht
    exact settle_of_same hs ⟨rfl, rfl, fun _ => rfl⟩ rfl rfl rfl rfl rfl rfl rfl rfl rfl rfl
  rw [← hsettle, ht]
  exact haltedUpdate_settle hs hh _ _ _ _ _ _ _ _ _

end Halted

section HaltedHappenings

variable {s : State} (hh : s.ctrl = .halted)
include hh

/-- A state changed only where HALTED admits it. -/
abbrev State.HaltedUpdate (s u : State) : Prop :=
  ∃ ring index evt mask holding data lines tripMark bus,
    u = s.haltedUpdate ring index evt mask holding data lines tripMark bus

omit hh in
theorem State.HaltedUpdate.refl (s : State) : s.HaltedUpdate s := ⟨_, _, _, _, _, _, _, _, _, rfl⟩

theorem State.isRunning_of_halted : s.isRunning = false := by simp [State.isRunning, hh]

theorem HaltedUpdate.whenOff (t : State) : s.HaltedUpdate (State.whenOff t s) := by
  rw [State.whenOff_of_not_off (by simp [hh])]; exact .refl s

omit hh in
theorem HaltedUpdate.postIgnored (ring : BitVec 3) (i : Word16) : s.HaltedUpdate (s.postIgnored ring i) :=
  ⟨_, _, _, _, _, _, _, _, _, rfl⟩

theorem HaltedUpdate.postGroup (g : GroupId) (i : Word16) : s.HaltedUpdate (s.postGroup g i) := by
  rw [State.postGroup, if_neg (by simp [State.groupTailAccepted, State.isRunning_of_halted hh])]
  exact HaltedUpdate.postIgnored _ _

theorem HaltedUpdate.postAdmin (i : Word16) : s.HaltedUpdate (s.postAdmin i) := by
  rw [State.postAdmin, if_neg (by simp [State.isRunning_of_halted hh])]
  exact HaltedUpdate.postIgnored _ _

theorem HaltedUpdate.postRelease (i : Word16) : s.HaltedUpdate (s.postRelease i) := by
  rw [State.postRelease, if_neg (by simp [State.isRunning_of_halted hh])]
  exact HaltedUpdate.postIgnored _ _

theorem HaltedUpdate.ctrlStart : s.HaltedUpdate s.ctrlStart := by
  rw [State.ctrlStart, if_neg (by simp [hh])]
  exact .refl s

/-- A register write that is well formed is no reset. -/
theorem HaltedUpdate.writeReg (reg : RegName) (v : Word32) (hw : (Instr.registerWrite reg false v).wellFormed = true) :
    s.HaltedUpdate (s.writeReg reg v) := by
  cases reg with
  | devid | stat => exact .refl s
  | ctrl =>
    simp only [Instr.wellFormed, hasOwnRow, Bool.false_or, Bool.not_eq_true', Bool.or_eq_false_iff] at hw
    simp only [State.writeReg, State.writeCtrl, hw.1, hw.2, Bool.false_eq_true, if_false]
    exact .refl s
  | evt | evtmask => exact ⟨_, _, _, _, _, _, _, _, _, rfl⟩
  | post =>
    simp only [State.writeReg, State.writePost]
    split
    · exact HaltedUpdate.postGroup hh _ _
    · split
      · exact HaltedUpdate.postAdmin hh _
      · split
        · exact HaltedUpdate.postRelease hh _
        · exact HaltedUpdate.postIgnored _ _
  | admbaseLo | cplbaseLo | admbaseHi | cplbaseHi | ringcfg => exact HaltedUpdate.whenOff hh _

/-- In HALTED a filtered level changes and latches, and moves no group (R123). -/
theorem HaltedUpdate.judgeSample (l : LineId) (level : Level) : s.HaltedUpdate (s.judgeSample l level) := by
  unfold State.judgeSample State.levelChange
  simp only [State.isRunning_of_halted hh, Bool.false_eq_true, if_false]
  split
  · split <;> exact ⟨_, _, _, _, _, _, _, _, _, rfl⟩
  · exact ⟨_, _, _, _, _, _, _, _, _, rfl⟩

/-- In HALTED no happening takes place but those of the register window and of the trip unit, and of these CTRL.START,
the base registers and the tails have no effect. -/
theorem Happens.haltedUpdate {c : Instr} {u : State} (h : Happens c s u) (hc : isReset c = false)
    (hw : c.wellFormed = true) : s.HaltedUpdate u := by
  have hrun := State.isRunning_of_halted hh
  have notRunning : s.ctrl ≠ .running := by simp [hh]
  have notGranted : ∀ {r}, s.granted r ≠ true := by simp [State.granted_of_not_running hrun]
  cases h with
  | powerOnReset | ctrlReset => cases hc
  | ctrlStart => exact HaltedUpdate.ctrlStart hh
  | evtWrite | evtmaskWrite | admbaseHiRead | cplbaseHiRead | tripSample => exact ⟨_, _, _, _, _, _, _, _, _, rfl⟩
  | postGroupTail => exact HaltedUpdate.postGroup hh _ _
  | postAdminTail => exact HaltedUpdate.postAdmin hh _
  | postCompletionRelease => exact HaltedUpdate.postRelease hh _
  | admbaseLoWrite | cplbaseLoWrite | admbaseHiWrite | cplbaseHiWrite => exact HaltedUpdate.whenOff hh _
  | registerWrite => exact HaltedUpdate.writeReg hh _ _ hw
  | filteredLevelChange => exact HaltedUpdate.judgeSample hh _ _
  | deadTimeExpiry p o _ h =>
    simp only [State.expiryDue, Bool.and_eq_true, beq_iff_eq] at h
    cases hg : (s.pair p).group with
    | none => rw [State.selection_of_unbound hg] at h; simp at h
    | some g => rw [State.selection_of_halted hg hh] at h; simp at h
  | groupFetchIssue _ _ h | resultWriteIssue _ h | adminFetchIssue _ h | completionWriteIssue _ h =>
    exact absurd h notGranted
  | groupReadOk _ _ _ h | groupReadError _ _ h | resultWriteOk _ h | resultWriteError _ h | adminReadError _ h
  | completionWriteOk _ h | completionWriteError _ h => exact absurd h.running notRunning
  | refused _ _ _ _ h | bindRing _ _ h | unbindRing _ _ h | setGroup _ _ h | setPair _ _ h | setConverter _ _ h
  | setTrip _ _ h | start _ _ h | stop _ _ h | abort _ _ h | setToken _ _ h | clearTrip _ _ h | query _ _ _ _ h
  | queryTrips _ _ _ h => exact absurd h.running notRunning
  | groupTick _ _ h | periodBoundary _ _ h | starvedResume _ _ h => simp [State.tickDue, hrun] at h
  | startSetFire g _ h =>
    unfold State.setDue at h
    split at h <;> simp [hrun] at h
  | converterTick _ _ h => simp [State.convTickDue, hrun] at h
  | conversionEnd _ h => simp [State.conversionAtEnd, hrun] at h
  | recordLeave g _ h =>
    unfold State.leaveDue at h
    split at h <;> simp [hrun] at h
  | noticeQueue _ _ h => simp [State.noticeDue, hrun] at h

end HaltedHappenings

section HaltedSteps

variable {s t : State} (hs : Settled s) (hh : s.ctrl = .halted)
include hs hh

/-- In HALTED every command but the two resets keeps what HALTED holds. -/
theorem exec_keepsHalted {c : Instr} (hw : c.wellFormed = true) (hc : isReset c = false) (h : exec c s = .next t) :
    KeepsHalted s t := by
  rcases exec_next h with rfl | ⟨r, rfl⟩ | ⟨r, rfl⟩ | ⟨u, hu, rfl⟩
  · exact haltedUpdate_keeps hs hh _ _ _ _ _ _ rfl
  · exact haltedUpdate_keeps hs hh _ _ _ _ _ _ rfl
  · exact haltedUpdate_keeps hs hh _ _ _ _ _ _ rfl
  · obtain ⟨_, _, _, _, _, _, _, _, _, rfl⟩ := hu.haltedUpdate hh hc hw
    exact haltedUpdate_settle hs hh _ _ _ _ _ _ _ _ _

omit hs in
/-- A passing device clock keeps what HALTED holds, and clears the model's marks (log 17). -/
theorem passClock_staysHalted : StaysHalted s s.passClock := by
  refine ⟨hh, rfl, rfl, rfl, rfl, rfl, ?_, rfl, ?_, fun b hb => ?_⟩
  · simp [State.passClock, Converter.passClock, hh]
  · simp [State.passClock, Function.comp_def]
  · have hsame := Block.same_refl s b
    cases b with
    | registers | events | sets | converter | tripUnit | port | groupTicks => simp at hb
    | group g =>
      show s.passClock.group g = s.group g
      rw [State.passClock_group, hh]; rfl
    | resetPin | pairs | tokens | captureQueue | resultWriter | admin | completion | requests => exact hsame

end HaltedSteps

/-- Nothing that the block does of itself is a reset, and each is well formed. -/
theorem nextOwn_wellFormed {s : State} {c : Instr} (h : s.nextOwn = some c) :
    c.wellFormed = true ∧ isReset c = false := by
  simp only [State.nextOwn, Option.map_eq_some_iff] at h
  obtain ⟨⟨b, c⟩, hf, rfl⟩ := h
  have hm := List.mem_of_find?_eq_some hf
  simp only [State.ownHappenings, State.ownGroup, List.mem_append, List.mem_map, List.mem_flatMap, List.mem_cons,
    List.not_mem_nil, or_false, Prod.mk.injEq] at hm
  rcases hm with (((((⟨l, -, -, rfl⟩ | ⟨-, rfl⟩) | ⟨p, -, ⟨-, rfl⟩ | ⟨-, rfl⟩⟩) | (⟨-, rfl⟩ | ⟨-, rfl⟩))
    | ⟨g, -, ⟨-, rfl⟩ | ⟨-, rfl⟩ | ⟨-, rfl⟩ | ⟨-, rfl⟩ | ⟨-, rfl⟩ | ⟨-, rfl⟩⟩)
    | (⟨-, rfl⟩ | ⟨-, rfl⟩ | ⟨-, rfl⟩)) | ⟨g, -, -, rfl⟩ <;> exact ⟨rfl, rfl⟩

/-! ## O29 -/

/-- Settles O29: answers that are not taken, then HALTED command by command and step by step. -/
theorem lateAndHaltedAnswersChangeNothing : Obligations.LateAndHaltedAnswersChangeNothing := by
  unfold Obligations.LateAndHaltedAnswersChangeNothing
  refine ⟨fun c s late r hw ha => ?_, fun c s hs hh hw hc => ?_, fun s hs hh hp => ?_⟩
  · obtain ⟨t, he⟩ := exec_answer hw ha s
    refine ⟨fun hl => ?_, fun hl hh => ?_⟩
    · subst hl; exact he
    · subst hl; rw [he, answer, if_neg (by decide), if_pos (by simp [hh])]; rfl
  · obtain ⟨t, ht⟩ := exec_answers c s
    exact ⟨t, ht, exec_keepsHalted hs hh hw hc ht⟩
  · unfold step
    split
    · rename_i c rest hpend
      obtain ⟨hw, hc⟩ := hp c (by simp [hpend])
      obtain ⟨t, ht⟩ := exec_answers c { s with pending := rest }
      have hs' : Settled ({ s with pending := rest } : State) :=
        settled_of_same hs ⟨rfl, rfl, fun _ => rfl⟩ rfl rfl rfl rfl rfl rfl rfl rfl rfl rfl
      exact ⟨t, ht, (exec_keepsHalted hs' hh hw hc ht).1⟩
    · split
      · rename_i c hown
        obtain ⟨hw, hc⟩ := nextOwn_wellFormed hown
        obtain ⟨t, ht⟩ := exec_answers c s
        exact ⟨t, ht, (exec_keepsHalted hs hh hw hc ht).1⟩
      · exact ⟨_, rfl, passClock_staysHalted hh⟩

end Sys2Proof.Machine
end

section
/-! PROOF. The issue and the answers of a group read (R8, R9, R11, R23, R24), with the bytes of a segment record (R185,
Tables 11.1 and 11.2). -/

namespace Sys2Proof.Machine

/-! ## The fields of a record -/

section Fields

variable (c : Slot64)

theorem Seg.byteAt_toNat (off : Nat) : (Seg.byteAt c off).toNat = fieldOf c off 1 := rfl

theorem fieldOf_one_lt (off : Nat) : fieldOf c off 1 < 256 := BitVec.isLt _

/-- The flag byte's bits are bits 16 to 23 of the slot. -/
theorem Seg.byteAt_flags_getLsbD {i : Nat} (hi : i < 8) : (Seg.byteAt c 0x02).getLsbD i = flagOf c i := by
  simp [Seg.byteAt, flagOf, hi]

/-- The low nibble of a byte. -/
theorem Seg.byteAt_low (off : Nat) : ((Seg.byteAt c off).extractLsb' 0 4).toNat = fieldOf c off 1 % 16 := by
  rw [BitVec.extractLsb'_toNat, Nat.shiftRight_zero, Seg.byteAt_toNat]

/-- The high nibble of a byte. -/
theorem Seg.byteAt_high (off : Nat) : ((Seg.byteAt c off).extractLsb' 4 4).toNat = fieldOf c off 1 / 16 := by
  have := fieldOf_one_lt c off
  rw [BitVec.extractLsb'_toNat, Seg.byteAt_toNat, Nat.shiftRight_eq_div_pow]
  omega

/-- A byte is a number exactly where its value is. -/
theorem Seg.byteAt_eq_iff (off n : Nat) (hn : n < 256) : Seg.byteAt c off = BitVec.ofNat 8 n ↔ fieldOf c off 1 = n := by
  rw [← BitVec.toNat_inj, Seg.byteAt_toNat, BitVec.toNat_ofNat, Nat.mod_eq_of_lt hn]

theorem extractLsb'_eq_zero_iff_field (off n : Nat) : c.extractLsb' (8 * off) (8 * n) = 0 ↔ fieldOf c off n = 0 := by
  rw [← BitVec.toNat_inj]; rfl

/-- The two reserved bits of the flag byte. -/
theorem Seg.reservedFlags_iff :
    (Seg.byteAt c 0x02).extractLsb' 6 2 = 0 ↔ flagOf c 6 = false ∧ flagOf c 7 = false := by
  rw [← Seg.byteAt_flags_getLsbD c (by decide : 6 < 8), ← Seg.byteAt_flags_getLsbD c (by decide : 7 < 8)]
  generalize Seg.byteAt c 0x02 = b
  revert b; decide

/-- Where each field of a record lies (R185). -/
theorem recordLayout : RecordLayout c where
  tag := rfl
  flags := by
    refine ⟨?_, ?_, ?_, ?_, ?_, ?_⟩ <;> exact Seg.byteAt_flags_getLsbD c (by decide)
  run := ⟨rfl, rfl⟩
  duty i _ := rfl
  wait := ⟨rfl, rfl⟩
  post := by
    have hflag : Seg.hasPost c = flagOf c 4 := Seg.byteAt_flags_getLsbD c (by decide)
    refine ⟨rfl, rfl, ?_, ?_⟩
    · simp only [Seg.postsAtStart, Bool.and_eq_true, hflag, beq_iff_eq, Seg.postTiming]
      exact and_congr_right fun _ => Seg.byteAt_eq_iff c 0x18 0 (by decide)
    · simp only [Seg.postsAtEnd, Bool.and_eq_true, hflag, beq_iff_eq, Seg.postTiming]
      exact and_congr_right fun _ => Seg.byteAt_eq_iff c 0x18 1 (by decide)
  capture := ⟨rfl, rfl, rfl⟩
  points j _ := ⟨rfl, rfl, Seg.byteAt_low c _, Seg.byteAt_high c _⟩

/-! ## The checks of R8 -/

theorem Seg.check1_iff : Seg.check1 c = true ↔
    fieldOf c 0x1C 4 = 0 ∧ fieldOf c 0x38 8 = 0 ∧ flagOf c 6 = false ∧ flagOf c 7 = false := by
  simp only [Seg.check1, Bool.and_eq_true, beq_iff_eq, Seg.reservedFlags_iff, and_assoc]
  exact and_congr (extractLsb'_eq_zero_iff_field c 0x1C 4) (and_congr_left fun _ => extractLsb'_eq_zero_iff_field c 0x38 8)

theorem Seg.check3_iff : Seg.check3 c = true ↔ (flagOf c 2 = false → fieldOf c 0x06 2 ≠ 0) := by
  have hflag : Seg.hold c = flagOf c 2 := Seg.byteAt_flags_getLsbD c (by decide)
  rw [Seg.check3, hflag, show Seg.repeats c = fieldOf c 0x06 2 from rfl]
  cases flagOf c 2 <;> simp [Nat.one_le_iff_ne_zero]

theorem Seg.check5_iff : Seg.check5 c = true ↔
    ∀ i < 6, i < fieldOf c 0x03 1 → fieldOf c (0x08 + 2 * i) 2 ≤ fieldOf c 0x04 2 := by
  simp only [Seg.check5, List.all_eq_true, List.mem_range, Bool.or_eq_true, Bool.not_eq_true', decide_eq_true_eq,
    decide_eq_false_iff_not, ← imp_iff_not_or]
  rfl

theorem Seg.check6_iff : Seg.check6 c = true ↔
    (flagOf c 3 = true → 1 ≤ fieldOf c 0x15 1 ∧ fieldOf c 0x15 1 ≤ 15 ∧ fieldOf c 0x14 1 ≤ 15) := by
  have hflag : Seg.hasWait c = flagOf c 3 := Seg.byteAt_flags_getLsbD c (by decide)
  rw [Seg.check6, hflag, show Seg.waitNeed c = fieldOf c 0x15 1 from rfl,
    show Seg.waitToken c = fieldOf c 0x14 1 from rfl]
  cases flagOf c 3 <;> simp [and_assoc]

theorem Seg.check7_iff : Seg.check7 c = true ↔
    (flagOf c 4 = true → 1 ≤ fieldOf c 0x17 1 ∧ fieldOf c 0x17 1 ≤ 15 ∧ fieldOf c 0x16 1 ≤ 15
      ∧ fieldOf c 0x18 1 ≤ 1) := by
  have hflag : Seg.hasPost c = flagOf c 4 := Seg.byteAt_flags_getLsbD c (by decide)
  have h0 : Seg.postTiming c = 0 ↔ fieldOf c 0x18 1 = 0 := Seg.byteAt_eq_iff c 0x18 0 (by decide)
  have h1 : Seg.postTiming c = 1 ↔ fieldOf c 0x18 1 = 1 := Seg.byteAt_eq_iff c 0x18 1 (by decide)
  rw [Seg.check7, hflag, show Seg.postAdd c = fieldOf c 0x17 1 from rfl,
    show Seg.postToken c = fieldOf c 0x16 1 from rfl]
  simp only [Bool.or_eq_true, Bool.not_eq_true', Bool.and_eq_true, decide_eq_true_eq, beq_iff_eq, h0, h1, and_assoc,
    Nat.le_one_iff_eq_zero_or_eq_one]
  cases flagOf c 4 <;> simp

theorem Seg.check8_iff : Seg.check8 c = true ↔
    (flagOf c 5 = true → 1 ≤ fieldOf c 0x19 1 ∧ fieldOf c 0x19 1 ≤ 4) := by
  have hflag : Seg.hasCapture c = flagOf c 5 := Seg.byteAt_flags_getLsbD c (by decide)
  rw [Seg.check8, hflag, show Seg.pointCount c = fieldOf c 0x19 1 from rfl]
  cases flagOf c 5 <;> simp

theorem Seg.check9_iff : Seg.check9 c = true ↔
    (flagOf c 5 = true → fieldOf c 0x1A 2 ≠ 0 ∧ fieldOf c 0x20 8 % 2 = 0) := by
  have hflag : Seg.hasCapture c = flagOf c 5 := Seg.byteAt_flags_getLsbD c (by decide)
  have heven : (Seg.resultAddr c).getLsbD 0 = decide (fieldOf c 0x20 8 % 2 = 1) := by
    rw [← BitVec.testBit_toNat, Nat.testBit_zero]; rfl
  rw [Seg.check9, hflag, show Seg.capacity c = fieldOf c 0x1A 2 from rfl, heven]
  cases flagOf c 5 <;> simp [Nat.one_le_iff_ne_zero]

theorem Seg.check10_iff : Seg.check10 c = true ↔
    (flagOf c 5 = true → fieldOf c 0x20 8 + 2 * (fieldOf c 0x1A 2 - 1) < 2 ^ 64) := by
  have hflag : Seg.hasCapture c = flagOf c 5 := Seg.byteAt_flags_getLsbD c (by decide)
  rw [Seg.check10, hflag]
  simp only [Bool.or_eq_true, Bool.not_eq_true', decide_eq_true_eq, ← Bool.not_eq_true, ← imp_iff_not_or]
  rfl

theorem Seg.pointOk_iff (mode : CountMode) (j : Nat) : Seg.pointOk c mode j = true ↔
    fieldOf c (0x28 + 4 * j) 2 < fieldOf c 0x04 2 ∧ fieldOf c (0x2A + 4 * j) 1 ≤ 11
      ∧ fieldOf c (0x2B + 4 * j) 1 % 16 ∈ [1, 2, 4, 8]
      ∧ (fieldOf c (0x2B + 4 * j) 1 / 16 = 0 ∨ (fieldOf c (0x2B + 4 * j) 1 / 16 = 1 ∧ mode = .centre)) := by
  have hover : Seg.pointOversample c j = fieldOf c (0x2B + 4 * j) 1 % 16 := Seg.byteAt_low c _
  have hslope : Seg.pointSlope c j = fieldOf c (0x2B + 4 * j) 1 / 16 := Seg.byteAt_high c _
  simp only [Seg.pointOk, hover, hslope, Bool.and_eq_true, Bool.or_eq_true, decide_eq_true_eq, beq_iff_eq, and_assoc,
    or_assoc, List.mem_cons, List.not_mem_nil, or_false]
  rfl

theorem Seg.check11_iff (mode : CountMode) : Seg.check11 c mode = true ↔
    (flagOf c 5 = true → ∀ j < 4, j < fieldOf c 0x19 1 → Seg.pointOk c mode j = true) := by
  have hflag : Seg.hasCapture c = flagOf c 5 := Seg.byteAt_flags_getLsbD c (by decide)
  rw [Seg.check11, hflag]
  simp only [Bool.or_eq_true, Bool.not_eq_true', List.all_eq_true, List.mem_range, decide_eq_true_eq,
    ← Bool.not_eq_true, ← imp_iff_not_or]
  rfl

/-- The validation of a copy is the list of checks of R8. -/
theorem Seg.valid_iff (mode : CountMode) (boundPairs : Nat) :
    Seg.valid c mode boundPairs = true ↔ RecordPasses c mode boundPairs := by
  simp only [Seg.valid, Bool.and_eq_true, and_assoc, Seg.check1_iff, Seg.check3_iff, Seg.check5_iff, Seg.check6_iff,
    Seg.check7_iff, Seg.check8_iff, Seg.check9_iff, Seg.check10_iff, Seg.check11_iff, Seg.pointOk_iff]
  simp only [Seg.check2, Seg.check4, decide_eq_true_eq, beq_iff_eq]
  constructor
  · rintro ⟨a1, a2, a3, a4, h2, h3, h4, h5, h6, h7, h8, h9, h10, h11⟩
    exact ⟨⟨a1, a2, a3, a4⟩, h2, h3, h4, h5, h6, h7, h8, h9, h10, h11⟩
  · rintro ⟨⟨a1, a2, a3, a4⟩, h2, h3, h4, h5, h6, h7, h8, h9, h10, h11⟩
    exact ⟨a1, a2, a3, a4, h2, h3, h4, h5, h6, h7, h8, h9, h10, h11⟩

end Fields

/-! ## The issue of a read -/

section Reads

variable {s t : State} {g : GroupId}

theorem State.granted_running {r : Requester} (h : s.granted r = true) : s.ctrl = .running :=
  ((s.granted_iff r).1 h).1.1

/-- A change of one group that keeps its queue and whether it produces, and of the bus port, leaves all else as it
was. -/
theorem groupPort_frame (hs : Settled s) (g : GroupId) (f : Group → Group) (bus : List BusTxn) (last : GroupId)
    (grant : Bool) (hprod : (f (s.group g)).producing = (s.group g).producing)
    (hq : (f (s.group g)).queue = (s.group g).queue)
    (ht : t = { s.modGroup g f with bus := bus, lastFetcher := last, marks := { s.marks with grant := grant } }) :
    SameExcept [.group g, .port] s t.settle := by
  subst ht
  have hsel := sameSelection_modGroup s g f hprod
  have hqueue : ∀ m, ((s.modGroup g f).group m).queue = (s.group m).queue := fun m => by
    rw [State.group_modGroup]
    split
    · next h => subst h; exact hq
    · rfl
  refine sameExcept_settle hs _ ⟨rfl, rfl, hsel.producing⟩ rfl (fun _ => ⟨rfl, rfl⟩)
    (sameAsking_of_same hs rfl hqueue rfl rfl rfl rfl rfl) fun b hb hb' => ?_
  have hsame := Block.same_refl s b
  cases b with
  | group m => exact State.group_modGroup_ne s _ fun h => hb (by simp [h])
  | port => simp at hb
  | pairs | events | requests => simp at hb'
  | resetPin | registers | tokens | sets | captureQueue | converter | resultWriter | tripUnit | admin | completion
  | groupTicks => exact hsame

/-- An entry that is FETCHING does not produce. -/
theorem Group.producing_beginFetch (x : Group) : x.beginFetch.producing = x.producing := by
  have hno : (EntryState.fetching == EntryState.active) = false := rfl
  simp [Group.producing, Group.hasActive, Group.beginFetch, hno]

/-- Nor does an entry that a read has settled. -/
theorem Group.producing_settleFetch (x : Group) {f : Entry → Entry} (hf : ∀ e, (f e).st ≠ .active) :
    (x.settleFetch f).producing = x.producing := by
  have hactive : (x.settleFetch f).hasActive = x.hasActive := by
    simp only [Group.hasActive, Group.settleFetch, List.any_map]
    refine List.any_congr rfl fun e => ?_
    by_cases he : e.st = .fetching <;> simp [he, hf]
  simp only [Group.producing, hactive]
  rfl

theorem exec_groupFetchIssue (h : s.granted (.fetcher g) = true) :
    exec (.groupFetchIssue g) s = .next
      ({ ((s.modGroup g Group.beginFetch).issue
          { requester := .fetcher g, addr := slotAddr (s.group g).ring.base 64 (s.group g).ring.fetch
            op := .readRecord }) with lastFetcher := g } : State).settle := by
  show happen (s.granted (.fetcher g)) s _ = _
  rw [h]; rfl

/-! ## The answers to a read -/

/-- An answer that is awaited takes its effect. -/
theorem answer_of_awaits {r : Requester} (ha : Awaits s r) (u : State) : answer false r s u = .next u.settle := by
  obtain ⟨hr, ho⟩ := ha
  simp [answer, happen, State.isRunning, hr, ho]

theorem Group.hasFetching_iff (x : Group) : x.hasFetching = true ↔ ∃ e ∈ x.window, e.st = .fetching := by
  simp [Group.hasFetching]

/-- The answer to a cancelled read moves the bus alone. -/
theorem readAnswered_of_cancelled {f : Entry → Entry} (h : ∀ e ∈ (s.group g).window, e.st ≠ .fetching) :
    s.readAnswered g f = s.answered (.fetcher g) := by
  have hno : (s.group g).hasFetching = false := by simpa [Group.hasFetching] using h
  have hno' : ((s.answered (.fetcher g)).group g).hasFetching = false := hno
  simp only [State.readAnswered, hno', Bool.false_eq_true, if_false]

theorem readAnswered_of_settled {f : Entry → Entry} (h : ∃ e ∈ (s.group g).window, e.st = .fetching)
    (hf : ((s.group g).settleFetch f).readFaults = false) :
    s.readAnswered g f = (s.answered (.fetcher g)).modGroup g (Group.settleFetch f) := by
  have hyes : ((s.answered (.fetcher g)).group g).hasFetching = true := (Group.hasFetching_iff _).2 h
  have hnone : (((s.answered (.fetcher g)).modGroup g (Group.settleFetch f)).group g).readFaults = false := by
    rw [State.group_modGroup_same]; exact hf
  simp only [State.readAnswered, hyes, if_true, hnone, Bool.false_eq_true, if_false]

theorem answered_frame (hs : Settled s) (r : Requester) : SameExcept [.port] s (s.answered r).settle := by
  refine sameExcept_settle hs _ ⟨rfl, rfl, fun _ => rfl⟩ rfl (fun _ => ⟨rfl, rfl⟩)
    (sameAsking_of_same hs rfl (fun _ => rfl) rfl rfl rfl rfl rfl) fun b hb hb' => ?_
  have hsame := Block.same_refl s b
  cases b with
  | port => simp at hb
  | pairs | events | requests => simp at hb'
  | resetPin | registers | group _ | tokens | sets | captureQueue | converter | resultWriter | tripUnit | admin
  | completion | groupTicks => exact hsame

theorem Entry.fetched_st (slot : Slot64) (valid : Bool) (e : Entry) : (e.fetched slot valid).st ≠ .active := by
  cases valid <;> simp [Entry.fetched]

theorem Entry.fetchFailed_st (e : Entry) : e.fetchFailed.st ≠ .active := by simp [Entry.fetchFailed]

/-- What a read's answer does where it faults no group. -/
theorem readAnswered_settles (hs : Settled s) {f : Entry → Entry} (hst : ∀ e, (f e).st ≠ .active)
    (h : ∃ e ∈ (s.group g).window, e.st = .fetching) (hf : ((s.group g).settleFetch f).readFaults = false) :
    (s.readAnswered g f).settle.group g = (s.group g).settleFetch f
      ∧ AnswerTaken (.fetcher g) s (s.readAnswered g f).settle
      ∧ SameExcept [.group g, .port] s (s.readAnswered g f).settle := by
  rw [readAnswered_of_settled h hf]
  exact ⟨by simp, ⟨rfl, rfl, rfl⟩,
    groupPort_frame hs g _ _ _ _ (Group.producing_settleFetch _ hst) rfl rfl⟩

/-- The window that settling writes out, as the model's function makes it. -/
theorem Group.settleFetch_eq (x : Group) (f : Entry → Entry) :
    x.settleFetch f = { x with window := x.window.map fun e => if e.st = .fetching then f e else e } := by
  simp only [Group.settleFetch, beq_iff_eq]

end Reads

/-! ## O30 and O31 -/

/-- Settles O30: the granted fetcher opens the entry and issues the read. -/
theorem fetchIssueOpensAFetchingEntry : Obligations.FetchIssueOpensAFetchingEntry := by
  unfold Obligations.FetchIssueOpensAFetchingEntry
  intro s g hs hg x
  refine ⟨_, exec_groupFetchIssue hg, ?_, rfl, rfl, rfl, rfl, ?_⟩
  · exact s.group_modGroup_same g Group.beginFetch
  · exact groupPort_frame hs g Group.beginFetch _ _ _ (Group.producing_beginFetch _) rfl rfl

/-- Settles O31: the checks on the bytes, the places of the fields, and the entry that an answer settles. -/
theorem readAnswerSettlesTheFetchingEntry : Obligations.ReadAnswerSettlesTheFetchingEntry := by
  unfold Obligations.ReadAnswerSettlesTheFetchingEntry
  refine ⟨Seg.valid_iff, recordLayout, ?_⟩
  intro s g slot hs ha x settled ok error
  refine ⟨fun hno => ?_, fun hyes => ?_⟩
  · have hcancelled : ∀ f, (s.readAnswered g f).settle = (s.answered (.fetcher g)).settle := fun f => by
      rw [readAnswered_of_cancelled hno]
    exact ⟨⟨_, (answer_of_awaits ha _).trans (congrArg _ (hcancelled _)), ⟨rfl, rfl, rfl⟩, answered_frame hs _⟩,
      ⟨_, (answer_of_awaits ha _).trans (congrArg _ (hcancelled _)), ⟨rfl, rfl, rfl⟩, answered_frame hs _⟩⟩
  · refine ⟨fun hok => ?_, fun herror => ?_⟩
    · have hsettled : ok = x.settleFetch
          (Entry.fetched slot (Seg.valid slot x.mode (s.boundPairs g).length)) :=
        (Group.settleFetch_eq _ _).symm
      rw [hsettled] at hok ⊢
      exact ⟨_, answer_of_awaits ha _, readAnswered_settles hs (Entry.fetched_st _ _) hyes hok⟩
    · have hsettled : error = x.settleFetch Entry.fetchFailed := (Group.settleFetch_eq _ _).symm
      rw [hsettled] at herror ⊢
      exact ⟨_, answer_of_awaits ha _, readAnswered_settles hs Entry.fetchFailed_st hyes herror⟩

end Sys2Proof.Machine
end

section
/-! PROOF. The end of a dead time (R54), the triggers of capture points (R82 to R88) and the group ticks inside a period
(R48 to R54). -/

namespace Sys2Proof.Machine

/-! ## Pairs that show their waveform -/

section Waveform

variable {s t : State}

/-- A pair that shows its waveform keeps its working state when it settles, and its pins take Table 3.4's levels. -/
theorem State.settledPair_of_waveform {u : PairUnit} (h : s.selection u = .waveform) :
    s.settledPair u = { u with pins := waveformPins u } := by
  rw [State.settledPair_eq, h, ← PairUnit.waveLevels_eq_waveformPins]
  rfl

/-- The selection reads of a pair its group alone. -/
theorem State.selection_of_group {u v : PairUnit} (h : v.group = u.group) : s.selection v = s.selection u := by
  simp [State.selection, h]

/-- The pairs of a settled state after one pair unit is written. -/
theorem settle_setPair_pair (s : State) (p q : PairId) (x : PairUnit) :
    (s.setPair p x).settle.pair q = s.settledPair (if q = p then x else s.pair q) := by
  have hsel : SameSelection s (s.setPair p x) := ⟨rfl, rfl, fun _ => rfl⟩
  rw [State.settle_pair, hsel.settledPair, State.pair_setPair]

theorem setPair_frame (hs : Settled s) (p : PairId) (x : PairUnit) : SameExcept [.pairs] s (s.setPair p x).settle := by
  obtain ⟨-, -, h1, h2, h3⟩ := (settled_iff s).1 hs
  intro b hb
  have hsame := Block.same_refl s b
  cases b with
  | pairs => simp at hb
  | events => exact same_settle_events hs rfl rfl
  | requests => exact ⟨h1, h2, h3⟩
  | resetPin | registers | group _ | tokens | sets | captureQueue | converter | resultWriter | tripUnit | admin
  | completion | port | groupTicks => exact hsame

end Waveform

/-- Settles O35: the output's becoming active moves its pin to the active level, and the other pin stays. -/
theorem deadTimeExpiryActivatesTheOutput : Obligations.DeadTimeExpiryActivatesTheOutput := by
  unfold Obligations.DeadTimeExpiryActivatesTheOutput
  intro s p o hs u hsel hmode hout
  have hdue : s.expiryDue p o = true := by
    have hdelays : u.mode.delays = true := by rcases hmode with h | h <;> rw [h] <;> rfl
    have hsource : u.source o = true ∧ u.out o = ⟨0, false⟩ := by
      cases o <;> simpa [PairUnit.source, PairUnit.out] using hout
    show (s.selection u == .waveform && u.mode.delays && u.source o && (u.out o).timer == 0
      && !(u.out o).delayed) = true
    simp [hsel, hdelays, hsource]
  refine ⟨(s.setPair p (u.expire o)).settle, ?_, ?_, fun q hq => ?_, setPair_frame hs p _⟩
  · show happen (s.expiryDue p o) s _ = _
    rw [hdue]; rfl
  · have hexpired : (u.expire o).group = u.group := by cases o <;> rfl
    have hpins : u.pins = waveformPins u := by
      rw [hs.pins_eq_shown p, ← PairUnit.waveLevels_eq_waveformPins, hsel]; rfl
    rw [settle_setPair_pair, if_pos rfl, State.settledPair_of_waveform ((State.selection_of_group hexpired).trans hsel),
      hpins]
    cases o with
    | p =>
      have hp : u.outP = ⟨0, false⟩ := hout.2
      rcases hmode with h | h <;> simp [PairUnit.expire, waveformPins, h, hp, PairMode.activeLevel]
    | n =>
      have hn : u.outN = ⟨0, false⟩ := hout.2
      rcases hmode with h | h <;> simp [PairUnit.expire, waveformPins, h, hn, PairMode.activeLevel]
  · rw [settle_setPair_pair, if_neg hq]
    exact ((settled_iff s).1 hs).2.1 q

/-! ## Triggers -/

/-- The points of a tick, in ascending number (R86). -/
theorem State.triggers_eq (s : State) (g : GroupId) :
    s.triggers g = (((s.triggerPoint g 0).triggerPoint g 1).triggerPoint g 2).triggerPoint g 3 := by
  simp only [State.triggers, List.foldl_cons, List.foldl_nil]

section Triggers

variable {s : State} {g : GroupId} {j : Nat} {e : Entry}

theorem State.triggerPoint_of_not (h : ∀ e, (s.group g).active? = some e →
    (s.group g).pointTriggers e.copy j = false) : s.triggerPoint g j = s := by
  unfold State.triggerPoint
  split
  · rfl
  · rename_i e he
    simp [h e he]

variable (he : (s.group g).active? = some e) (hp : (s.group g).pointTriggers e.copy j = true)
include he hp

theorem State.triggerPoint_of_full (hc : Seg.capacity e.copy ≤ e.periodsRun * Seg.pointCount e.copy + j) :
    s.triggerPoint g j = s.modEntry ⟨g, e.slot⟩ fun f => { f with flags := { f.flags with resultTruncated := true } } := by
  simp only [State.triggerPoint, he, hp, if_true, if_pos hc]
  rfl

/-- The request of a capture point that triggers (R87). -/
def triggerRequest (g : GroupId) (e : Entry) (j : Nat) : Request :=
  { group := g, slot := e.slot, position := e.periodsRun * Seg.pointCount e.copy + j
    input := Seg.pointInput e.copy j, oversample := Seg.pointOversample e.copy j }

theorem State.triggerPoint_of_room (hc : e.periodsRun * Seg.pointCount e.copy + j < Seg.capacity e.copy) :
    s.triggerPoint g j =
      (s.modEntry ⟨g, e.slot⟩ fun f => { f with triggered := f.triggered + 1 }).offerRequest
        (triggerRequest g e j) := by
  simp only [State.triggerPoint, he, hp, if_true, if_neg (Nat.not_le.2 hc)]
  rfl

end Triggers

section Offers

variable (s : State) (r : Request)

/-- Two changes of one entry, one after the other. -/
theorem State.modEntry_modEntry (ref : EntryRef) (f h : Entry → Entry) (hf : ∀ e, (f e).slot = e.slot) :
    (s.modEntry ref f).modEntry ref h = s.modEntry ref (h ∘ f) := by
  have hlist : ∀ l : List Entry,
      (l.map fun e => if e.slot == ref.slot then f e else e).map (fun e => if e.slot == ref.slot then h e else e)
        = l.map fun e => if e.slot == ref.slot then (h ∘ f) e else e := by
    intro l
    rw [List.map_map]
    refine List.map_congr_left fun e _ => ?_
    by_cases hs : e.slot = ref.slot <;> simp [hs, hf]
  simp only [State.modEntry, State.modGroup, State.group_setGroup_same, Group.modSlot, hlist]
  simp only [State.setGroup, Vector.set_set]

theorem State.offerRequest_of_full (h : 16 ≤ s.captureQueue.length) :
    s.offerRequest r = s.modEntry r.ref fun e =>
      { e with capturesLost := e.capturesLost + 1, flags := { e.flags with captureLost := true } } := by
  rw [State.offerRequest, if_neg (by omega)]

/-- An IDLE converter takes the head of the queue that the request has joined. -/
theorem State.offerRequest_of_idle (h : s.captureQueue.length < 16) (hr : s.ctrl = .running)
    (hc : s.converter.state = .idle) :
    s.offerRequest r = { s with
      captureQueue := (s.captureQueue ++ [r]).tail
      converter := { s.converter with
        state := .converting, current := (s.captureQueue ++ [r]).head?, step := 0, done := 0, sum := 0 }
      marks := { s.marks with conv := true } } := by
  rw [State.offerRequest, if_pos h]
  cases hq : s.captureQueue <;> simp [State.converterTake, State.isRunning, hr, hc]

theorem State.offerRequest_of_busy (h : s.captureQueue.length < 16)
    (hb : ¬(s.ctrl = .running ∧ s.converter.state = .idle)) :
    s.offerRequest r = { s with captureQueue := s.captureQueue ++ [r] } := by
  rw [State.offerRequest, if_pos h, State.converterTake, if_neg]
  simpa [State.isRunning] using hb

end Offers

/-- Changing an entry touches its group alone. -/
theorem Block.same_modEntry (s : State) (ref : EntryRef) (f : Entry → Entry) {b : Block} (hb : b ≠ .group ref.group) :
    b.Same s (s.modEntry ref f) := by
  have hsame := Block.same_refl s b
  cases b with
  | group m => exact State.group_modGroup_ne s _ fun h => hb (by rw [h])
  | resetPin | registers | events | pairs | tokens | sets | captureQueue | converter | resultWriter | tripUnit
  | admin | completion | requests | port | groupTicks => exact hsame

/-- Settles O36: the order of the points, the condition of R82, and the three outcomes of R83 and R88. -/
theorem triggerIsQueuedLostOrTruncated : Obligations.TriggerIsQueuedLostOrTruncated := by
  unfold Obligations.TriggerIsQueuedLostOrTruncated
  refine ⟨State.triggers_eq, fun x c j => ?_, fun s g j h => State.triggerPoint_of_not h, ?_⟩
  · have hslope : (x.mode == .edge || (Seg.pointSlope c j == 1) == (x.slope == .down)) = true ↔
        (x.mode = .centre → x.slope = if Seg.pointSlope c j = 1 then .down else .up) := by
      by_cases h : Seg.pointSlope c j = 1 <;> cases x.mode <;> cases x.slope <;> simp [h]
    simp only [Group.pointTriggers, Bool.and_eq_true, hslope, decide_eq_true_eq, beq_iff_eq, and_assoc]
    exact and_congr_right fun _ => and_congr_right fun _ => and_congr_left fun _ => eq_comm
  · intro s g j e he hp position request t
    refine ⟨fun hc => State.triggerPoint_of_full he hp hc, fun hc hfull => ?_, fun hc hroom => ?_⟩
    · show s.triggerPoint g j = _
      rw [State.triggerPoint_of_room he hp hc, State.offerRequest_of_full _ _ (by exact hfull)]
      exact State.modEntry_modEntry s ⟨g, e.slot⟩ _ _ fun _ => rfl
    · have ht : t = (s.modEntry ⟨g, e.slot⟩ fun f => { f with triggered := f.triggered + 1 }).offerRequest request :=
        State.triggerPoint_of_room he hp hc
      generalize hu : (s.modEntry ⟨g, e.slot⟩ fun f => { f with triggered := f.triggered + 1 }) = u at ht ⊢
      have hsame : ∀ b, b ≠ .group g → Block.Same s u b := fun b hb => hu ▸ Block.same_modEntry s _ _ hb
      have hqueue : u.captureQueue = s.captureQueue := hsame .captureQueue (by simp)
      have hconv : u.converter = s.converter := (hsame .converter (by simp)).1
      have hctrl : u.ctrl = s.ctrl := (hsame .registers (by simp)).1
      rw [← hqueue, ← hconv, ← hctrl]
      rw [← hqueue] at hroom
      by_cases hidle : u.ctrl = .running ∧ u.converter.state = .idle
      · rw [State.offerRequest_of_idle u request hroom hidle.1 hidle.2] at ht
        rw [ht]
        refine ⟨rfl, fun _ => ⟨rfl, rfl, rfl, fun b hb => ?_⟩, fun h => absurd hidle h⟩
        have hbu := hsame b (by simp_all)
        cases b with
        | group m => exact hbu
        | captureQueue | converter => simp at hb
        | resetPin | registers | events | pairs | tokens | sets | resultWriter | tripUnit | admin | completion
        | requests | port | groupTicks => exact hbu
      · rw [State.offerRequest_of_busy u request hroom hidle] at ht
        rw [ht]
        refine ⟨rfl, fun h => absurd h hidle, fun _ => ⟨rfl, fun b hb => ?_⟩⟩
        have hbu := hsame b (by simp_all)
        cases b with
        | group m => exact hbu
        | captureQueue => simp at hb
        | resetPin | registers | events | pairs | tokens | sets | converter | resultWriter | tripUnit | admin
        | completion | requests | port | groupTicks => exact hbu

end Sys2Proof.Machine
end

section
/-! PROOF. The frame of the happenings of the sequencers and the capture path, the triggers of a tick without a law of
the windows, and the group tick inside a period (R48 to R54, R82). -/

namespace Sys2Proof.Machine

/-! ## Frames -/

section Frames

variable {s u : State}

/-- The parts that a change with the same fixed part leaves as they were. -/
theorem Block.same_of_fixed (h : u.fixed = s.fixed) {b : Block}
    (hb : b ∈ [.resetPin, .registers, .events, .tripUnit, .admin, .completion, .port]) : b.Same s u := by
  have hf : ∀ {γ : Type} (k : Fixed → γ), k u.fixed = k s.fixed := fun k => congrArg k h
  have hcpl : u.cpl = s.cpl := hf Fixed.cpl
  have hadm : u.admin = s.admin := hf Fixed.admin
  cases b with
  | resetPin => exact hf Fixed.rstn
  | registers => exact ⟨hf Fixed.ctrl, hf Fixed.stat, hf Fixed.holding, hf Fixed.admBase, hf Fixed.cplBase,
      hf Fixed.admCode, hf Fixed.cplCode, hf Fixed.readData⟩
  | events => exact ⟨hf Fixed.evt, hf Fixed.evtMask, hf Fixed.irq⟩
  | tripUnit => exact ⟨hf Fixed.lines, hf Fixed.tripPresc, hf Fixed.tripMark⟩
  | admin => exact ⟨by rw [hadm], by rw [hadm], by rw [hadm]⟩
  | completion => exact ⟨by rw [hcpl], by rw [hcpl], by rw [hcpl], by rw [hcpl], by rw [hcpl], by rw [hcpl]⟩
  | port => exact ⟨hf Fixed.bus, hf Fixed.lastFetcher, hf Fixed.grantMark⟩
  | group _ | pairs | tokens | sets | captureQueue | converter | resultWriter | requests | groupTicks => simp at hb

/-- The administrative processor looks at the fixed part alone. -/
theorem settledAdmin_of_fixed (h : u.fixed = s.fixed) : u.settledAdmin = s.settledAdmin := by
  have hf : ∀ {γ : Type} (k : Fixed → γ), k u.fixed = k s.fixed := fun k => congrArg k h
  have hctrl : u.ctrl = s.ctrl := hf Fixed.ctrl
  have hadm : u.admin = s.admin := hf Fixed.admin
  have hcode : u.admCode = s.admCode := hf Fixed.admCode
  unfold State.settledAdmin State.adminMayAsk State.isRunning State.commandsAvailable State.admSize
  rw [hctrl, hadm, hcode]

/-- The completion writer looks at the fixed part and the holding queues. -/
theorem settledCpl_of_fixed (h : u.fixed = s.fixed) (hq : ∀ g, (u.group g).queue = (s.group g).queue) :
    u.settledCpl = s.settledCpl := by
  have hf : ∀ {γ : Type} (k : Fixed → γ), k u.fixed = k s.fixed := fun k => congrArg k h
  have hctrl : u.ctrl = s.ctrl := hf Fixed.ctrl
  have hadm : u.admin = s.admin := hf Fixed.admin
  have hcpl : u.cpl = s.cpl := hf Fixed.cpl
  have hcode : u.cplCode = s.cplCode := hf Fixed.cplCode
  unfold State.settledCpl State.cplMayAsk State.isRunning State.anyHolding State.cplSize
  simp only [hctrl, hadm, hcpl, hcode, hq]

/-- A settled state after an effect that keeps the fixed part: what is left to show is the part each happening moves. -/
theorem frame_of_fixed (hs : Settled s) (hf : u.fixed = s.fixed) (touched : List Block)
    (hgroups : ∀ m, .group m ∉ touched → u.group m = s.group m)
    (hpairs : .pairs ∉ touched → u.settle.pairs = s.pairs)
    (htokens : .tokens ∉ touched → u.tokens = s.tokens)
    (hsets : .sets ∉ touched → u.sets = s.sets)
    (hcapture : .captureQueue ∉ touched → u.captureQueue = s.captureQueue)
    (hconverter : .converter ∉ touched → u.converter = s.converter ∧ u.marks.conv = s.marks.conv)
    (hwriter : .resultWriter ∉ touched → Block.Same s u .resultWriter)
    (hrequests : .requests ∉ touched →
      (u.settledWriter = s.settledWriter) ∧ ∀ g, (u.group g).queue = (s.group g).queue)
    (hticks : .groupTicks ∉ touched → u.ticks = s.ticks) : SameExcept touched s u.settle := by
  obtain ⟨h0, -, h1, h2, h3⟩ := (settled_iff s).1 hs
  intro b hb
  cases b with
  | group m => exact hgroups m hb
  | pairs => exact hpairs hb
  | tokens => exact htokens hb
  | sets => exact hsets hb
  | captureQueue => exact hcapture hb
  | converter => exact hconverter hb
  | resultWriter => exact hwriter hb
  | requests =>
    obtain ⟨hw, hq⟩ := hrequests hb
    exact ⟨(settledAdmin_of_fixed hf).trans h1, hw.trans h2, (settledCpl_of_fixed hf hq).trans h3⟩
  | groupTicks => exact hticks hb
  | events =>
    obtain ⟨he, hm, -⟩ := Block.same_of_fixed hf (b := .events) (by simp)
    exact same_settle_events hs he hm
  | resetPin => exact Block.same_of_fixed (b := .resetPin) hf (by simp)
  | registers => exact Block.same_of_fixed (b := .registers) hf (by simp)
  | tripUnit => exact Block.same_of_fixed (b := .tripUnit) hf (by simp)
  | admin => exact Block.same_of_fixed (b := .admin) hf (by simp)
  | completion => exact Block.same_of_fixed (b := .completion) hf (by simp)
  | port => exact Block.same_of_fixed (b := .port) hf (by simp)

/-- Nothing that the selection reads is outside the fixed part but who produces. -/
theorem sameSelection_of_fixed (hf : u.fixed = s.fixed) (h : ∀ g, (u.group g).producing = (s.group g).producing) :
    SameSelection s u :=
  ⟨congrArg Fixed.ctrl hf, congrArg Fixed.lines hf, h⟩

end Frames

/-! ## The result writer under the triggers -/

section Writer

variable (s : State)

@[simp] theorem State.writer_converterTake : s.converterTake.writer = s.writer := by
  unfold State.converterTake; split
  · split <;> rfl
  · rfl

@[simp] theorem State.writer_offerRequest (r : Request) : (s.offerRequest r).writer = s.writer := by
  unfold State.offerRequest; split
  · rw [State.writer_converterTake]
  · rfl

@[simp] theorem State.writer_triggerPoint (g : GroupId) (j : Nat) : (s.triggerPoint g j).writer = s.writer := by
  unfold State.triggerPoint; split
  · rfl
  · split
    · dsimp only; split <;> simp
    · rfl

@[simp] theorem State.writer_triggers (g : GroupId) : (s.triggers g).writer = s.writer :=
  foldl_keeps State.writer _ (fun a j => State.writer_triggerPoint a g j) _ _

end Writer

/-! ## Triggers and what they do not look at -/

/-- A state with its pairs, tokens, sets and the marks of the group ticks put in place of its own. -/
def State.rewire (pairs : Vector PairUnit 6) (ticks : Vector Bool 4) (s : State) : State :=
  { s with pairs := pairs, marks := { s.marks with group := ticks } }

section Rewire

variable (s : State) (pairs : Vector PairUnit 6) (ticks : Vector Bool 4)

theorem State.rewire_converterTake :
    (s.rewire pairs ticks).converterTake = s.converterTake.rewire pairs ticks := by
  unfold State.converterTake
  by_cases h : (s.isRunning && s.converter.state == .idle) = true
  · rw [if_pos (by exact h), if_pos h]
    show (match s.captureQueue with | [] => _ | r :: rest => _) = _
    cases s.captureQueue <;> rfl
  · rw [if_neg (by exact h), if_neg h]

theorem State.rewire_offerRequest (r : Request) :
    (s.rewire pairs ticks).offerRequest r = (s.offerRequest r).rewire pairs ticks := by
  unfold State.offerRequest
  by_cases h : s.captureQueue.length < 16
  · rw [if_pos (by exact h), if_pos h]
    exact State.rewire_converterTake { s with captureQueue := s.captureQueue ++ [r] } pairs ticks
  · rw [if_neg (by exact h), if_neg h]
    rfl

theorem State.rewire_triggerPoint (g : GroupId) (j : Nat) :
    (s.rewire pairs ticks).triggerPoint g j = (s.triggerPoint g j).rewire pairs ticks := by
  cases he : (s.group g).active? with
  | none =>
    have hno : ∀ e', (s.group g).active? = some e' → (s.group g).pointTriggers e'.copy j = false := by
      intro e' h
      exact absurd (he.symm.trans h) (by simp)
    rw [State.triggerPoint_of_not hno, State.triggerPoint_of_not (s := s.rewire pairs ticks) hno]
  | some e =>
    have he' : ((s.rewire pairs ticks).group g).active? = some e := he
    by_cases hp : (s.group g).pointTriggers e.copy j = true
    · by_cases hc : Seg.capacity e.copy ≤ e.periodsRun * Seg.pointCount e.copy + j
      · rw [State.triggerPoint_of_full he hp hc, State.triggerPoint_of_full he' hp hc]; rfl
      · rw [State.triggerPoint_of_room he hp (Nat.not_le.1 hc), State.triggerPoint_of_room he' hp (Nat.not_le.1 hc),
          ← State.rewire_offerRequest]
        rfl
    · have hno : ∀ e', (s.group g).active? = some e' → (s.group g).pointTriggers e'.copy j = false := by
        intro e' h
        obtain rfl : e = e' := Option.some.inj (he.symm.trans h)
        exact Bool.eq_false_of_not_eq_true hp
      rw [State.triggerPoint_of_not hno, State.triggerPoint_of_not (s := s.rewire pairs ticks) hno]

theorem State.rewire_triggers (g : GroupId) :
    (s.rewire pairs ticks).triggers g = (s.triggers g).rewire pairs ticks := by
  simp only [State.triggers_eq, State.rewire_triggerPoint]

end Rewire

/-! ## The triggers of a tick, entry by entry -/

/-- An entry without its trigger and loss counts and the flags of the triggers. -/
def Entry.uncounted (f : Entry) : Entry :=
  { f with
    triggered := 0, capturesLost := 0
    flags := { f.flags with captureLost := false, resultTruncated := false } }

/-- An entry under the triggers of the record of a slot: only its counts move, and only in that slot. -/
abbrev Entry.CountedAt (slot : Nat) (e f : Entry) : Prop :=
  f.uncounted = e.uncounted ∧ (e.slot ≠ slot → f = e)

theorem Entry.st_of_uncounted {e f : Entry} (h : f.uncounted = e.uncounted) : f.st = e.st := by
  have := congrArg Entry.st h; exact this

theorem Entry.slot_of_uncounted {e f : Entry} (h : f.uncounted = e.uncounted) : f.slot = e.slot := by
  have := congrArg Entry.slot h; exact this

/-- The groups under triggers of the record in a slot of one of them: its window's counts move, and nothing else. -/
structure CountsAt (g : GroupId) (slot : Nat) (s t : State) : Prop where
  others : ∀ m, m ≠ g → t.group m = s.group m
  group : t.group g = { s.group g with window := (t.group g).window }
  window : List.Forall₂ (Entry.CountedAt slot) (s.group g).window (t.group g).window

theorem CountsAt.refl (g : GroupId) (slot : Nat) (s : State) : CountsAt g slot s s :=
  ⟨fun _ _ => rfl, rfl, List.forall₂_same.2 fun _ _ => ⟨rfl, fun _ => rfl⟩⟩

theorem CountsAt.of_groups {g : GroupId} {slot : Nat} {s t : State} (h : t.groups = s.groups) :
    CountsAt g slot s t := by
  have hg : ∀ m, t.group m = s.group m := fun m => by simp [State.group, h]
  exact ⟨fun m _ => hg m, by rw [hg g], by rw [hg g]; exact (CountsAt.refl g slot s).window⟩

theorem CountsAt.trans {g : GroupId} {slot : Nat} {s t u : State} (h : CountsAt g slot s t)
    (h' : CountsAt g slot t u) : CountsAt g slot s u := by
  refine ⟨fun m hm => (h'.others m hm).trans (h.others m hm), ?_, ?_⟩
  · rw [h'.group]
    conv => lhs; rw [h.group]
  · have hw := h.window
    have hw' := h'.window
    generalize (t.group g).window = m at hw hw'
    generalize (s.group g).window = l at hw
    generalize (u.group g).window = n at hw'
    induction hw generalizing n with
    | nil => exact hw'
    | cons h1 _ ih =>
      cases hw' with
      | cons h2 t2 =>
        refine .cons ⟨h2.1.trans h1.1, fun hne => ?_⟩ (ih _ t2)
        rw [h2.2 (Entry.slot_of_uncounted h1.1 ▸ hne), h1.2 hne]

theorem countsAt_modEntry (s : State) (g : GroupId) (slot : Nat) (f : Entry → Entry)
    (hf : ∀ e, (f e).uncounted = e.uncounted) : CountsAt g slot s (s.modEntry ⟨g, slot⟩ f) := by
  refine ⟨fun m hm => State.group_modGroup_ne s _ hm, ?_, ?_⟩
  · rw [State.modEntry, State.group_modGroup_same]; rfl
  · rw [State.modEntry, State.group_modGroup_same, Group.modSlot, List.forall₂_map_right_iff]
    refine List.forall₂_same.2 fun e _ => ?_
    by_cases he : e.slot = slot
    · simp only [he, beq_self_eq_true, if_true]; exact ⟨hf e, fun hne => absurd he hne⟩
    · simp only [beq_iff_eq, he, if_false]; exact ⟨rfl, fun _ => rfl⟩

@[simp] theorem State.groups_offerRequest_of_room {s : State} {r : Request} (h : s.captureQueue.length < 16) :
    (s.offerRequest r).groups = s.groups := by
  rw [State.offerRequest, if_pos h, State.groups_converterTake]

/-- The ACTIVE record is the same up to its counts. -/
theorem CountsAt.active {g : GroupId} {slot : Nat} {s t : State} (h : CountsAt g slot s t) {e : Entry}
    (he : (s.group g).active? = some e) :
    ∃ f, (t.group g).active? = some f ∧ f.uncounted = e.uncounted := by
  have hw := h.window
  unfold Group.active? at he ⊢
  generalize (t.group g).window = m at hw ⊢
  generalize (s.group g).window = l at hw he
  induction hw with
  | nil => simp at he
  | @cons a b l m h1 _ ih =>
    rw [List.find?_cons, Entry.st_of_uncounted h1.1]
    rw [List.find?_cons] at he
    cases hst : (a.st == EntryState.active)
    · simp only [hst] at he; exact ih he
    · simp only [hst, Option.some.injEq] at he
      exact ⟨b, rfl, he ▸ h1.1⟩

theorem triggerPoint_countsAt {s : State} {g : GroupId} {e : Entry} (he : (s.group g).active? = some e) (j : Nat) :
    CountsAt g e.slot s (s.triggerPoint g j) := by
  by_cases hp : (s.group g).pointTriggers e.copy j = true
  · by_cases hc : Seg.capacity e.copy ≤ e.periodsRun * Seg.pointCount e.copy + j
    · rw [State.triggerPoint_of_full he hp hc]
      exact countsAt_modEntry s g e.slot _ fun _ => rfl
    · rw [State.triggerPoint_of_room he hp (Nat.not_le.1 hc)]
      refine (countsAt_modEntry s g e.slot (fun f => { f with triggered := f.triggered + 1 })
        fun _ => rfl).trans ?_
      by_cases hq : s.captureQueue.length < 16
      · exact .of_groups (State.groups_offerRequest_of_room (by exact hq))
      · rw [State.offerRequest_of_full _ _ (by exact Nat.not_lt.1 hq)]
        exact countsAt_modEntry _ g e.slot _ fun _ => rfl
  · rw [State.triggerPoint_of_not]
    · exact .refl g e.slot s
    · intro e' h
      obtain rfl : e = e' := Option.some.inj (he.symm.trans h)
      exact Bool.eq_false_of_not_eq_true hp

/-- What the triggers of a tick can do to the groups, whatever the slots of the windows. -/
theorem triggers_countsAt {s : State} {g : GroupId} {e : Entry} (he : (s.group g).active? = some e) :
    CountsAt g e.slot s (s.triggers g) := by
  have hstep : ∀ {u : State} (j : Nat), CountsAt g e.slot s u → CountsAt g e.slot s (u.triggerPoint g j) := by
    intro u j hu
    obtain ⟨f, hf, hfe⟩ := hu.active he
    have hj := triggerPoint_countsAt hf j
    rw [Entry.slot_of_uncounted hfe] at hj
    exact hu.trans hj
  rw [State.triggers_eq]
  exact hstep 3 (hstep 2 (hstep 1 (hstep 0 (.refl g e.slot s))))

/-- A record without a capture part triggers nothing (R82). -/
theorem triggers_of_no_capture {s : State} {g : GroupId} {e : Entry} (he : (s.group g).active? = some e)
    (hc : Seg.hasCapture e.copy = false) : s.triggers g = s := by
  have hnone : ∀ j, s.triggerPoint g j = s := fun j => State.triggerPoint_of_not fun e' h => by
    obtain rfl : e = e' := Option.some.inj (he.symm.trans h)
    simp [Group.pointTriggers, hc]
  rw [State.triggers_eq, hnone, hnone, hnone, hnone]

theorem triggers_of_no_active {s : State} {g : GroupId} (he : (s.group g).active? = none) : s.triggers g = s := by
  have hnone : ∀ j, s.triggerPoint g j = s := fun j => State.triggerPoint_of_not fun e' h => by simp [he] at h
  rw [State.triggers_eq, hnone, hnone, hnone, hnone]

end Sys2Proof.Machine
end

section
/-! PROOF. The group tick inside a period: the counter, the outputs and the triggers (R48 to R54, R82). -/

namespace Sys2Proof.Machine

/-! ## A pair's tick -/

section PairTick

variable {s t : State} {g : GroupId} {c : Slot64} {p : PairId}

/-- A pair after its tick, its pins showing the levels of Table 3.4, runs on (R51, R53, R54). -/
theorem runsOn_of_tick {counter : Nat} {v : PairUnit}
    (hv : v = (s.pair p).tick (decide (counter < Seg.duty c (s.rank g p))))
    (ht : t.pair p = { v with pins := waveformPins v }) : RunsOn s t g c counter p := by
  have hpins : waveformPins (t.pair p) = waveformPins v := by rw [ht]; rfl
  refine ⟨?_, fun hm => ?_, fun hm => ?_⟩
  · rw [hpins, ht, hv]
    unfold PairUnit.tick
    split <;> rfl
  · have hno : (s.pair p).mode.delays = false := by rcases hm with h | h <;> rw [h] <;> rfl
    simp [ht, hv, PairUnit.tick, hno]
  · have hyes : (s.pair p).mode.delays = true := by rcases hm with h | h <;> rw [h] <;> rfl
    simp only [ht, hv, PairUnit.tick, hyes, if_true, OutState.tick, startRun]
    cases (s.pair p).raw <;> cases decide (counter < Seg.duty c (s.rank g p)) <;> simp

/-- A pair's first tick of the waveform (R55). -/
theorem entersTheWaveform_of_enter {v : PairUnit}
    (hv : v = (s.pair p).enter (decide (0 < Seg.duty c (s.rank g p))))
    (ht : t.pair p = { v with pins := waveformPins v }) : EntersTheWaveform s t g c p := by
  have hpins : waveformPins (t.pair p) = waveformPins v := by rw [ht]; rfl
  refine ⟨?_, fun hm => ?_, fun hm => ?_⟩
  · rw [hpins, ht, hv]
    unfold PairUnit.enter
    split <;> rfl
  · have hno : (s.pair p).mode.delays = false := by rcases hm with h | h <;> rw [h] <;> rfl
    simp [ht, hv, PairUnit.enter, hno]
  · have hyes : (s.pair p).mode.delays = true := by rcases hm with h | h <;> rw [h] <;> rfl
    simp only [ht, hv, PairUnit.enter, hyes, if_true, startRun, and_true]

/-- The pair units of group `g` take a tick, and no other does. -/
theorem State.tickOutputs_pair (s : State) (g : GroupId) (p : PairId) :
    (s.tickOutputs g).pair p =
      if (s.pair p).group = some g then (s.pair p).tick (s.rawCompare g p) else s.pair p := by
  simp only [State.tickOutputs, State.pair, vector_get, Vector.getElem_ofFn, beq_iff_eq]
  rfl

theorem State.enterOutputs_pair (s : State) (g : GroupId) (p : PairId) :
    (s.enterOutputs g).pair p =
      if (s.pair p).group = some g then (s.pair p).enter (s.rawCompare g p) else s.pair p := by
  simp only [State.enterOutputs, State.pair, vector_get, Vector.getElem_ofFn, beq_iff_eq]
  rfl

theorem PairUnit.tick_group (u : PairUnit) (now : Bool) : (u.tick now).group = u.group := by
  unfold PairUnit.tick; split <;> rfl

theorem PairUnit.enter_group (u : PairUnit) (now : Bool) : (u.enter now).group = u.group := by
  unfold PairUnit.enter; split <;> rfl

end PairTick

/-! ## The counter -/

/-- The next value of the counter inside a period of `P` (R48, Table 3.1). -/
theorem Group.stepCounter_eq (P : Nat) (x : Group) :
    x.stepCounter P =
      { x with
        counter := (match x.mode, x.slope with
          | .edge, _ => (x.counter + 1, x.slope)
          | .centre, .up => if x.counter + 1 < P then (x.counter + 1, .up) else (x.counter, .down)
          | .centre, .down => (x.counter - 1, .down)).1
        slope := (match x.mode, x.slope with
          | .edge, _ => (x.counter + 1, x.slope)
          | .centre, .up => if x.counter + 1 < P then (x.counter + 1, .up) else (x.counter, .down)
          | .centre, .down => (x.counter - 1, .down)).2 } := by
  cases x with
  | mk ring state pendingStop notices d mode presc counter slope window queue =>
    cases mode with
    | edge => rfl
    | centre =>
      cases slope with
      | up =>
        simp only [Group.stepCounter]
        split <;> rfl
      | down => rfl

theorem Group.stepCounter_window (P : Nat) (x : Group) : (x.stepCounter P).window = x.window := by
  rw [Group.stepCounter_eq]

theorem Group.stepCounter_state (P : Nat) (x : Group) : (x.stepCounter P).state = x.state := by
  rw [Group.stepCounter_eq]

theorem Group.active?_of_window {x y : Group} (h : y.window = x.window) : y.active? = x.active? := by
  simp [Group.active?, h]

theorem Group.producing_of_same {x y : Group} (hw : y.window = x.window) (hst : y.state = x.state) :
    y.producing = x.producing := by
  simp [Group.producing, Group.hasActive, hw, hst]

theorem Group.hasActive_of_active? {x : Group} {e : Entry} (h : x.active? = some e) : x.hasActive = true := by
  rw [Group.active?, List.find?_eq_some_iff_append] at h
  obtain ⟨hst, l, r, hw, -⟩ := h
  simp only [Group.hasActive, hw, List.any_append, List.any_cons, hst, Bool.true_or, Bool.or_true]

/-- Counting triggers changes neither who is ACTIVE nor whether the group produces. -/
theorem CountsAt.producing {g : GroupId} {slot : Nat} {s t : State} (h : CountsAt g slot s t) (m : GroupId) :
    (t.group m).producing = (s.group m).producing := by
  by_cases hm : m = g
  · subst hm
    have hactive : (t.group m).hasActive = (s.group m).hasActive := by
      have hw := h.window
      unfold Group.hasActive
      generalize (t.group m).window = k at hw ⊢
      generalize (s.group m).window = l at hw ⊢
      induction hw with
      | nil => rfl
      | cons h1 _ ih => simp only [List.any_cons, Entry.st_of_uncounted h1.1, ih]
    have hstate : (t.group m).state = (s.group m).state := by rw [h.group]
    simp only [Group.producing, hactive, hstate]
  · rw [h.others m hm]

/-! ## The tick -/

section Tick

variable {s : State} {g : GroupId} {e : Entry}

/-- A tick of a group that produces nothing has no effect but that it is taken (R26). -/
theorem stepTick_of_idle (h : (s.group g).producing = false) : s.stepTick g = s := by
  unfold State.stepTick
  split
  · rfl
  · rw [if_neg (by simp [h])]

@[simp] theorem State.rewire_group (u : State) (pairs ticks) (m : GroupId) :
    (u.rewire pairs ticks).group m = u.group m := rfl

@[simp] theorem State.rewire_groups (u : State) (pairs ticks) : (u.rewire pairs ticks).groups = u.groups := rfl

@[simp] theorem State.rewire_fixed (u : State) (pairs ticks) : (u.rewire pairs ticks).fixed = u.fixed := rfl

@[simp] theorem State.rewire_tokens (u : State) (pairs ticks) : (u.rewire pairs ticks).tokens = u.tokens := rfl

@[simp] theorem State.rewire_sets (u : State) (pairs ticks) : (u.rewire pairs ticks).sets = u.sets := rfl

@[simp] theorem State.rewire_captureQueue (u : State) (pairs ticks) :
    (u.rewire pairs ticks).captureQueue = u.captureQueue := rfl

@[simp] theorem State.rewire_converter (u : State) (pairs ticks) :
    (u.rewire pairs ticks).converter = u.converter := rfl

@[simp] theorem State.rewire_convMark (u : State) (pairs ticks) :
    (u.rewire pairs ticks).marks.conv = u.marks.conv := rfl

@[simp] theorem State.rewire_writer (u : State) (pairs ticks) : (u.rewire pairs ticks).writer = u.writer := rfl

@[simp] theorem State.rewire_ticks (u : State) (pairs ticks) : (u.rewire pairs ticks).marks.group = ticks := rfl

@[simp] theorem State.rewire_pair (u v : State) (ticks) (p : PairId) :
    (u.rewire v.pairs ticks).pair p = v.pair p := rfl

/-- The tick of a group that produces: the counter steps, its capture points trigger, its pairs move, and the tick is
taken. -/
theorem groupTick_eq (ha : (s.group g).active? = some e) (hp : (s.group g).producing = true) :
    (s.markTick g).stepTick g =
      ((s.modGroup g (Group.stepCounter (Seg.period e.copy))).triggers g).rewire
        ((s.modGroup g (Group.stepCounter (Seg.period e.copy))).tickOutputs g).pairs (s.marks.group.set g true) := by
  have ha' : ((s.markTick g).group g).active? = some e := ha
  have hp' : ((s.markTick g).group g).producing = true := hp
  have hmoved : ((s.markTick g).modGroup g (Group.stepCounter (Seg.period e.copy))).tickOutputs g =
      (s.modGroup g (Group.stepCounter (Seg.period e.copy))).rewire
        ((s.modGroup g (Group.stepCounter (Seg.period e.copy))).tickOutputs g).pairs (s.marks.group.set g true) := rfl
  unfold State.stepTick
  rw [ha']
  dsimp only
  rw [if_pos hp', hmoved, State.rewire_triggers]

theorem exec_groupTick (hd : s.tickDue g = true) (hb : (s.group g).atBoundary = false)
    (hr : (s.group g).atResume = false) :
    exec (.groupTick g) s = .next ((s.markTick g).stepTick g).settle := by
  show happen (s.tickDue g && !(s.group g).atBoundary && !(s.group g).atResume) s _ = _
  rw [hd, hb, hr]; rfl

/-- A producing group is not STARVED, so its tick sends no resume request. -/
theorem Group.atResume_of_producing {x : Group} (h : x.producing = true) : x.atResume = false := by
  obtain ⟨-, hst⟩ := (Group.producing_iff x).1 h
  rcases hst with h | h <;> simp [Group.atResume, h]

theorem State.tickDue_running (h : s.tickDue g = true) : s.ctrl = .running := by
  simp only [State.tickDue, State.isRunning, Bool.and_eq_true, beq_iff_eq] at h
  exact h.1.1

theorem stepped_active? (ha : (s.group g).active? = some e) (P : Nat) :
    ((s.modGroup g (Group.stepCounter P)).group g).active? = some e := by
  rw [State.group_modGroup_same, Group.active?_of_window (Group.stepCounter_window _ _), ha]

/-- The groups of the tick: the counter steps, and the triggers count. -/
theorem stepped_countsAt (ha : (s.group g).active? = some e) (P : Nat) :
    CountsAt g e.slot (s.modGroup g (Group.stepCounter P))
      ((s.modGroup g (Group.stepCounter P)).triggers g) :=
  triggers_countsAt (stepped_active? ha P)

theorem stepped_sameSelection (ha : (s.group g).active? = some e) (P : Nat) (pairs ticks) :
    SameSelection s (((s.modGroup g (Group.stepCounter P)).triggers g).rewire pairs ticks) := by
  refine sameSelection_of_fixed ?_ fun m => ?_
  · rw [State.rewire_fixed, State.fixed_triggers, State.fixed_modGroup]
  · rw [State.rewire_group]
    refine ((stepped_countsAt ha P).producing m).trans ?_
    rw [State.group_modGroup]
    split
    · next h => subst h; exact Group.producing_of_same (Group.stepCounter_window _ _) (Group.stepCounter_state _ _)
    · rfl

theorem State.pair_of_pairs {u v : State} (h : u.pairs = v.pairs) (p : PairId) : u.pair p = v.pair p := by
  simp [State.pair, h]

/-- A pair's rank reads of each pair its group alone (R62). -/
theorem State.rank_of_pairs {u v : State} (h : u.pairs = v.pairs) (g : GroupId) (p : PairId) :
    u.rank g p = v.rank g p := by
  simp [State.rank, State.boundPairs, State.pair, h]

/-- The raw compare of a group with an ACTIVE record (R51). -/
theorem State.rawCompare_of_active (ha : (s.group g).active? = some e) (p : PairId) :
    s.rawCompare g p = decide ((s.group g).counter < Seg.duty e.copy (s.rank g p)) := by
  simp [State.rawCompare, ha]

/-- The pairs after a tick of group `g` inside its waveform. -/
theorem groupTick_pairs (hs : Settled s) (hd : s.tickDue g = true) (ha : (s.group g).active? = some e)
    (hp : (s.group g).producing = true) {t : State} (ht : t = ((s.markTick g).stepTick g).settle) :
    PairsOfGroup s t g (RunsOn s t g e.copy (t.group g).counter) := by
  intro htrip p
  rw [groupTick_eq ha hp] at ht
  have hsel := stepped_sameSelection ha (Seg.period e.copy)
    ((s.modGroup g (Group.stepCounter (Seg.period e.copy))).tickOutputs g).pairs (s.marks.group.set g true)
  have hcounter : (t.group g).counter = ((s.group g).stepCounter (Seg.period e.copy)).counter := by
    rw [ht, State.settle_group, State.rewire_group, (stepped_countsAt ha _).group, State.group_modGroup_same]
  have hpair : t.pair p = s.settledPair
      (((s.modGroup g (Group.stepCounter (Seg.period e.copy))).tickOutputs g).pair p) := by
    rw [ht, State.settle_pair, hsel.settledPair, State.rewire_pair]
  rw [State.tickOutputs_pair, State.rawCompare_of_active (stepped_active? ha _), State.group_modGroup_same,
    ← hcounter] at hpair
  refine ⟨fun hg => ?_, fun hg => ?_⟩
  · rw [hpair, if_neg (by exact hg)]
    exact ((settled_iff s).1 hs).2.1 p
  · rw [if_pos (by exact hg)] at hpair
    refine runsOn_of_tick rfl (hpair.trans ?_)
    refine State.settledPair_of_waveform ?_
    have hgroup : ((s.pair p).tick (decide ((t.group g).counter < Seg.duty e.copy (s.rank g p)))).group = some g :=
      (PairUnit.tick_group _ _).trans hg
    exact State.selection_of_producing hgroup (by simp [State.tickDue_running hd]) htrip hp

end Tick

/-! ## O33 and O34 -/

/-- Settles O34: each pair of the group takes its tick, and settles under the same selection. -/
theorem groupTickFormsTheOutputs : Obligations.GroupTickFormsTheOutputs := by
  unfold Obligations.GroupTickFormsTheOutputs
  intro s g e hs hd hb hp ha
  exact ⟨_, exec_groupTick hd hb (Group.atResume_of_producing hp), groupTick_pairs hs hd ha hp rfl⟩

/-- Inside a period the counter is not at its end (R29). -/
theorem Group.inside_of_not_atBoundary {x : Group} {e : Entry} (ha : x.active? = some e) (hp : x.producing = true)
    (hb : x.atBoundary = false) :
    match x.mode with
    | .edge => x.counter + 1 < Seg.period e.copy
    | .centre => x.slope = .up ∨ x.counter ≠ 0 := by
  have hend : x.atEnd (Seg.period e.copy) = false := by simpa [Group.atBoundary, ha, hp] using hb
  unfold Group.atEnd at hend
  cases hm : x.mode with
  | edge => simpa [hm] using hend
  | centre =>
    simp only [hm, Bool.and_eq_false_iff, beq_eq_false_iff_ne] at hend
    refine hend.imp_left fun h => ?_
    cases hsl : x.slope with
    | up => rfl
    | down => exact absurd hsl h

/-- The windows of counted entries differ in their counts alone. -/
theorem map_uncounted_of_counted {slot : Nat} {l m : List Entry} (h : List.Forall₂ (Entry.CountedAt slot) l m) :
    m.map Entry.uncounted = l.map Entry.uncounted := by
  induction h with
  | nil => rfl
  | cons h1 _ ih => rw [List.map_cons, List.map_cons, h1.1, ih]

theorem mem_of_countedAt {slot : Nat} {l m : List Entry} (h : List.Forall₂ (Entry.CountedAt slot) l m) {f : Entry}
    (hf : f ∈ l) (hne : f.slot ≠ slot) : f ∈ m := by
  induction h with
  | nil => exact hf
  | cons h1 _ ih =>
    rcases List.mem_cons.1 hf with rfl | hf
    · rw [h1.2 hne]; exact List.mem_cons_self
    · exact List.mem_cons_of_mem _ (ih hf)

/-- An entry alone in its slot that is not ACTIVE does not share the slot of the ACTIVE record. -/
theorem slot_ne_of_not_active {x : Group} {e f : Entry} (ha : x.active? = some e)
    (hst : f.st ≠ .active) (huniq : ∀ h ∈ x.window, h.slot = f.slot → h = f) : f.slot ≠ e.slot := by
  intro hslot
  have he := huniq e (List.mem_of_find?_eq_some ha) hslot.symm
  have hact := List.find?_some ha
  rw [he] at hact
  exact hst (by simpa using hact)

theorem Block.same_resultWriter_of_writer {s t : State} (h : t.writer = s.writer) : Block.Same s t .resultWriter := by
  refine ⟨?_, ?_, ?_, ?_, ?_⟩ <;> rw [h]

/-- The result writer's write state looks at the controller state and the writer alone. -/
theorem settledWriter_of_writer {s u : State} (hf : u.fixed = s.fixed) (hw : u.writer = s.writer) :
    u.settledWriter = s.settledWriter := by
  have hctrl : u.ctrl = s.ctrl := congrArg Fixed.ctrl hf
  unfold State.settledWriter
  rw [hctrl, hw]

theorem stepped_requests {s u : State} {g : GroupId} {counter : Nat} {slope : Slope} {w : List Entry}
    (hf : u.fixed = s.fixed) (hw : u.writer = s.writer) (hothers : ∀ m, m ≠ g → u.group m = s.group m)
    (hgroup : u.group g = { s.group g with counter := counter, slope := slope, window := w }) :
    u.settledWriter = s.settledWriter ∧ ∀ m, (u.group m).queue = (s.group m).queue := by
  refine ⟨settledWriter_of_writer hf hw, fun m => ?_⟩
  by_cases hm : m = g
  · rw [hm, hgroup]
  · rw [hothers m hm]

/-- Settles O33: an idle tick, and the tick of a producing group field by field. -/
theorem groupTickStepsTheCounter : Obligations.GroupTickStepsTheCounter := by
  unfold Obligations.GroupTickStepsTheCounter
  intro s g hs hd hb hr x
  have hexec := exec_groupTick hd hb hr
  refine ⟨fun hp => ?_, fun e ha hp => ?_⟩
  · have hidle : ((s.markTick g).group g).producing = false := hp
    rw [stepTick_of_idle hidle] at hexec
    refine ⟨_, hexec, rfl, frame_of_fixed (u := s.markTick g) hs rfl _ (fun _ _ => rfl) (fun _ => ?_) (fun _ => rfl) (fun _ => rfl)
      (fun _ => rfl) (fun _ => ⟨rfl, rfl⟩) (fun _ => ⟨rfl, rfl, rfl, rfl, rfl⟩) (fun _ => ⟨rfl, fun _ => rfl⟩)
      (fun h => absurd (List.mem_singleton_self _) h)⟩
    exact settle_pairs_of_same hs ⟨rfl, rfl, fun _ => rfl⟩ rfl
  · intro stepped u uncounted
    refine ⟨?_, Group.inside_of_not_atBoundary ha hp hb⟩
    have hstep : x.stepCounter (Seg.period e.copy) = { x with counter := stepped.1, slope := stepped.2 } :=
      Group.stepCounter_eq _ _
    have hu : u = (s.modGroup g (Group.stepCounter (Seg.period e.copy))).triggers g :=
      congrArg (fun y => (s.setGroup g y).triggers g) hstep.symm
    clear_value u
    have hcounts := stepped_countsAt ha (Seg.period e.copy)
    have hfixed : u.fixed = s.fixed := by rw [hu, State.fixed_triggers, State.fixed_modGroup]
    have hwriter : u.writer = s.writer := by rw [hu, State.writer_triggers]; rfl
    have htokens : u.tokens = s.tokens := by rw [hu, State.tokens_triggers]; rfl
    have hsets : u.sets = s.sets := by rw [hu, State.sets_triggers]; rfl
    have hbare : Seg.hasCapture e.copy = false → u = s.modGroup g (Group.stepCounter (Seg.period e.copy)) :=
      fun hc => hu.trans (triggers_of_no_capture (stepped_active? ha _) hc)
    rw [groupTick_eq ha hp, ← hu] at hexec
    rw [← hu] at hcounts
    have hwindow := hcounts.window
    rw [State.group_modGroup_same, Group.stepCounter_window] at hwindow
    have hgroup : u.group g = { x with counter := stepped.1, slope := stepped.2, window := (u.group g).window } := by
      rw [hcounts.group, State.group_modGroup_same]
      exact congrArg (fun y : Group => { y with window := (u.group g).window }) hstep
    have hothers : ∀ m, m ≠ g → u.group m = s.group m := fun m hm =>
      (hcounts.others m hm).trans (State.group_modGroup_ne _ _ hm)
    generalize ((s.modGroup g (Group.stepCounter (Seg.period e.copy))).tickOutputs g).pairs = pairs at hexec
    refine ⟨_, hexec, ?_⟩
    clear hexec hcounts hu
    refine ⟨rfl, rfl, rfl, rfl, rfl, hgroup, ?_, fun f hf hst huniq => ?_, fun hc => ⟨?_, ?_⟩, ?_⟩
    · exact map_uncounted_of_counted hwindow
    · exact mem_of_countedAt hwindow hf (slot_ne_of_not_active ha hst huniq)
    · show (u.group g).window = x.window
      rw [hbare hc, State.group_modGroup_same, Group.stepCounter_window]
    · refine frame_of_fixed (u := u.rewire pairs (s.marks.group.set g true)) hs hfixed _
        (fun m hm => hothers m fun h => ?_) (fun h => absurd h (by simp))
        (fun _ => htokens) (fun _ => hsets) (fun _ => ?_) (fun _ => ?_) (fun _ => ?_) (fun _ => ?_)
        (fun h => absurd h (by simp))
      · exact hm (by simp [h])
      · rw [hbare hc]; rfl
      · rw [hbare hc]; exact ⟨rfl, rfl⟩
      · exact Block.same_resultWriter_of_writer hwriter
      · exact stepped_requests hfixed hwriter hothers hgroup
    · refine frame_of_fixed (u := u.rewire pairs (s.marks.group.set g true)) hs hfixed _
        (fun m hm => hothers m fun h => ?_) (fun h => absurd h (by simp))
        (fun _ => htokens) (fun _ => hsets) (fun h => absurd h (by simp)) (fun h => absurd h (by simp)) (fun _ => ?_)
        (fun _ => ?_) (fun h => absurd h (by simp))
      · exact hm (by simp [h])
      · exact Block.same_resultWriter_of_writer hwriter
      · exact stepped_requests hfixed hwriter hothers hgroup

end Sys2Proof.Machine
end

section
/-! PROOF. Requests to the token table: how they are taken, and what the requests of records and sets hold (R66 to R68,
R75). -/

namespace Sys2Proof.Machine

/-! ## Taking the parts of a request -/

/-- Taking a part in front of the rest of a request. -/
theorem runParts_cons_of_some {tokens tokens' : Vector Nat 16} {p : Part} {sat : Bool}
    (h : runPart tokens p = some (tokens', sat)) (rest : List Part) :
    runParts tokens (p :: rest) = (runParts tokens' rest).map fun r => (r.1, sat :: r.2) := by
  simp only [runParts, h]
  cases runParts tokens' rest <;> rfl

theorem runParts_claim (tokens : Vector Nat 16) (k : TokenId) (need : Nat) (rest : List Part) :
    runParts tokens (.claim k need :: rest) =
      if need ≤ tokens.get k then
        (runParts (tokens.set k (tokens.get k - need)) rest).map fun r => (r.1, false :: r.2)
      else none := by
  by_cases h : need ≤ tokens.get k
  · rw [if_pos h]
    refine runParts_cons_of_some ?_ rest
    exact if_pos h
  · simp only [runParts, runPart, if_neg h]

/-- A post stops at 255 (R67), and is saturated where the sum exceeds it (R68). -/
theorem runParts_post (tokens : Vector Nat 16) (k : TokenId) (add : Nat) (rest : List Part) :
    runParts tokens (.post k add :: rest) =
      (runParts (tokens.set k (min 255 (tokens.get k + add))) rest).map fun r =>
        (r.1, decide (255 < tokens.get k + add) :: r.2) := by
  refine runParts_cons_of_some ?_ rest
  by_cases h : tokens.get k + add ≤ 255
  · have hsat : decide (255 < tokens.get k + add) = false := decide_eq_false (Nat.not_lt.2 h)
    rw [Nat.min_eq_right h, hsat]
    exact if_pos h
  · have hsat : decide (255 < tokens.get k + add) = true := decide_eq_true (Nat.not_le.1 h)
    rw [Nat.min_eq_left (Nat.not_le.1 h).le, hsat]
    exact if_neg h

/-- Only a claim can be refused (R67). -/
theorem runParts_posts_isSome {ps : List Part} (hps : ∀ p ∈ ps, ∃ k add, p = .post k add) :
    ∀ tokens : Vector Nat 16, (runParts tokens ps).isSome = true := by
  induction ps with
  | nil => exact fun _ => rfl
  | cons p ps ih =>
    intro tokens
    obtain ⟨k, add, rfl⟩ := hps p List.mem_cons_self
    rw [runParts_post, Option.isSome_map]
    exact ih (fun q hq => hps q (List.mem_cons_of_mem _ hq)) _

/-- What a granted request answers: one Bool for each part, and the tokens that no part names as they were. -/
theorem runParts_some {ps : List Part} : ∀ {tokens tokens' : Vector Nat 16} {sats : List Bool},
    runParts tokens ps = some (tokens', sats) →
    sats.length = ps.length ∧
      ∀ k : TokenId, (∀ p ∈ ps, (∀ n, p ≠ .claim k n) ∧ (∀ n, p ≠ .post k n)) → tokens'.get k = tokens.get k := by
  induction ps with
  | nil =>
    intro tokens tokens' sats h
    simp only [runParts, Option.some.injEq, Prod.mk.injEq] at h
    obtain ⟨rfl, rfl⟩ := h
    exact ⟨rfl, fun _ _ => rfl⟩
  | cons p ps ih =>
    intro tokens tokens' sats h
    have hstep : ∃ (j : TokenId) (n : Nat) (b : Bool) (bs : List Bool),
        ((∃ need, p = .claim j need) ∨ ∃ add, p = .post j add) ∧
          runParts (tokens.set j n) ps = some (tokens', bs) ∧ sats = b :: bs := by
      cases p with
      | claim j need =>
        rw [runParts_claim] at h
        split at h
        · obtain ⟨r, hr, heq⟩ := Option.map_eq_some_iff.1 h
          obtain ⟨h1, h2⟩ := Prod.mk.inj heq
          exact ⟨j, _, _, r.2, .inl ⟨need, rfl⟩, by rw [hr, ← h1], h2.symm⟩
        · cases h
      | post j add =>
        rw [runParts_post] at h
        obtain ⟨r, hr, heq⟩ := Option.map_eq_some_iff.1 h
        obtain ⟨h1, h2⟩ := Prod.mk.inj heq
        exact ⟨j, _, _, r.2, .inr ⟨add, rfl⟩, by rw [hr, ← h1], h2.symm⟩
    obtain ⟨j, n, b, bs, hp, hrun, rfl⟩ := hstep
    obtain ⟨hlen, hkeep⟩ := ih hrun
    refine ⟨by simp [hlen], fun k hk => ?_⟩
    have hne : k ≠ j := by
      rintro rfl
      obtain ⟨hclaim, hpost⟩ := hk p List.mem_cons_self
      rcases hp with ⟨m, rfl⟩ | ⟨m, rfl⟩
      · exact hclaim m rfl
      · exact hpost m rfl
    rw [hkeep k fun q hq => hk q (List.mem_cons_of_mem _ hq), tokens_set_get, if_neg hne]

/-! ## The request of a record -/

theorem hasWait_eq (c : Slot64) : Seg.hasWait c = flagOf c 3 := Seg.byteAt_flags_getLsbD c (by decide)

theorem claimParts_eq (c : Slot64) :
    claimParts c =
      if flagOf c 3 then [.claim (Fin.ofNat 16 (fieldOf c 0x14 1)) (fieldOf c 0x15 1)] else [] := by
  rw [claimParts, hasWait_eq]; rfl

theorem startParts_eq (c : Slot64) :
    startParts c =
      if flagOf c 4 = true ∧ fieldOf c 0x18 1 = 0 then
        [.post (Fin.ofNat 16 (fieldOf c 0x16 1)) (fieldOf c 0x17 1)]
      else [] := by
  obtain ⟨-, -, hstart, -⟩ := (recordLayout c).post
  exact if_congr hstart rfl rfl

theorem endParts_eq (c : Slot64) :
    endParts c =
      if flagOf c 4 = true ∧ fieldOf c 0x18 1 = 1 then
        [.post (Fin.ofNat 16 (fieldOf c 0x16 1)) (fieldOf c 0x17 1)]
      else [] := by
  obtain ⟨-, -, -, hend⟩ := (recordLayout c).post
  exact if_congr hend rfl rfl

/-! ## The request of a set -/

section SetRequest

variable (s : State) (u : StartSet)

theorem mem_allTokens (k : TokenId) : k ∈ allTokens := by revert k; decide

theorem allTokens_nodup : allTokens.Nodup := by decide

theorem mem_setClaims {p : Part} :
    p ∈ s.setClaims u ↔ ∃ k, 0 < s.setNeed u k ∧ p = .claim k (s.setNeed u k) := by
  simp only [State.setClaims, List.mem_map, List.mem_filter, decide_eq_true_eq]
  constructor
  · rintro ⟨k, ⟨-, hk⟩, rfl⟩; exact ⟨k, hk, rfl⟩
  · rintro ⟨k, hk, rfl⟩; exact ⟨k, ⟨mem_allTokens k, hk⟩, rfl⟩

theorem setClaims_nodup : (s.setClaims u).Nodup := by
  refine List.Nodup.map_on ?_ (allTokens_nodup.filter _)
  intro k _ k' _ h
  exact (Part.claim.inj h).1

/-- The oldest record of a member of the set. -/
def State.memberFirst (s : State) (u : StartSet) (m : GroupId) : Option Entry :=
  if u.members.getLsbD m then (s.group m).window.head? else none

/-- A sum over a part of a list, as a sum over the whole with 0 elsewhere. -/
theorem sum_filter_map {α : Type} (p : α → Bool) (f : α → Nat) (l : List α) :
    ((l.filter p).map f).sum = (l.map fun a => if p a then f a else 0).sum := by
  induction l with
  | nil => rfl
  | cons a l ih => cases h : p a <;> simp [h, ih]

theorem flatMap_filter {α β : Type} (p : α → Bool) (f : α → List β) (l : List α) :
    (l.filter p).flatMap f = l.flatMap fun a => if p a then f a else [] := by
  induction l with
  | nil => rfl
  | cons a l ih => cases h : p a <;> simp [h, ih]

theorem setNeed_eq (k : TokenId) :
    s.setNeed u k = (allGroups.map fun m => match s.memberFirst u m with
      | some e =>
          if flagOf e.copy 3 = true ∧ fieldOf e.copy 0x14 1 % 16 = k.val then fieldOf e.copy 0x15 1 else 0
      | none => 0).sum := by
  rw [State.setNeed, StartSet.groups, sum_filter_map]
  refine congrArg List.sum (List.map_congr_left fun m _ => ?_)
  cases hm : u.members.getLsbD m with
  | false => simp only [State.memberFirst, hm, Bool.false_eq_true, if_false]
  | true =>
    simp only [State.memberFirst, hm, State.firstNeed, State.first?, if_true]
    cases (s.group m).window.head? with
    | none => rfl
    | some e =>
      have hwait : Seg.hasWait e.copy = flagOf e.copy 3 := hasWait_eq e.copy
      have htoken : (tokenNamed (Seg.waitToken e.copy) == k) = decide (fieldOf e.copy 0x14 1 % 16 = k.val) :=
        decide_eq_decide.2 Fin.ext_iff
      simp only [hwait, htoken, Bool.and_eq_true, decide_eq_true_eq]
      rfl

theorem posts_eq : u.groups.flatMap s.firstPost = allGroups.flatMap fun m => match s.memberFirst u m with
      | some e =>
          if flagOf e.copy 4 = true ∧ fieldOf e.copy 0x18 1 = 0 then
            [Part.post (Fin.ofNat 16 (fieldOf e.copy 0x16 1)) (fieldOf e.copy 0x17 1)]
          else []
      | none => [] := by
  rw [StartSet.groups, flatMap_filter]
  refine congrArg (List.flatMap · allGroups) (funext fun m => ?_)
  cases hm : u.members.getLsbD m with
  | false => simp only [State.memberFirst, hm, Bool.false_eq_true, if_false]
  | true =>
    simp only [State.memberFirst, hm, State.firstPost, State.first?, if_true]
    cases (s.group m).window.head? with
    | none => rfl
    | some e => exact startParts_eq e.copy

end SetRequest

/-- Settles O43: the rules of the token table part by part, and the requests of records and sets by their fields. -/
theorem tokenRequestsAreTakenWhole : Obligations.TokenRequestsAreTakenWhole := by
  unfold Obligations.TokenRequestsAreTakenWhole
  refine ⟨runParts_claim, runParts_post, fun tokens ps hps => runParts_posts_isSome hps tokens, ?_, ?_, ?_⟩
  · intro tokens tokens' ps sats h
    obtain ⟨hlen, hkeep⟩ := runParts_some h
    exact ⟨hlen, fun hok => TokOk.runParts hok h, hkeep⟩
  · intro c
    exact ⟨claimParts_eq c, startParts_eq c, endParts_eq c⟩
  · intro s u first sumNeed posts
    refine ⟨s.setClaims u, ?_, setClaims_nodup s u, fun p hp => ?_, fun k need => ?_⟩
    · rw [State.setRequest, posts_eq]; rfl
    · obtain ⟨k, -, rfl⟩ := (mem_setClaims s u).1 hp
      exact ⟨k, _, rfl⟩
    · have hsum : sumNeed k = s.setNeed u k := (setNeed_eq s u k).symm
      rw [mem_setClaims, hsum]
      constructor
      · rintro ⟨k', hpos, heq⟩
        obtain ⟨rfl, rfl⟩ := Part.claim.inj heq
        exact ⟨hpos, rfl⟩
      · rintro ⟨hpos, rfl⟩
        exact ⟨k, hpos, rfl⟩

end Sys2Proof.Machine
end

section
/-! PROOF. What leaves the block by its writers: result words, records and notices (R16 to R19, R44, R45, R107, R190). -/

namespace Sys2Proof.Machine

section Leaving

variable {s : State} {g : GroupId}

/-! ## Result words -/

/-- A change of an entry that keeps its state keeps who produces. -/
theorem Group.producing_modSlot (x : Group) (slot : Nat) {f : Entry → Entry} (hf : ∀ e, (f e).st = e.st) :
    (x.modSlot slot f).producing = x.producing := by
  have hactive : (x.modSlot slot f).hasActive = x.hasActive := by
    simp only [Group.hasActive, Group.modSlot, List.any_map]
    refine List.any_congr rfl fun e => ?_
    by_cases he : e.slot = slot <;> simp [he, hf]
  simp only [Group.producing, hactive]
  rfl

theorem Job.word_eq (p : Nat) (j : Job) : j.word p =
    match j with
    | .result r => if p = r.position then resultWord r.sum else 0x8000
    | .fill _ _ => 0x8000 := by
  cases j <;> rfl

theorem resultWord_toNat {sum : Nat} (h : sum ≤ 32760) : (resultWord sum).toNat = sum := by
  simp [resultWord]; omega

theorem issueWord_eq {j : Job} {e : Entry} (hj : s.writer.job = some j) (he : s.entry? j.ref = some e) :
    s.issueWord =
      { (s.modEntry j.ref fun e => { e with nextPos := e.nextPos + 1 }).issue
          { requester := .resultWriter
            addr := Seg.resultAddr e.copy + BitVec.ofNat 64 (2 * e.nextPos)
            op := .writeWord (j.word e.nextPos) } with
        writer := { s.writer with write := .onBus, onBus := some ⟨j.ref, j.word e.nextPos⟩ } } := by
  unfold State.issueWord
  rw [hj]
  dsimp only
  rw [he]
  rfl

/-- Settles O45: the granted writer issues the word of the next position. -/
theorem resultWriteCarriesTheNextWord : Obligations.ResultWriteCarriesTheNextWord := by
  unfold Obligations.ResultWriteCarriesTheNextWord
  refine ⟨?_, fun sum h => resultWord_toNat h⟩
  intro s j e hs hg hj he word
  have hword : j.word e.nextPos = word := Job.word_eq _ _
  have hrun : s.ctrl = .running := State.granted_running hg
  have hexec : exec .resultWriteIssue s = .next s.issueWord.settle := by
    show happen (s.granted .resultWriter) s _ = _
    rw [hg]; rfl
  rw [issueWord_eq hj he, hword] at hexec
  refine ⟨_, hexec, rfl, rfl, ?_, ?_, rfl, rfl, ?_⟩
  · rw [State.settle_group]
    refine (State.group_modGroup_same s j.ref.group _).trans ?_
    simp only [Group.modSlot, beq_iff_eq]
  · simp [State.settledWriter, State.issue, hrun]
  · have hsel : SameSelection s (s.modEntry j.ref fun e => { e with nextPos := e.nextPos + 1 }) :=
      sameSelection_modGroup s _ _ (Group.producing_modSlot _ _ fun _ => rfl)
    refine sameExcept_settle_of_requests hs _ (by simp) ⟨rfl, rfl, hsel.producing⟩ rfl (fun _ => ⟨rfl, rfl⟩)
      fun b hb hb' => ?_
    have hsame := Block.same_refl s b
    cases b with
    | group m => exact State.group_modGroup_ne s _ fun h => hb (by simp [h])
    | resultWriter | requests | port => simp at hb
    | pairs | events => simp at hb'
    | resetPin | registers | tokens | sets | captureQueue | converter | tripUnit | admin | completion
    | groupTicks => exact hsame

/-! ## Records and notices -/

/-- A change of one group that keeps whether it produces leaves all else but the requests as it was. -/
theorem groupRequests_frame (hs : Settled s) (g : GroupId) (f : Group → Group)
    (hprod : (f (s.group g)).producing = (s.group g).producing) :
    SameExcept [.group g, .requests] s (s.modGroup g f).settle := by
  refine sameExcept_settle_of_requests hs _ (by simp) (sameSelection_modGroup s g f hprod) rfl (fun _ => ⟨rfl, rfl⟩)
    fun b hb hb' => ?_
  have hsame := Block.same_refl s b
  cases b with
  | group m => exact State.group_modGroup_ne s _ fun h => hb (by simp [h])
  | requests => simp at hb
  | pairs | events => simp at hb'
  | resetPin | registers | tokens | sets | captureQueue | converter | resultWriter | tripUnit | admin | completion
  | port | groupTicks => exact hsame

theorem SegFlags.isNone_iff (f : SegFlags) : f.isNone = true ↔ f = {} := by
  simp [SegFlags.isNone]

theorem Entry.silent_eq (e : Entry) :
    e.silent = decide (e.status = some .ok ∧ e.flags = {} ∧ Seg.complete e.copy = false) := by
  rw [Bool.eq_iff_iff]
  simp [Entry.silent, SegFlags.isNone_iff, and_assoc]

/-- A record that leaves is not ACTIVE, so who produces stays (R26). -/
theorem Group.producing_leave {x : Group} {e : Entry} {rest : List Entry} (hw : x.window = e :: rest)
    (he : e.st = .retiring) : (x.leave g).producing = x.producing := by
  have hno : (EntryState.retiring == EntryState.active) = false := rfl
  simp [Group.producing, Group.hasActive, Group.leave, hw, he, hno]

theorem Group.leave_eq {x : Group} {e : Entry} {rest : List Entry} (hw : x.window = e :: rest) :
    x.leave g =
      { x with
        window := rest
        ring := x.ring.leave rest.isEmpty
        queue := if e.silent then x.queue else x.queue ++ [e.report g (x.ring.leave rest.isEmpty).retire] } := by
  simp only [Group.leave, hw]

theorem State.canRetire_iff (s : State) (g : GroupId) (e : Entry) :
    s.canRetire g e = true ↔ e.st = .retiring ∧ s.writeOnBus (e.ref g) = false := by
  simp [State.canRetire]

theorem NoticeSet.isNone_iff (n : NoticeSet) : n.isNone = true ↔ n = {} := by
  simp [NoticeSet.isNone]

theorem State.leaveDue_eq {e : Entry} {rest : List Entry} (hrun : s.ctrl = .running)
    (hw : (s.group g).window = e :: rest) :
    s.leaveDue g = (s.canRetire g e && (e.silent || decide ((s.group g).queue.length < 4))) := by
  simp [State.leaveDue, hw, State.isRunning, hrun]

theorem State.leaveDue_of_empty (hw : (s.group g).window = []) : s.leaveDue g = false := by
  simp [State.leaveDue, hw]

theorem State.noticeDue_eq (hrun : s.ctrl = .running) :
    s.noticeDue g = (!(s.group g).notices.isNone && decide ((s.group g).queue.length < 4) && !s.recordCompetes g) := by
  simp [State.noticeDue, State.isRunning, hrun]

/-- A record competes with the notice for room (R45). -/
theorem State.recordCompetes_iff (s : State) (g : GroupId) : s.recordCompetes g = true ↔
    ∃ e, ((s.group g).window.find? fun e => !(e.st == .retiring && e.silent)) = some e
      ∧ e.st = .retiring ∧ s.writeOnBus (e.ref g) = false := by
  unfold State.recordCompetes
  cases h : (s.group g).window.find? fun e => !(e.st == .retiring && e.silent) with
  | none => simp
  | some e => simp [State.canRetire_iff]

/-- Settles O47: RECORD_LEAVE and NOTICE_QUEUE, each where it is due and where it is not. -/
theorem recordsAndNoticesJoinTheHoldingQueue : Obligations.RecordsAndNoticesJoinTheHoldingQueue := by
  unfold Obligations.RecordsAndNoticesJoinTheHoldingQueue
  intro s g hs hrun x silent passed
  have hsilent : silent = Entry.silent := funext fun e => (Entry.silent_eq e).symm
  have hpassed : (fun f => !passed f) = fun e : Entry => !(e.st == .retiring && e.silent) := by
    funext e
    rw [Entry.silent_eq]
    rfl
  rw [hpassed, hsilent]
  refine ⟨?_, ?_, fun hw => ?_, fun hn hq hno => ?_, fun hno => ?_⟩
  · intro e rest status hw hst hstatus hbus hroom ring
    have hdue : s.leaveDue g = true := by
      rw [State.leaveDue_eq hrun hw, (State.canRetire_iff s g e).2 ⟨hst, hbus⟩]
      simpa using hroom
    refine ⟨(s.modGroup g (Group.leave g)).settle, ?_, ?_, groupRequests_frame hs g _ (Group.producing_leave hw hst)⟩
    · show happen (s.leaveDue g) s _ = _
      rw [hdue]; rfl
    · have hring : x.ring.leave rest.isEmpty = ring := by
        simp only [Ring.leave, List.isEmpty_iff, ring, ringNext]
      rw [State.settle_group, State.group_modGroup_same, Group.leave_eq hw, hring]
      simp [Entry.report, hstatus, x]
  · intro e rest hw hstays
    refine happen_of_not_due ?_ s _
    rw [State.leaveDue_eq hrun hw, Bool.and_eq_false_iff]
    rcases hstays with h | h | ⟨h, hfull⟩
    · exact .inl (Bool.eq_false_of_not_eq_true fun hc => h ((State.canRetire_iff s g e).1 hc).1)
    · exact .inl (by simp [State.canRetire, h])
    · exact .inr (by simpa [h] using hfull)
  · exact happen_of_not_due (State.leaveDue_of_empty hw) s _
  · have hnone : x.notices.isNone = false := Bool.eq_false_of_not_eq_true fun h => hn ((NoticeSet.isNone_iff _).1 h)
    have hcompetes : s.recordCompetes g = false := Bool.eq_false_of_not_eq_true fun h => by
      obtain ⟨e, he, hc⟩ := (State.recordCompetes_iff s g).1 h
      exact hno e he hc
    have hdue : s.noticeDue g = true := by
      rw [State.noticeDue_eq hrun, hnone, hcompetes]
      simpa using hq
    refine ⟨(s.modGroup g (Group.queueNotice g)).settle, ?_, ?_, groupRequests_frame hs g _ rfl⟩
    · show happen (s.noticeDue g) s _ = _
      rw [hdue]; rfl
    · rw [State.settle_group, State.group_modGroup_same]; rfl
  · refine happen_of_not_due ?_ s _
    rw [State.noticeDue_eq hrun]
    rcases hno with h | h | h
    · have hnone : (s.group g).notices.isNone = true := (NoticeSet.isNone_iff _).2 h
      simp [hnone]
    · have hfull : ¬(s.group g).queue.length < 4 := Nat.not_lt.2 h
      simp [hfull]
    · simp [(State.recordCompetes_iff s g).2 h]

end Leaving

end Sys2Proof.Machine
end

section
/-! PROOF. The administrative fetch, the completion writer and the bytes of its entries, and the entry to HALTED (R137,
R139, R142 to R144, R149, R187 to R189). -/

namespace Sys2Proof.Machine

/-! ## The bytes of an entry -/

/-- A word whose first `k` bytes spell `N`, every other byte 0. -/
structure Spells {n : Nat} (x : BitVec n) (k N : Nat) : Prop where
  toNat : x.toNat = N
  lt : N < 2 ^ (8 * k)

theorem putAt_toNat {n m off w : Nat} (v : BitVec m) (hm : m ≤ 8 * w) (hn : 8 * (off + w) ≤ n) :
    (putAt off v : BitVec n).toNat = v.toNat * 2 ^ (8 * off) := by
  have hv : v.toNat < 2 ^ (8 * w) := lt_of_lt_of_le v.isLt (Nat.pow_le_pow_right (by decide) hm)
  have hshift : v.toNat * 2 ^ (8 * off) < 2 ^ n :=
    calc v.toNat * 2 ^ (8 * off) < 2 ^ (8 * w) * 2 ^ (8 * off) := Nat.mul_lt_mul_of_pos_right hv (by positivity)
      _ = 2 ^ (8 * (off + w)) := by rw [← pow_add]; congr 1; omega
      _ ≤ 2 ^ n := Nat.pow_le_pow_right (by decide) hn
  have hfits : v.toNat < 2 ^ n := lt_of_le_of_lt (Nat.le_mul_of_pos_right _ (by positivity)) hshift
  rw [putAt, BitVec.toNat_shiftLeft, Nat.shiftLeft_eq, BitVec.zeroExtend_eq_setWidth, BitVec.toNat_setWidth,
    Nat.mod_eq_of_lt hfits, Nat.mod_eq_of_lt hshift]

/-- A field past the bytes already spelled adds its value at its offset. -/
theorem Spells.or {n m k off w N : Nat} {x : BitVec n} {v : BitVec m} (h : Spells x k N) (hk : k ≤ off)
    (hm : m ≤ 8 * w) (hn : 8 * (off + w) ≤ n) :
    Spells (x ||| putAt off v) (off + w) (N + v.toNat * 2 ^ (8 * off)) := by
  have hv : v.toNat < 2 ^ (8 * w) := lt_of_lt_of_le v.isLt (Nat.pow_le_pow_right (by decide) hm)
  have hN : N < 2 ^ (8 * off) := lt_of_lt_of_le h.lt (Nat.pow_le_pow_right (by decide) (by omega))
  refine ⟨?_, ?_⟩
  · rw [BitVec.toNat_or, putAt_toNat v hm hn, h.toNat, Nat.or_comm, Nat.mul_comm, ← Nat.two_pow_add_eq_or_of_lt hN,
      Nat.add_comm]
  · calc N + v.toNat * 2 ^ (8 * off) < (v.toNat + 1) * 2 ^ (8 * off) := by
          rw [Nat.add_mul, Nat.one_mul, Nat.add_comm]
          exact Nat.add_lt_add_left hN _
      _ ≤ 2 ^ (8 * w) * 2 ^ (8 * off) := Nat.mul_le_mul_right _ hv
      _ = 2 ^ (8 * (off + w)) := by rw [← pow_add]; congr 1; omega

theorem spells_first {n m w : Nat} {v : BitVec m} (hm : m ≤ 8 * w) (hn : 8 * w ≤ n) :
    Spells (putAt 0 v : BitVec n) w v.toNat := by
  refine ⟨?_, lt_of_lt_of_le v.isLt (Nat.pow_le_pow_right (by decide) hm)⟩
  rw [putAt_toNat (w := w) v hm (by omega)]
  simp

theorem headerByte_segment (lap : Bool) : (headerByte lap 0).toNat = lap.toNat := by cases lap <;> rfl

theorem headerByte_admin (lap : Bool) : (headerByte lap 1).toNat = lap.toNat + 2 := by cases lap <;> rfl

theorem headerByte_notice (lap : Bool) : (headerByte lap 2).toNat = lap.toNat + 4 := by cases lap <;> rfl

theorem SegStatus.code_toNat (x : SegStatus) : x.code.toNat = segStatusCode x := by cases x <;> rfl

theorem AdminStatus.code_toNat (x : AdminStatus) : x.code.toNat = adminStatusCode x := by cases x <;> rfl

theorem GroupState.code_toNat (x : GroupState) : x.code.toNat = groupStateCode x := by cases x <;> rfl

theorem SegFlags.code_toNat (f : SegFlags) : f.code.toNat =
    f.extended.toNat + 2 * f.captureLost.toNat + 4 * f.resultTruncated.toNat + 8 * f.resultFault.toNat
      + 16 * f.resultIncomplete.toNat + 32 * f.tokenSaturated.toNat := by
  obtain ⟨a, b, c, d, e, h⟩ := f
  revert a b c d e h; decide

theorem NoticeSet.code_toNat (n : NoticeSet) : n.code.toNat =
    n.started.toNat + 2 * n.starved.toNat + 4 * n.stopped.toNat + 8 * n.tripped.toNat + 16 * n.faulted.toNat
      + 32 * n.setBroken.toNat + 64 * n.tripCleared.toNat := by
  obtain ⟨a, b, c, d, e, h, i⟩ := n
  revert a b c d e h i; decide

/-- A field that fits its size is spelled whole. -/
theorem toNat_mod_size {m w : Nat} (v : BitVec m) (h : m ≤ 8 * w) : v.toNat % 2 ^ (8 * w) = v.toNat :=
  Nat.mod_eq_of_lt (lt_of_lt_of_le v.isLt (Nat.pow_le_pow_right (by decide) h))

theorem entryFields_segment (lap : Bool) (g : GroupId) (tag : Word16) (status : SegStatus) (notify : Bool)
    (flags : SegFlags) (retire words : Nat) (crc : Word16) (lost periods exts : Nat) :
    entryFields lap (.segment g tag status notify flags retire words crc lost periods exts) =
      [(0x00, 1, lap.toNat), (0x01, 1, g), (0x02, 2, tag.toNat), (0x04, 1, status.code.toNat), (0x05, 1, notify.toNat),
        (0x06, 1, flags.code.toNat), (0x08, 2, retire), (0x0A, 2, words), (0x0C, 2, crc.toNat), (0x0E, 2, lost),
        (0x10, 4, periods), (0x14, 4, exts)] := by
  rw [SegStatus.code_toNat, SegFlags.code_toNat, entryFields]

theorem entryFields_admin (lap : Bool) (opcode : Byte) (tag : Word16) (status : AdminStatus) (index : Nat)
    (value : BitVec 128) : entryFields lap (.admin opcode tag status index value) =
      [(0x00, 1, lap.toNat + 2), (0x01, 1, opcode.toNat), (0x02, 2, tag.toNat), (0x04, 1, status.code.toNat),
        (0x08, 2, index), (0x10, 16, value.toNat)] := by
  rw [AdminStatus.code_toNat, entryFields]

theorem entryFields_notice (lap : Bool) (g : GroupId) (kinds : NoticeSet) (state : GroupState) (retire : Nat) :
    entryFields lap (.notice g kinds state retire) =
      [(0x00, 1, lap.toNat + 4), (0x01, 1, g), (0x04, 1, kinds.code.toNat), (0x05, 1, state.code.toNat),
        (0x08, 2, retire)] := by
  rw [NoticeSet.code_toNat, GroupState.code_toNat, entryFields]

theorem spelled_nil : spelled [] = 0 := rfl

theorem spelled_cons (off size v : Nat) (rest : List (Nat × Nat × Nat)) :
    spelled ((off, size, v) :: rest) = v % 2 ^ (8 * size) * 2 ^ (8 * off) + spelled rest := rfl

/-- A number cut to a field's size. -/
theorem ofNat_toNat_size {m : Nat} (w v : Nat) (h : m = 8 * w) : (BitVec.ofNat m v).toNat = v % 2 ^ (8 * w) := by
  rw [BitVec.toNat_ofNat, h]

/-- The entry of each form is its fields at the places of Table 11.5. -/
theorem encode_toNat (e : CplEntry) (lap : Bool) : (e.encode lap).toNat = spelled (entryFields lap e) := by
  have hheader : ∀ form : BitVec 2, Spells (putAt 0x00 (headerByte lap form) : Slot32) 1 (headerByte lap form).toNat :=
    fun _ => spells_first (by decide) (by decide)
  cases e with
  | segment g tag status notify flags retire words crc lost periods exts =>
    have h := ((((((((((((hheader 0).or
      (v := BitVec.ofNat 8 g) (off := 0x01) (w := 1) (by decide) (by decide) (by decide)).or
      (v := tag) (off := 0x02) (w := 2) (by decide) (by decide) (by decide)).or
      (v := status.code) (off := 0x04) (w := 1) (by decide) (by decide) (by decide)).or
      (v := BitVec.ofBool notify) (off := 0x05) (w := 1) (by decide) (by decide) (by decide)).or
      (v := flags.code) (off := 0x06) (w := 1) (by decide) (by decide) (by decide)).or
      (v := BitVec.ofNat 16 retire) (off := 0x08) (w := 2) (by decide) (by decide) (by decide)).or
      (v := BitVec.ofNat 16 words) (off := 0x0A) (w := 2) (by decide) (by decide) (by decide)).or
      (v := crc) (off := 0x0C) (w := 2) (by decide) (by decide) (by decide)).or
      (v := BitVec.ofNat 16 lost) (off := 0x0E) (w := 2) (by decide) (by decide) (by decide)).or
      (v := BitVec.ofNat 32 periods) (off := 0x10) (w := 4) (by decide) (by decide) (by decide)).or
      (v := BitVec.ofNat 32 exts) (off := 0x14) (w := 4) (by decide) (by decide) (by decide)).toNat
    rw [CplEntry.encode, CplEntry.form]
    simp only [← BitVec.or_assoc]
    rw [h, entryFields_segment, ofNat_toNat_size 1 g rfl, ofNat_toNat_size 2 retire rfl, ofNat_toNat_size 2 words rfl, ofNat_toNat_size 2 lost rfl, ofNat_toNat_size 4 periods rfl, ofNat_toNat_size 4 exts rfl]
    rw [headerByte_segment, BitVec.toNat_ofBool, spelled_cons, spelled_cons, spelled_cons, spelled_cons,
      spelled_cons, spelled_cons, spelled_cons, spelled_cons, spelled_cons, spelled_cons, spelled_cons,
      spelled_cons, spelled_nil]
    have htag := toNat_mod_size (w := 2) tag (by decide)
    have hstatus := toNat_mod_size (w := 1) status.code (by decide)
    have hflags := toNat_mod_size (w := 1) flags.code (by decide)
    have hcrc := toNat_mod_size (w := 2) crc (by decide)
    have hlap : lap.toNat % 2 ^ (8 * 1) = lap.toNat := by cases lap <;> rfl
    have hnotify : notify.toNat % 2 ^ (8 * 1) = notify.toNat := by cases notify <;> rfl
    rw [htag, hstatus, hflags, hcrc, hlap, hnotify]
    simp only [Nat.mul_one, Nat.mul_zero, pow_zero, Nat.add_zero, Nat.add_assoc]
  | admin opcode tag status index value =>
    have h := ((((((hheader 1).or
      (v := opcode) (off := 0x01) (w := 1) (by decide) (by decide) (by decide)).or
      (v := tag) (off := 0x02) (w := 2) (by decide) (by decide) (by decide)).or
      (v := status.code) (off := 0x04) (w := 1) (by decide) (by decide) (by decide)).or
      (v := BitVec.ofNat 16 index) (off := 0x08) (w := 2) (by decide) (by decide) (by decide)).or
      (v := value) (off := 0x10) (w := 16) (by decide) (by decide) (by decide)).toNat
    rw [CplEntry.encode, CplEntry.form]
    simp only [← BitVec.or_assoc]
    rw [h, entryFields_admin, ofNat_toNat_size 2 index rfl]
    rw [headerByte_admin, spelled_cons, spelled_cons, spelled_cons, spelled_cons, spelled_cons, spelled_cons,
      spelled_nil]
    have hopcode := toNat_mod_size (w := 1) opcode (by decide)
    have htag := toNat_mod_size (w := 2) tag (by decide)
    have hstatus := toNat_mod_size (w := 1) status.code (by decide)
    have hvalue := toNat_mod_size (w := 16) value (by decide)
    have hlap : (lap.toNat + 2) % 2 ^ (8 * 1) = lap.toNat + 2 := by cases lap <;> rfl
    rw [hopcode, htag, hstatus, hvalue, hlap]
    simp only [Nat.mul_one, Nat.mul_zero, pow_zero, Nat.add_zero, Nat.add_assoc]
  | notice g kinds state retire =>
    have h := (((((hheader 2).or
      (v := BitVec.ofNat 8 g) (off := 0x01) (w := 1) (by decide) (by decide) (by decide)).or
      (v := kinds.code) (off := 0x04) (w := 1) (by decide) (by decide) (by decide)).or
      (v := state.code) (off := 0x05) (w := 1) (by decide) (by decide) (by decide)).or
      (v := BitVec.ofNat 16 retire) (off := 0x08) (w := 2) (by decide) (by decide) (by decide)).toNat
    rw [CplEntry.encode, CplEntry.form]
    simp only [← BitVec.or_assoc]
    rw [h, entryFields_notice, ofNat_toNat_size 1 g rfl, ofNat_toNat_size 2 retire rfl]
    rw [headerByte_notice, spelled_cons, spelled_cons, spelled_cons, spelled_cons, spelled_cons, spelled_nil]
    have hkinds := toNat_mod_size (w := 1) kinds.code (by decide)
    have hstate := toNat_mod_size (w := 1) state.code (by decide)
    have hlap : (lap.toNat + 4) % 2 ^ (8 * 1) = lap.toNat + 4 := by cases lap <;> rfl
    rw [hkinds, hstate, hlap]
    simp only [Nat.mul_one, Nat.mul_zero, pow_zero, Nat.add_zero, Nat.add_assoc]

/-- Bit 0 of an entry is its lap (R187). -/
theorem encode_lap (e : CplEntry) (lap : Bool) : (e.encode lap).getLsbD 0 = lap := by
  have hshift : ∀ {m : Nat} (off : Nat) (v : BitVec m), 0 < off → (putAt off v : Slot32).getLsbD 0 = false := by
    intro m off v h
    have : 0 < 8 * off := by omega
    simp [putAt, this]
  have hheader : ∀ form, (putAt 0 (headerByte lap form) : Slot32).getLsbD 0 = lap := fun form => by
    cases lap <;> simp [putAt, headerByte]
  cases e <;> simp only [CplEntry.encode, BitVec.getLsbD_or, hheader, hshift, Nat.zero_lt_succ, Bool.or_false]

/-! ## The grants -/

section Grants

variable {s : State}

/-- The grant of a command read moves the fetch index and the bus alone. -/
theorem commandReadGranted (hs : Settled s) (hg : s.granted .adminProcessor = true) :
    ∃ t, exec .adminFetchIssue s = .next t
      ∧ t.bus = s.bus ++ [{ requester := .adminProcessor
                            addr := s.admBase + BitVec.ofNat 64 (32 * s.admin.fetch)
                            op := .readCommand
                            late := false }]
      ∧ BusOp.readCommand.bytes = 32
      ∧ t.admin = { s.admin with
          fetch := (s.admin.fetch + 1) % 2 ^ s.admCode.toNat, state := .onBus }
      ∧ t.lastFetcher = s.lastFetcher ∧ t.marks.grant = true
      ∧ SameExcept [.admin, .requests, .port] s t := by
  refine ⟨s.issueCommandRead.settle, ?_, rfl, rfl, rfl, rfl, rfl, ?_⟩
  · show happen (s.granted .adminProcessor) s _ = _
    rw [hg]; rfl
  · refine sameExcept_settle_of_requests hs _ (by simp) ⟨rfl, rfl, fun _ => rfl⟩ rfl (fun _ => ⟨rfl, rfl⟩)
      fun b hb hb' => ?_
    have hsame := Block.same_refl s b
    cases b with
    | admin | requests | port => simp at hb
    | pairs | events => simp at hb'
    | resetPin | registers | group _ | tokens | sets | captureQueue | converter | resultWriter | tripUnit
    | completion | groupTicks => exact hsame

theorem mem_serverOrder (last v : Server) : v ∈ serverOrder last := by
  cases last with
  | admin =>
    cases v with
    | admin => decide
    | group g => revert g; decide
  | group l =>
    cases v with
    | admin => revert l; decide
    | group g => revert l g; decide

/-- The first queue in the writer's order that holds an entry (R142). -/
theorem nextServer_eq {v : Server} {e : CplEntry} {rest : List CplEntry} (hv : s.holdingQueue v = e :: rest)
    (hfirst : ∀ u ∈ (serverOrder s.cpl.lastServed).takeWhile (fun u => u != v), s.holdingQueue u = []) :
    s.nextServer = some v := by
  have hmem := mem_serverOrder s.cpl.lastServed v
  unfold State.nextServer
  generalize serverOrder s.cpl.lastServed = order at hmem hfirst
  induction order with
  | nil => simp at hmem
  | cons a order ih =>
    by_cases ha : a = v
    · rw [List.find?_cons_of_pos]
      · rw [ha]
      · simp [ha, hv]
    · have hbne : (a != v) = true := by simpa using ha
      simp only [List.takeWhile_cons, hbne, if_true] at hfirst
      rw [List.find?_cons_of_neg]
      · exact ih ((List.mem_cons.1 hmem).resolve_left fun h => ha h.symm)
          fun u hu => hfirst u (List.mem_cons_of_mem _ hu)
      · simp [hfirst a List.mem_cons_self]

theorem popQueue_holdingQueue (v u : Server) :
    (s.popQueue v).holdingQueue u = if u = v then (s.holdingQueue v).tail else s.holdingQueue u := by
  cases v with
  | admin => cases u <;> rfl
  | group g =>
    cases u with
    | admin => rfl
    | group m =>
      simp only [State.popQueue, State.holdingQueue, State.group_modGroup, Server.group.injEq]
      split
      · next h => rw [h]
      · rfl

theorem popQueue_group (v : Server) (g : GroupId) :
    (s.popQueue v).group g = { s.group g with queue := ((s.popQueue v).group g).queue } := by
  cases v with
  | admin => rfl
  | group m =>
    simp only [State.popQueue, State.group_modGroup]
    split
    · next h => rw [h]
    · rfl

theorem popQueue_same (v : Server) {b : Block} (hb : b ∉ everyGroup ++ [.admin, .completion, .requests, .port]) :
    Block.Same s (s.popQueue v) b := by
  have hsame := Block.same_refl s b
  cases b with
  | group g => exact absurd (List.mem_append_left _ (group_mem_everyGroup g)) hb
  | admin | completion | requests | port => simp at hb
  | resetPin | registers | events | pairs | tokens | sets | captureQueue | converter | resultWriter | tripUnit
  | groupTicks => cases v <;> exact hsame

/-- Settles O48: the grants of the two ring readers, and the bytes of an entry. -/
theorem grantedReadsAndWritesAdvanceTheirRings : Obligations.GrantedReadsAndWritesAdvanceTheirRings := by
  unfold Obligations.GrantedReadsAndWritesAdvanceTheirRings
  refine ⟨encode_toNat, fun s hs hg => commandReadGranted hs hg, ?_⟩
  intro s v e rest hs hg hv hfirst
  have hissue : s.issueEntry =
      { (s.popQueue v).issue { requester := .completionWriter, addr := slotAddr s.cplBase 32 s.cpl.write
                               op := .writeEntry (e.encode s.cpl.lap) } with
        cpl := { s.cpl.advance s.cplSize with lastServed := v, inFlight := some e } } := by
    unfold State.issueEntry
    rw [nextServer_eq hv hfirst]
    dsimp only
    rw [hv]
  have hexec : exec .completionWriteIssue s = .next s.issueEntry.settle := by
    show happen (s.granted .completionWriter) s _ = _
    rw [hg]; rfl
  rw [hissue] at hexec
  have hbus : (s.popQueue v).bus = s.bus := by cases v <;> rfl
  have hlast : (s.popQueue v).lastFetcher = s.lastFetcher := by cases v <;> rfl
  have htail : (s.popQueue v).admin.tail = s.admin.tail := by cases v <;> rfl
  have hfetch : (s.popQueue v).admin.fetch = s.admin.fetch := by cases v <;> rfl
  refine ⟨_, hexec, ?_, rfl, encode_lap e s.cpl.lap, ?_, fun u hu => ?_, fun g => popQueue_group v g, htail, hfetch,
    ?_, hlast, rfl, ?_⟩
  · show (s.popQueue v).bus ++ _ = _
    rw [hbus]; rfl
  · have hq := popQueue_holdingQueue (s := s) v v
    rw [if_pos rfl, hv] at hq
    cases v <;> exact hq
  · have hq := popQueue_holdingQueue (s := s) v u
    rw [if_neg hu] at hq
    cases u <;> exact hq
  · rfl
  · have hsel : SameSelection s (s.popQueue v) := by
      cases v with
      | admin => exact ⟨rfl, rfl, fun _ => rfl⟩
      | group g => exact sameSelection_modGroup s g (fun x => { x with queue := x.queue.tail }) rfl
    refine sameExcept_settle_of_requests hs _ (by simp) ⟨hsel.ctrl, hsel.lines, hsel.producing⟩
      (popQueue_same v (b := .pairs) (by simp)) (fun _ => ?_) fun b hb hb' => ?_
    · obtain ⟨h1, h2, -⟩ := popQueue_same (s := s) v (b := .events) (by simp)
      exact ⟨h1, h2⟩
    · have hsame := popQueue_same (s := s) v hb
      cases b with
      | group g => exact absurd (List.mem_append_left _ (group_mem_everyGroup g)) hb
      | admin | completion | requests | port => simp at hb
      | pairs | events => simp at hb'
      | resetPin | registers | tokens | sets | captureQueue | converter | resultWriter | tripUnit
      | groupTicks => exact hsame

end Grants

/-! ## Answers to completion writes, and HALTED -/

section Answers

variable {s : State}

theorem settle_cpl_idle (u : State) (h : u.cpl.state = .idle) : u.settle.cpl.state ≠ .onBus := by
  show u.settledCpl ≠ .onBus
  unfold State.settledCpl
  rw [h]
  cases u.cplMayAsk <;> simp

/-- The OK answer frees the writer and sets the event bit of the entry (R143, Table 8.5). -/
theorem completionWriteTaken {e : CplEntry} (hs : Settled s) (ha : Awaits s .completionWriter)
    (he : s.cpl.inFlight = some e) :
    ∃ t, exec (.completionWriteOk false) s = .next t
      ∧ t.evt = s.evt ||| e.event ∧ t.evtMask = s.evtMask
      ∧ t.cpl = { s.cpl with state := t.cpl.state, inFlight := none } ∧ t.cpl.state ≠ .onBus
      ∧ AnswerTaken .completionWriter s t
      ∧ SameExcept [.events, .completion, .requests, .port] s t := by
  refine ⟨_, answer_of_awaits ha _, ?_, rfl, rfl, ?_, ⟨rfl, rfl, rfl⟩, ?_⟩
  · show s.evt ||| s.inFlightEvent = _
    rw [State.inFlightEvent, he]
  · exact settle_cpl_idle _ rfl
  · refine sameExcept_settle_of_requests hs _ (by simp) ⟨rfl, rfl, fun _ => rfl⟩ rfl (fun h => absurd h (by simp))
      fun b hb hb' => ?_
    have hsame := Block.same_refl s b
    cases b with
    | completion | requests | port => simp at hb
    | pairs | events => simp at hb'
    | resetPin | registers | group _ | tokens | sets | captureQueue | converter | resultWriter | tripUnit | admin
    | groupTicks => exact hsame

/-- What the controller's entry to HALTED shows of registers, events and pairs (R61, R149). -/
abbrev Halted (s : State) (cause : HaltCause) (t : State) : Prop :=
  t.ctrl = .halted ∧ t.stat = { s.stat with cause := cause }
    ∧ t.holding = s.holding ∧ t.admBase = s.admBase ∧ t.cplBase = s.cplBase
    ∧ t.admCode = s.admCode ∧ t.cplCode = s.cplCode ∧ t.readData = s.readData
    ∧ t.evt = s.evt ||| 0b010000#6 ∧ t.evtMask = s.evtMask
    ∧ (∀ p, t.pair p =
        if (s.pair p).group = none then s.pair p else { s.pair p with pins := (s.pair p).safe })

theorem PairUnit.with_pins {v : PairUnit} {pins : Levels} (h : v.pins = pins) : { v with pins := pins } = v := by
  subst h; rfl

/-- A pair of a settled state after the entry to HALTED: frozen, at its safe levels where it is bound (R61). -/
theorem settledPair_of_halted {u : State} (hs : Settled s) (hu : u.ctrl = .halted) (p : PairId) :
    u.settledPair (s.pair p) =
      if (s.pair p).group = none then s.pair p else { s.pair p with pins := (s.pair p).safe } := by
  cases hg : (s.pair p).group with
  | none =>
    have hidle : ∀ v : State, v.selection (s.pair p) = .idle := fun v => by simp [State.selection, hg]
    have hsettled := ((settled_iff s).1 hs).2.1 p
    have hpins : (s.pair p).pins = (s.pair p).idle := by
      have h := congrArg PairUnit.pins hsettled
      simp only [State.settledPair, hidle, PairUnit.shown] at h
      rw [← h]
      split <;> rfl
    simp only [State.settledPair, hidle, PairUnit.shown, hu, beq_self_eq_true, Bool.or_true, if_true]
    exact PairUnit.with_pins hpins
  | some g =>
    have hsafe : u.selection (s.pair p) = .safe := by simp [State.selection, hg, hu]
    simp [State.settledPair, hsafe, hu, PairUnit.shown]

theorem halted_of_eq {u : State} {cause : HaltCause} (hs : Settled s) (hu : u.ctrl = .halted)
    (hstat : u.stat = { s.stat with cause := cause }) (hpairs : u.pairs = s.pairs)
    (hregs : u.holding = s.holding ∧ u.admBase = s.admBase ∧ u.cplBase = s.cplBase ∧ u.admCode = s.admCode
      ∧ u.cplCode = s.cplCode ∧ u.readData = s.readData)
    (hevt : u.evt = s.evt ||| evtHalt) (hmask : u.evtMask = s.evtMask) : Halted s cause u.settle := by
  obtain ⟨h1, h2, h3, h4, h5, h6⟩ := hregs
  refine ⟨hu, hstat, h1, h2, h3, h4, h5, h6, hevt, hmask, fun p => ?_⟩
  rw [State.settle_pair, State.pair_of_pairs hpairs]
  exact settledPair_of_halted hs hu p

/-- A fatal error of the administrative fetch (R139). -/
theorem adminReadFails (hs : Settled s) (ha : Awaits s .adminProcessor) (hbus : s.admin.state = .onBus) :
    ∃ t, exec (.adminReadError false) s = .next t ∧ Halted s .adminFetch t
      ∧ t.admin = s.admin
      ∧ AnswerTaken .adminProcessor s t
      ∧ SameExcept [.registers, .events, .pairs, .requests, .port] s t := by
  refine ⟨_, answer_of_awaits ha _, halted_of_eq hs rfl rfl rfl ⟨rfl, rfl, rfl, rfl, rfl, rfl⟩ rfl rfl, ?_,
    ⟨rfl, rfl, rfl⟩, ?_⟩
  · simp [State.settledAdmin, State.halt, State.setEvt, State.answered, hbus]
    rw [← hbus]
  · intro b hb
    have hsame := Block.same_refl s b
    cases b with
    | registers | events | pairs | requests | port => simp at hb
    | resetPin | group _ | tokens | sets | captureQueue | converter | resultWriter | tripUnit | admin | completion
    | groupTicks => exact hsame

/-- A fatal error of a completion write (R144; log 11). -/
theorem completionWriteFails (hs : Settled s) (ha : Awaits s .completionWriter) (hbus : s.cpl.state = .onBus) :
    ∃ t, exec (.completionWriteError false) s = .next t ∧ Halted s .completionWrite t
      ∧ t.cpl = { s.cpl with inFlight := none }
      ∧ AnswerTaken .completionWriter s t
      ∧ SameExcept [.registers, .events, .pairs, .completion, .requests, .port] s t := by
  refine ⟨_, answer_of_awaits ha _, halted_of_eq hs rfl rfl rfl ⟨rfl, rfl, rfl, rfl, rfl, rfl⟩ rfl rfl, ?_,
    ⟨rfl, rfl, rfl⟩, ?_⟩
  · simp [State.settledCpl, State.halt, State.setEvt, State.answered, hbus]
  · intro b hb
    have hsame := Block.same_refl s b
    cases b with
    | registers | events | pairs | completion | requests | port => simp at hb
    | resetPin | group _ | tokens | sets | captureQueue | converter | resultWriter | tripUnit | admin
    | groupTicks => exact hsame

end Answers

/-- Settles O49: the OK answer to a completion write, and the two fatal errors. -/
theorem completionAnswersAndFatalErrors : Obligations.CompletionAnswersAndFatalErrors := by
  unfold Obligations.CompletionAnswersAndFatalErrors
  refine ⟨fun s e hs ha he => ?_, fun s hs => ⟨fun ha hb => adminReadFails hs ha hb, fun ha hb => completionWriteFails hs ha hb⟩⟩
  obtain ⟨t, h, hevt, hrest⟩ := completionWriteTaken hs ha he
  refine ⟨t, h, ?_, hrest⟩
  rw [hevt]
  cases e <;> rfl

end Sys2Proof.Machine
end

section
/-! PROOF. BIND_RING, UNBIND_RING and SET_GROUP; SET_CONVERTER, SET_TRIP and SET_TOKEN: their checks and their effects
(R22, R70, R99, R127, R154 to R157, R159, R160, R162). -/

namespace Sys2Proof.Machine

/-! ## Accepted commands -/

section Accepted

variable {s u : State} {c : Instr} {cmd : Slot32} {verdict : AdminStatus} {value : BitVec 128} {f : State → State}

/-- A command in its own row ends as an accepted or a refused command. -/
theorem exec_of_row {k : Byte} (hc : exec c s = command false (Cmd.opcode cmd == k) cmd verdict value f s)
    (hop : opcodeOf cmd = k) : exec c s = command false true cmd verdict value f s := by
  rw [hc, show (Cmd.opcode cmd == k) = true from beq_iff_eq.2 hop]

theorem exec_of_accepted (hc : exec c s = command false true cmd verdict value f s) (ha : Awaits s .adminProcessor)
    (hv : verdict = .ok) : exec c s = .next ((f s.received).report cmd .ok value).settle := by
  rw [hc, command_of_awaits ha, if_pos hv]

/-- An accepted command whose effect leaves alone what the pairs and the events are worked out of changes the parts of
its effect and what reports it. -/
theorem accepted_frame {status : AdminStatus} (hs : Settled s) (touched : List Block) (hsel : SameSelection s u)
    (hp : u.pairs = s.pairs) (he : u.evt = s.evt) (hm : u.evtMask = s.evtMask)
    (h : ∀ b, b ∉ touched → b ∉ [.pairs, .events, .admin, .requests, .port] → b.Same s u) :
    SameExcept (touched ++ [.admin, .requests, .port]) s (u.report cmd status value).settle := by
  intro b hb
  rw [List.mem_append, not_or] at hb
  obtain ⟨hb, hends⟩ := hb
  by_cases hpairs : b = .pairs
  · exact hpairs ▸ same_settle_pairs hs ⟨hsel.ctrl, hsel.lines, hsel.producing⟩ hp
  by_cases hevents : b = .events
  · exact hevents ▸ same_settle_events hs he hm
  have hother : b ∉ [.pairs, .events, .admin, .requests, .port] := by simp_all
  have hsame := h b hb hother
  cases b with
  | pairs | events | admin | requests | port => simp at hother
  | resetPin | registers | group _ | tokens | sets | captureQueue | converter | resultWriter | tripUnit
  | completion | groupTicks => exact hsame

end Accepted

/-! ## The commands of one group -/

theorem groupOfCode_eq_some_iff (n : Nat) (g : GroupId) : groupOfCode n = some g ↔ n = g := by
  have := g.isLt
  by_cases hn : n < 4
  · simp [groupOfCode, hn, Fin.ext_iff]
  · have hne : n ≠ g := by omega
    simp [groupOfCode, hn, hne]

section OneGroup

variable {s : State} {cmd : Slot32} {g : GroupId}

/-- A command that changes one group, which shows no waveform before or after, changes nothing else but what reports
it. -/
theorem groupCommand_frame {status : AdminStatus} {value : BitVec 128} {f : Group → Group} (hs : Settled s)
    (hprod : (f (s.group g)).producing = (s.group g).producing) :
    SameExcept [.group g, .admin, .requests, .port] s ((s.received.modGroup g f).report cmd status value).settle := by
  have hsel := sameSelection_modGroup s.received g f hprod
  refine accepted_frame hs [.group g] ⟨hsel.ctrl, hsel.lines, hsel.producing⟩ rfl rfl rfl fun b hb hb' => ?_
  have hsame := Block.same_refl s b
  cases b with
  | group m => exact State.group_modGroup_ne s.received _ fun h => hb (by simp [h])
  | pairs | events | admin | requests | port => simp at hb'
  | resetPin | registers | tokens | sets | captureQueue | converter | resultWriter | tripUnit | completion
  | groupTicks => exact hsame

theorem judge_of_params {params : Bool} (h : params = true) (rest : AdminStatus) : judge params rest = rest :=
  if_pos h

theorem judge_of_not_params {params : Bool} (h : ¬params = true) (rest : AdminStatus) :
    judge params rest = .badParam := if_neg h

/-- A command that names no group of the four is BAD_PARAM; one that does is judged by the rest of its parameters and
then by the group. -/
def groupVerdict (params : Bool) (rest : GroupId → AdminStatus) (n : Nat) : AdminStatus :=
  match groupOfCode n with
  | none => .badParam
  | some g => judge params (rest g)

theorem groupVerdict_of_params {params : Bool} {rest : GroupId → AdminStatus} {n : Nat} (hg : n = g)
    (hp : params = true) : groupVerdict params rest n = rest g := by
  rw [groupVerdict, (groupOfCode_eq_some_iff n g).2 hg]
  exact judge_of_params hp _

theorem groupVerdict_of_not_params {params : Bool} {rest : GroupId → AdminStatus} {n : Nat}
    (h : ¬(n < 4 ∧ params = true)) : groupVerdict params rest n = .badParam := by
  by_cases hn : n < 4
  · rw [groupVerdict, (groupOfCode_eq_some_iff n ⟨n, hn⟩).2 rfl]
    exact judge_of_not_params (fun hp => h ⟨hn, hp⟩) _
  · rw [groupVerdict, groupOfCode_eq_none (Nat.not_lt.1 hn)]

/-! ### BIND_RING -/

/-- BIND_RING's parameters are in range (R154). -/
abbrev BindRingParams (cmd : Slot32) : Prop :=
  byteOf cmd 4 < 4 ∧ 2 ≤ numberOf cmd ∧ numberOf cmd ≤ 12 ∧ (cmd.extractLsb' 192 64).toNat % 64 = 0
    ∧ OnlyUses cmd [4, 12, 13, 24, 25, 26, 27, 28, 29, 30, 31]

theorem bindRingVerdict_eq (cmd : Slot32) (s : State) : bindRingVerdict cmd s =
    groupVerdict (decide (2 ≤ Cmd.number cmd) && decide (Cmd.number cmd ≤ 12)
      && (Cmd.base cmd).extractLsb' 0 6 == 0 && Cmd.reservedClear Cmd.usedBindRing cmd)
      (fun g => (s.group g).bindVerdict true) (Cmd.group cmd) := rfl

theorem bindRing_params_iff (cmd : Slot32) :
    (decide (2 ≤ Cmd.number cmd) && decide (Cmd.number cmd ≤ 12)
      && (Cmd.base cmd).extractLsb' 0 6 == 0 && Cmd.reservedClear Cmd.usedBindRing cmd) = true ↔
      2 ≤ numberOf cmd ∧ numberOf cmd ≤ 12 ∧ (cmd.extractLsb' 192 64).toNat % 64 = 0
        ∧ OnlyUses cmd [4, 12, 13, 24, 25, 26, 27, 28, 29, 30, 31] := by
  simp only [Bool.and_eq_true, decide_eq_true_eq, beq_iff_eq, Cmd.reservedClear_iff, extractLsb'_eq_zero_iff, and_assoc]
  rfl

theorem bindRingVerdict_of_not_params (h : ¬BindRingParams cmd) : bindRingVerdict cmd s = .badParam := by
  rw [bindRingVerdict_eq]
  exact groupVerdict_of_not_params fun hp => h ⟨hp.1, (bindRing_params_iff cmd).1 hp.2⟩

theorem bindRingVerdict_of_params (h : BindRingParams cmd) (hg : byteOf cmd 4 = g) :
    bindRingVerdict cmd s = (s.group g).bindVerdict true := by
  rw [bindRingVerdict_eq]
  exact groupVerdict_of_params hg ((bindRing_params_iff cmd).2 h.2)

theorem Group.bindVerdict_badState {b : Bool} {x : Group} (hu : b = true → x.state ≠ .unbound) (hst : x.state ≠ .stopped) :
    x.bindVerdict b = .badState := by
  unfold Group.bindVerdict
  split
  · next h => rw [if_neg fun hb => hu hb h]
  · next h => exact absurd h hst
  · rfl

theorem Group.bindVerdict_busy {b : Bool} {x : Group} (hst : x.state = .stopped) (hw : x.window ≠ []) :
    x.bindVerdict b = .busy := by
  simp [Group.bindVerdict, hst, hw]

theorem Group.bindVerdict_ok {b : Bool} {x : Group}
    (h : (b = true ∧ x.state = .unbound) ∨ (x.state = .stopped ∧ x.window = [])) : x.bindVerdict b = .ok := by
  rcases h with ⟨hb, hst⟩ | ⟨hst, hw⟩
  · simp [Group.bindVerdict, hst, hb]
  · simp [Group.bindVerdict, hst, hw]

/-- The group that an accepted BIND_RING leaves (R155). -/
theorem Group.bind_eq {x : Group} (tripped : Bool) (h : x.state = .unbound ∨ x.state = .stopped) :
    x.bind cmd tripped =
      { x with
        ring := boundRing (Cmd.base cmd) (Cmd.number cmd)
        state := if x.state = .unbound ∧ tripped = true then .tripped else .stopped
        notices := if x.state = .unbound ∧ tripped = true then x.notices.add .tripped else x.notices } := by
  rcases h with h | h
  · cases tripped <;> simp [Group.bind, h, Group.notify]
  · have hne : GroupState.stopped ≠ .unbound := by decide
    have hbound : x.bind cmd tripped = { x with ring := boundRing (Cmd.base cmd) (Cmd.number cmd) } := by
      simp [Group.bind, h]
    rw [hbound, h, if_neg fun hc => hne hc.1, if_neg fun hc => hne hc.1, ← h]

theorem Group.producing_bind {x : Group} (tripped : Bool) (h : x.state = .unbound ∨ x.state = .stopped) :
    (x.bind cmd tripped).producing = x.producing := by
  rw [Group.producing_of_quiet h, Group.bind_eq tripped h]
  simp only [Group.producing]
  split <;> simp

/-- The clauses of BIND_RING. -/
theorem bindRing_clauses (hs : Settled s) (ha : Awaits s .adminProcessor) (hop : opcodeOf cmd = 0x01) :
    (¬BindRingParams cmd → Refused (.bindRing false cmd) cmd .badParam s)
    ∧ (BindRingParams cmd → ∀ g : GroupId, byteOf cmd 4 = g →
      let x := s.group g
      (x.state ≠ .unbound → x.state ≠ .stopped → Refused (.bindRing false cmd) cmd .badState s)
      ∧ (x.state = .stopped → x.window ≠ [] → Refused (.bindRing false cmd) cmd .busy s)
      ∧ (x.state = .unbound ∨ (x.state = .stopped ∧ x.window = []) →
        ∃ t, exec (.bindRing false cmd) s = .next t
          ∧ t.group g = { x with
              ring := { bound := true, base := cmd.extractLsb' 192 64, size := 2 ^ numberOf cmd
                        tail := 0, fetch := 0, retire := 0, span := 0 }
              state := if x.state = .unbound ∧ s.tripCondition g = true then .tripped else .stopped
              notices := if x.state = .unbound ∧ s.tripCondition g = true
                then x.notices.add .tripped else x.notices }
          ∧ Reported cmd .ok 0 s t ∧ SameExcept [.group g, .admin, .requests, .port] s t)) := by
  have hexec : exec (.bindRing false cmd) s =
      command false true cmd (bindRingVerdict cmd s) 0 (bindRingEffect cmd) s := exec_of_row rfl hop
  refine ⟨fun hp => refused_of_command hs ha hexec (bindRingVerdict_of_not_params hp) (by decide), ?_⟩
  intro hp g hg x
  have hverdict := bindRingVerdict_of_params (s := s) hp hg
  refine ⟨fun hu hst => ?_, fun hst hw => ?_, fun hok => ?_⟩
  · exact refused_of_command hs ha hexec (hverdict.trans (Group.bindVerdict_badState (fun _ => hu) hst)) (by decide)
  · exact refused_of_command hs ha hexec (hverdict.trans (Group.bindVerdict_busy hst hw)) (by decide)
  · have hquiet : x.state = .unbound ∨ x.state = .stopped := hok.imp_right And.left
    have hgroup : groupOfCode (Cmd.group cmd) = some g := (groupOfCode_eq_some_iff _ _).2 hg
    have heffect : bindRingEffect cmd s.received = s.received.modGroup g (Group.bind cmd (s.tripCondition g)) := by
      rw [bindRingEffect, hgroup]; rfl
    have hrun := exec_of_accepted hexec ha (hverdict.trans (Group.bindVerdict_ok (hok.imp_left fun h => ⟨rfl, h⟩)))
    rw [heffect] at hrun
    refine ⟨_, hrun, ?_, reported_settle rfl rfl rfl rfl, groupCommand_frame hs (Group.producing_bind _ hquiet)⟩
    exact (State.group_modGroup_same s.received g _).trans (Group.bind_eq _ hquiet)

/-! ### UNBIND_RING -/

abbrev UnbindRingParams (cmd : Slot32) : Prop := byteOf cmd 4 < 4 ∧ OnlyUses cmd [4]

theorem unbindRingVerdict_eq (cmd : Slot32) (s : State) : unbindRingVerdict cmd s =
    groupVerdict (Cmd.reservedClear Cmd.usedUnbindRing cmd) (fun g => (s.group g).bindVerdict false) (Cmd.group cmd) :=
  rfl

theorem unbindRingVerdict_of_not_params (h : ¬UnbindRingParams cmd) : unbindRingVerdict cmd s = .badParam := by
  rw [unbindRingVerdict_eq]
  exact groupVerdict_of_not_params fun hp => h ⟨hp.1, (Cmd.reservedClear_iff _ _).1 hp.2⟩

theorem unbindRingVerdict_of_params (h : UnbindRingParams cmd) (hg : byteOf cmd 4 = g) :
    unbindRingVerdict cmd s = (s.group g).bindVerdict false := by
  rw [unbindRingVerdict_eq]
  exact groupVerdict_of_params hg ((Cmd.reservedClear_iff _ _).2 h.2)

/-- The clauses of UNBIND_RING. -/
theorem unbindRing_clauses (hs : Settled s) (ha : Awaits s .adminProcessor) (hop : opcodeOf cmd = 0x02) :
    (¬UnbindRingParams cmd → Refused (.unbindRing false cmd) cmd .badParam s)
    ∧ (UnbindRingParams cmd → ∀ g : GroupId, byteOf cmd 4 = g →
      let x := s.group g
      (x.state ≠ .stopped → Refused (.unbindRing false cmd) cmd .badState s)
      ∧ (x.state = .stopped → x.window ≠ [] → Refused (.unbindRing false cmd) cmd .busy s)
      ∧ (x.state = .stopped → x.window = [] →
        ∃ t, exec (.unbindRing false cmd) s = .next t
          ∧ t.group g = { x with state := .unbound, ring := { x.ring with bound := false } }
          ∧ Reported cmd .ok 0 s t ∧ SameExcept [.group g, .admin, .requests, .port] s t)) := by
  have hexec : exec (.unbindRing false cmd) s =
      command false true cmd (unbindRingVerdict cmd s) 0 (unbindRingEffect cmd) s := exec_of_row rfl hop
  refine ⟨fun hp => refused_of_command hs ha hexec (unbindRingVerdict_of_not_params hp) (by decide), ?_⟩
  intro hp g hg x
  have hverdict := unbindRingVerdict_of_params (s := s) hp hg
  refine ⟨fun hst => ?_, fun hst hw => ?_, fun hst hw => ?_⟩
  · exact refused_of_command hs ha hexec
      (hverdict.trans (Group.bindVerdict_badState (fun h => absurd h (by decide)) hst)) (by decide)
  · exact refused_of_command hs ha hexec (hverdict.trans (Group.bindVerdict_busy hst hw)) (by decide)
  · have hgroup : groupOfCode (Cmd.group cmd) = some g := (groupOfCode_eq_some_iff _ _).2 hg
    have heffect : unbindRingEffect cmd s.received = s.received.modGroup g Group.unbind := by
      rw [unbindRingEffect, hgroup]
    have hrun := exec_of_accepted hexec ha (hverdict.trans (Group.bindVerdict_ok (.inr ⟨hst, hw⟩)))
    rw [heffect] at hrun
    have hprod : (s.group g).unbind.producing = (s.group g).producing := by
      rw [Group.producing_of_quiet (.inr hst)]
      exact Group.producing_of_quiet (.inl rfl)
    exact ⟨_, hrun, State.group_modGroup_same s.received g _, reported_settle rfl rfl rfl rfl,
      groupCommand_frame hs hprod⟩

/-! ### SET_GROUP -/

abbrev SetGroupParams (cmd : Slot32) : Prop :=
  byteOf cmd 4 < 4 ∧ numberOf cmd ≤ 7 ∧ byteOf cmd 8 ≤ 1 ∧ OnlyUses cmd [4, 8, 12, 13]

/-- The count mode of a mode byte. -/
def countModeOfByte (n : Nat) : CountMode := if n = 0 then .edge else .centre

theorem countModeOfCode_eq : ∀ n, countModeOfCode n = if n ≤ 1 then some (countModeOfByte n) else none
  | 0 => rfl
  | 1 => rfl
  | n + 2 => by rw [if_neg (by omega)]; rfl

theorem setGroup_params_iff (cmd : Slot32) :
    (decide (Cmd.number cmd ≤ 7) && (countModeOfCode (Cmd.mode cmd)).isSome
      && Cmd.reservedClear Cmd.usedSetGroup cmd) = true ↔
      numberOf cmd ≤ 7 ∧ byteOf cmd 8 ≤ 1 ∧ OnlyUses cmd [4, 8, 12, 13] := by
  have hmode : (countModeOfCode (Cmd.mode cmd)).isSome = true ↔ byteOf cmd 8 ≤ 1 := by
    rw [countModeOfCode_eq]
    show _ ↔ Cmd.mode cmd ≤ 1
    split <;> simp_all
  simp only [Bool.and_eq_true, decide_eq_true_eq, hmode, Cmd.reservedClear_iff, and_assoc]
  rfl

theorem setGroupVerdict_eq (cmd : Slot32) (s : State) : setGroupVerdict cmd s =
    groupVerdict (decide (Cmd.number cmd ≤ 7) && (countModeOfCode (Cmd.mode cmd)).isSome
      && Cmd.reservedClear Cmd.usedSetGroup cmd)
      (fun g => if (s.group g).isQuiet then .ok else .badState) (Cmd.group cmd) := rfl

theorem setGroupVerdict_of_not_params (h : ¬SetGroupParams cmd) : setGroupVerdict cmd s = .badParam := by
  rw [setGroupVerdict_eq]
  exact groupVerdict_of_not_params fun hp => h ⟨hp.1, (setGroup_params_iff cmd).1 hp.2⟩

theorem setGroupVerdict_of_params (h : SetGroupParams cmd) (hg : byteOf cmd 4 = g) :
    setGroupVerdict cmd s = if (s.group g).isQuiet then .ok else .badState := by
  rw [setGroupVerdict_eq]
  exact groupVerdict_of_params hg ((setGroup_params_iff cmd).2 h.2)

/-- A command that changes one group and the marks of the group ticks. -/
theorem setGroup_frame {status : AdminStatus} {value : BitVec 128} {f : Group → Group} {ticks : Vector Bool 4}
    (hs : Settled s) (hprod : (f (s.group g)).producing = (s.group g).producing) :
    SameExcept [.group g, .admin, .requests, .port, .groupTicks] s
      (((s.received.modGroup g f).rewire s.pairs ticks).report cmd status value).settle := by
  have hsel := sameSelection_modGroup s.received g f hprod
  have hframe := accepted_frame (u := (s.received.modGroup g f).rewire s.pairs ticks) (cmd := cmd) (status := status)
    (value := value) hs [.group g, .groupTicks] ⟨hsel.ctrl, hsel.lines, hsel.producing⟩ rfl rfl rfl fun b hb hb' => by
      have hsame := Block.same_refl s b
      cases b with
      | group m => exact State.group_modGroup_ne s.received _ fun h => hb (by simp [h])
      | groupTicks => simp at hb
      | pairs | events | admin | requests | port => simp at hb'
      | resetPin | registers | tokens | sets | captureQueue | converter | resultWriter | tripUnit | completion =>
        exact hsame
  intro b hb
  refine hframe b fun h => hb ?_
  simp only [List.mem_append, List.mem_cons, List.not_mem_nil, or_false] at h ⊢
  tauto

/-- The clauses of SET_GROUP. -/
theorem setGroup_clauses (hs : Settled s) (ha : Awaits s .adminProcessor) (hop : opcodeOf cmd = 0x03) :
    (¬SetGroupParams cmd → Refused (.setGroup false cmd) cmd .badParam s)
    ∧ (SetGroupParams cmd → ∀ g : GroupId, byteOf cmd 4 = g →
      let x := s.group g
      (x.state ≠ .unbound → x.state ≠ .stopped → Refused (.setGroup false cmd) cmd .badState s)
      ∧ (x.state = .unbound ∨ x.state = .stopped →
        ∃ t, exec (.setGroup false cmd) s = .next t
          ∧ t.group g = { x with
              d := numberOf cmd, mode := if byteOf cmd 8 = 0 then .edge else .centre, presc := 0 }
          ∧ t.tickDue g = true ∧ t.marks.group = s.marks.group.set g false
          ∧ Reported cmd .ok 0 s t ∧ SameExcept [.group g, .admin, .requests, .port, .groupTicks] s t)) := by
  have hexec : exec (.setGroup false cmd) s =
      command false true cmd (setGroupVerdict cmd s) 0 (setGroupEffect cmd) s := exec_of_row rfl hop
  refine ⟨fun hp => refused_of_command hs ha hexec (setGroupVerdict_of_not_params hp) (by decide), ?_⟩
  intro hp g hg x
  have hverdict := setGroupVerdict_of_params (s := s) hp hg
  refine ⟨fun hu hst => ?_, fun hok => ?_⟩
  · refine refused_of_command hs ha hexec (hverdict.trans (if_neg fun hq => ?_)) (by decide)
    exact ((Group.isQuiet_iff _).1 hq).elim hu hst
  · have hgroup : groupOfCode (Cmd.group cmd) = some g := (groupOfCode_eq_some_iff _ _).2 hg
    have hmode : countModeOfCode (Cmd.mode cmd) = some (countModeOfByte (byteOf cmd 8)) := by
      rw [countModeOfCode_eq]
      exact if_pos hp.2.2.1
    have hrun := exec_of_accepted hexec ha (hverdict.trans (if_pos ((Group.isQuiet_iff _).2 hok)))
    have heffect : setGroupEffect cmd s.received =
        (s.received.modGroup g fun x => { x with
          d := Cmd.number cmd, mode := countModeOfByte (byteOf cmd 8), presc := 0 }).rewire s.pairs
            (s.marks.group.set g false) := by
      rw [setGroupEffect, hgroup, hmode]; rfl
    rw [heffect] at hrun
    have hsame := State.group_modGroup_same s.received g fun x => { x with
      d := Cmd.number cmd, mode := countModeOfByte (byteOf cmd 8), presc := 0 }
    refine ⟨_, hrun, hsame, ?_, rfl, reported_settle rfl rfl rfl rfl, ?_⟩
    · show (s.isRunning && ((s.received.modGroup g fun x => { x with
        d := Cmd.number cmd, mode := countModeOfByte (byteOf cmd 8), presc := 0 }).group g).presc == 0
          && !(s.marks.group.set g false).get g) = true
      rw [hsame]
      simp [State.isRunning, ha.1, vector_get]
    · exact setGroup_frame hs rfl

end OneGroup

/-- Settles O52: the three commands by their own clauses. -/
theorem ringAndGroupCommands : Obligations.RingAndGroupCommands := by
  unfold Obligations.RingAndGroupCommands
  intro s cmd hs ha
  exact ⟨bindRing_clauses hs ha, unbindRing_clauses hs ha, setGroup_clauses hs ha⟩

/-! ## The commands of converter, lines and tokens -/

section Others

variable {s : State} {cmd : Slot32}

/-! ### SET_CONVERTER -/

theorem setConverter_params_iff (cmd : Slot32) :
    (decide (1 ≤ Cmd.number cmd) && decide (Cmd.number cmd ≤ 32) && Cmd.reservedClear Cmd.usedSetConverter cmd) = true ↔
      1 ≤ numberOf cmd ∧ numberOf cmd ≤ 32 ∧ OnlyUses cmd [12, 13] := by
  simp only [Bool.and_eq_true, decide_eq_true_eq, Cmd.reservedClear_iff, and_assoc]
  rfl

/-- The clauses of SET_CONVERTER. -/
theorem setConverter_clauses (hs : Settled s) (ha : Awaits s .adminProcessor) (hop : opcodeOf cmd = 0x05) :
    let params := 1 ≤ numberOf cmd ∧ numberOf cmd ≤ 32 ∧ OnlyUses cmd [12, 13]
    (¬params → Refused (.setConverter false cmd) cmd .badParam s)
    ∧ (params → ¬(s.converter.state = .idle ∧ s.captureQueue = []) →
      Refused (.setConverter false cmd) cmd .busy s)
    ∧ (params → s.converter.state = .idle → s.captureQueue = [] →
      ∃ t, exec (.setConverter false cmd) s = .next t
        ∧ t.converter = { s.converter with k := numberOf cmd, presc := 0 }
        ∧ t.convTickDue = true ∧ t.marks.conv = false
        ∧ Reported cmd .ok 0 s t ∧ SameExcept [.converter, .admin, .requests, .port] s t) := by
  intro params
  have hexec : exec (.setConverter false cmd) s =
      command false true cmd (setConverterVerdict cmd s) 0 (setConverterEffect cmd) s := exec_of_row rfl hop
  have hverdict : params → setConverterVerdict cmd s =
      if s.converter.state == .idle && s.captureQueue.isEmpty then .ok else .busy := fun hp =>
    judge_of_params ((setConverter_params_iff cmd).2 hp) _
  refine ⟨fun hp => ?_, fun hp hbusy => ?_, fun hp hidle hempty => ?_⟩
  · exact refused_of_command hs ha hexec (judge_of_not_params (mt (setConverter_params_iff cmd).1 hp) _) (by decide)
  · refine refused_of_command hs ha hexec ((hverdict hp).trans (if_neg fun h => hbusy ?_)) (by decide)
    simpa using h
  · have hrun := exec_of_accepted hexec ha ((hverdict hp).trans (if_pos (by simp [hidle, hempty])))
    refine ⟨_, hrun, rfl, ?_, rfl, reported_settle rfl rfl rfl rfl, ?_⟩
    · have hrunning : s.isRunning = true := by simp [State.isRunning, ha.1]
      exact (congrArg (fun b => b && (0 == 0) && !false) hrunning).trans rfl
    · refine accepted_frame (u := setConverterEffect cmd s.received) hs [.converter] ⟨rfl, rfl, fun _ => rfl⟩ rfl rfl rfl
        fun b hb hb' => ?_
      have hsame := Block.same_refl s b
      cases b with
      | converter => simp at hb
      | pairs | events | admin | requests | port => simp at hb'
      | resetPin | registers | group _ | tokens | sets | captureQueue | resultWriter | tripUnit | completion
      | groupTicks => exact hsame

/-! ### SET_TOKEN -/

theorem tokenOfCode_eq_some_iff (n : Nat) (k : TokenId) : tokenOfCode n = some k ↔ n = k := by
  have := k.isLt
  by_cases hn : n < 16
  · simp [tokenOfCode, hn, Fin.ext_iff]
  · have hne : n ≠ k := by omega
    simp [tokenOfCode, hn, hne]

theorem setToken_params_iff (cmd : Slot32) :
    ((tokenOfCode (Cmd.token cmd)).isSome && decide (Cmd.number cmd ≤ 255)
      && Cmd.reservedClear Cmd.usedSetToken cmd) = true ↔
      byteOf cmd 7 < 16 ∧ numberOf cmd ≤ 255 ∧ OnlyUses cmd [7, 12, 13] := by
  have htoken : (tokenOfCode (Cmd.token cmd)).isSome = true ↔ byteOf cmd 7 < 16 := by
    show _ ↔ Cmd.token cmd < 16
    rw [tokenOfCode]
    split <;> simp_all
  simp only [Bool.and_eq_true, decide_eq_true_eq, htoken, Cmd.reservedClear_iff, and_assoc]
  rfl

/-- The clauses of SET_TOKEN. -/
theorem setToken_clauses (hs : Settled s) (ha : Awaits s .adminProcessor) (hop : opcodeOf cmd = 0x0A) :
    let params := byteOf cmd 7 < 16 ∧ numberOf cmd ≤ 255 ∧ OnlyUses cmd [7, 12, 13]
    (¬params → Refused (.setToken false cmd) cmd .badParam s)
    ∧ (params → ∀ k : TokenId, byteOf cmd 7 = k →
      ∃ t, exec (.setToken false cmd) s = .next t
        ∧ t.token k = numberOf cmd ∧ (∀ m, m ≠ k → t.token m = s.token m)
        ∧ Reported cmd .ok 0 s t ∧ SameExcept [.tokens, .admin, .requests, .port] s t) := by
  intro params
  have hexec : exec (.setToken false cmd) s =
      command false true cmd (setTokenVerdict cmd s) 0 (setTokenEffect cmd) s := exec_of_row rfl hop
  refine ⟨fun hp => ?_, fun hp k hk => ?_⟩
  · exact refused_of_command hs ha hexec (judge_of_not_params (mt (setToken_params_iff cmd).1 hp) _) (by decide)
  · have hrun := exec_of_accepted hexec ha (judge_of_params ((setToken_params_iff cmd).2 hp) _)
    have htoken : tokenOfCode (Cmd.token cmd) = some k := (tokenOfCode_eq_some_iff _ _).2 hk
    have heffect : setTokenEffect cmd s.received =
        { s.received with tokens := s.tokens.set k (Cmd.number cmd) } := by
      rw [setTokenEffect, htoken]; rfl
    rw [heffect] at hrun
    have hget : ∀ m : TokenId, (s.tokens.set k (Cmd.number cmd)).get m = if m = k then Cmd.number cmd else s.token m :=
      fun m => tokens_set_get _ _ _ _
    refine ⟨_, hrun, (hget k).trans (if_pos rfl), fun m hm => (hget m).trans (if_neg hm),
      reported_settle rfl rfl rfl rfl, ?_⟩
    refine accepted_frame hs [.tokens] ⟨rfl, rfl, fun _ => rfl⟩ rfl rfl rfl fun b hb hb' => ?_
    have hsame := Block.same_refl s b
    cases b with
    | tokens => simp at hb
    | pairs | events | admin | requests | port => simp at hb'
    | resetPin | registers | group _ | sets | captureQueue | converter | resultWriter | tripUnit | completion
    | groupTicks => exact hsame

/-! ### SET_TRIP -/

/-- SET_TRIP's parameters are in range (R160). -/
abbrev SetTripParams (cmd : Slot32) : Prop :=
  byteOf cmd 6 < 4 ∧ byteOf cmd 9 ≤ 1 ∧ numberOf cmd ≤ 15 ∧ byteOf cmd 10 < 16 ∧ OnlyUses cmd [6, 9, 10, 12, 13]

/-- A byte without its upper half names groups 0 to 3 alone. -/
theorem maskLegal_iff (m : Byte) : maskLegal m = true ↔ m.toNat < 16 := by
  rw [maskLegal, beq_iff_eq]
  revert m; decide

theorem setTrip_params_iff (cmd : Slot32) :
    ((levelOfCode (Cmd.level cmd)).isSome && decide (Cmd.number cmd ≤ 15)
      && maskLegal (Cmd.mask cmd) && Cmd.reservedClear Cmd.usedSetTrip cmd) = true ↔
      byteOf cmd 9 ≤ 1 ∧ numberOf cmd ≤ 15 ∧ byteOf cmd 10 < 16 ∧ OnlyUses cmd [6, 9, 10, 12, 13] := by
  have hlevel : (levelOfCode (Cmd.level cmd)).isSome = true ↔ byteOf cmd 9 ≤ 1 := by
    rw [levelOfCode_eq]
    show _ ↔ Cmd.level cmd ≤ 1
    split <;> simp_all
  simp only [Bool.and_eq_true, decide_eq_true_eq, hlevel, maskLegal_iff, Cmd.reservedClear_iff, and_assoc]
  rfl

theorem setTripVerdict_of_not_params (h : ¬SetTripParams cmd) : setTripVerdict cmd s = .badParam := by
  by_cases hl : byteOf cmd 6 < 4
  · have hline : lineOfCode (Cmd.line cmd) = some ⟨byteOf cmd 6, hl⟩ := (lineOfCode_eq_some_iff _ _).2 rfl
    rw [setTripVerdict, hline]
    exact judge_of_not_params (fun hp => h ⟨hl, (setTrip_params_iff cmd).1 hp⟩) _
  · have hline : lineOfCode (Cmd.line cmd) = none := dif_neg hl
    rw [setTripVerdict, hline]

theorem setTripVerdict_of_params {l : LineId} (h : SetTripParams cmd) (hl : byteOf cmd 6 = l) :
    setTripVerdict cmd s = if (s.line l).latch then .badState else .ok := by
  have hline : lineOfCode (Cmd.line cmd) = some l := (lineOfCode_eq_some_iff _ _).2 hl
  rw [setTripVerdict, hline]
  exact judge_of_params ((setTrip_params_iff cmd).2 h.2) _

/-- A line that is not latched makes no trip condition, so its configuration changes none (R127). -/
theorem tripCondition_setLine_of_unlatched {l : LineId} {x : TripLine} (h : (s.line l).latch = false)
    (hx : x.latch = false) (g : GroupId) : (s.setLine l x).tripCondition g = s.tripCondition g := by
  refine List.any_congr rfl fun m => ?_
  rw [State.line_setLine]
  split
  · next hm => subst hm; simp [h, hx]
  · rfl

/-- Where no trip condition, no group's producing and not the controller state changes, pairs stay settled. -/
theorem settle_pairs_of_conditions {u : State} (hs : Settled s) (hctrl : u.ctrl = s.ctrl)
    (htrip : ∀ g, u.tripCondition g = s.tripCondition g) (hprod : ∀ g, (u.group g).producing = (s.group g).producing)
    (hp : u.pairs = s.pairs) : u.settle.pairs = s.pairs := by
  refine State.pairs_eq_of_pair fun p => ?_
  have hsel : u.selection (s.pair p) = s.selection (s.pair p) := by
    cases hg : (s.pair p).group with
    | none => simp [State.selection, hg]
    | some g => simp [State.selection, hg, hctrl, htrip, hprod]
  rw [State.settle_pair, State.pair_of_pairs hp, State.settledPair_eq, hsel, hctrl, ← State.settledPair_eq]
  exact ((settled_iff s).1 hs).2.1 p

/-- Writing a line leaves every part but the trip unit as it was. -/
theorem Block.same_setLine (s : State) (l : LineId) (x : TripLine) {b : Block} (hb : b ≠ .tripUnit) :
    b.Same s (s.setLine l x) := by
  have hsame := Block.same_refl s b
  cases b with
  | tripUnit => exact absurd rfl hb
  | resetPin | registers | events | group _ | pairs | tokens | sets | captureQueue | converter | resultWriter | admin
  | completion | requests | port | groupTicks => exact hsame

/-- A configured line, with the level and the mask of its bytes. -/
theorem configure_eq (ln : TripLine) (cmd : Slot32) :
    ln.configure (levelOfByte (byteOf cmd 9)) (Cmd.number cmd) ((Cmd.mask cmd).extractLsb' 0 4) =
      { ln with
        active := if byteOf cmd 9 = 0 then .low else .high
        filterLen := numberOf cmd, mask := BitVec.ofNat 4 (byteOf cmd 10)
        filtered := false, run := 0 } := by
  have hmask : (Cmd.mask cmd).extractLsb' 0 4 = BitVec.ofNat 4 (byteOf cmd 10) := by
    apply BitVec.eq_of_toNat_eq
    rw [BitVec.extractLsb'_toNat, BitVec.toNat_ofNat]
    rfl
  rw [TripLine.configure, hmask]
  rfl

/-- The clauses of SET_TRIP. -/
theorem setTrip_clauses (hs : Settled s) (ha : Awaits s .adminProcessor) (hop : opcodeOf cmd = 0x06) :
    (¬SetTripParams cmd → Refused (.setTrip false cmd) cmd .badParam s)
    ∧ (SetTripParams cmd → ∀ l : LineId, byteOf cmd 6 = l →
      ((s.line l).latch = true → Refused (.setTrip false cmd) cmd .badState s)
      ∧ ((s.line l).latch = false →
        ∃ t, exec (.setTrip false cmd) s = .next t
          ∧ t.line l = { s.line l with
              active := if byteOf cmd 9 = 0 then .low else .high
              filterLen := numberOf cmd, mask := BitVec.ofNat 4 (byteOf cmd 10)
              filtered := false, run := 0 }
          ∧ (∀ m, m ≠ l → t.line m = s.line m) ∧ t.tripPresc = s.tripPresc ∧ t.marks.trip = s.marks.trip
          ∧ (∀ g, t.tripCondition g = s.tripCondition g)
          ∧ Reported cmd .ok 0 s t ∧ SameExcept [.tripUnit, .admin, .requests, .port] s t)) := by
  have hexec : exec (.setTrip false cmd) s =
      command false true cmd (setTripVerdict cmd s) 0 (setTripEffect cmd) s := exec_of_row rfl hop
  refine ⟨fun hp => refused_of_command hs ha hexec (setTripVerdict_of_not_params hp) (by decide), ?_⟩
  intro hp l hl
  have hverdict := setTripVerdict_of_params (s := s) hp hl
  refine ⟨fun hlatch => ?_, fun hlatch => ?_⟩
  · exact refused_of_command hs ha hexec (hverdict.trans (if_pos hlatch)) (by decide)
  · have hline : lineOfCode (Cmd.line cmd) = some l := (lineOfCode_eq_some_iff _ _).2 hl
    have hlevel : levelOfCode (Cmd.level cmd) = some (levelOfByte (byteOf cmd 9)) := by
      rw [levelOfCode_eq]
      exact if_pos hp.2.1
    have hrun := exec_of_accepted hexec ha (hverdict.trans (if_neg (by simp [hlatch])))
    have heffect : setTripEffect cmd s.received = s.received.setLine l
        ((s.line l).configure (levelOfByte (byteOf cmd 9)) (Cmd.number cmd) ((Cmd.mask cmd).extractLsb' 0 4)) := by
      rw [setTripEffect, hline, hlevel]; rfl
    rw [heffect] at hrun
    generalize hx : (s.line l).configure (levelOfByte (byteOf cmd 9)) (Cmd.number cmd)
      ((Cmd.mask cmd).extractLsb' 0 4) = x at hrun
    have hunlatched : x.latch = false := by rw [← hx]; exact hlatch
    have htrip : ∀ g, (s.received.setLine l x).tripCondition g = s.tripCondition g :=
      tripCondition_setLine_of_unlatched (s := s.received) hlatch hunlatched
    refine ⟨_, hrun, ?_, fun m hm => ?_, rfl, rfl, htrip, reported_settle rfl rfl rfl rfl, fun b hb => ?_⟩
    · refine (State.line_setLine s.received l l x).trans ?_
      rw [if_pos rfl, ← hx, configure_eq]
    · exact (State.line_setLine s.received l m x).trans (if_neg hm)
    · by_cases hpairs : b = .pairs
      · subst hpairs
        exact settle_pairs_of_conditions hs rfl htrip (fun _ => rfl) rfl
      by_cases hevents : b = .events
      · subst hevents
        exact same_settle_events hs rfl rfl
      exact (Block.same_setLine s.received l x fun h => hb (by simp [h])).report_settle (by simp_all)

end Others

/-- Settles O54: the three commands by their own clauses. -/
theorem converterTripAndTokenCommands : Obligations.ConverterTripAndTokenCommands := by
  unfold Obligations.ConverterTripAndTokenCommands
  intro s cmd hs ha
  exact ⟨setConverter_clauses hs ha, setTrip_clauses hs ha, setToken_clauses hs ha⟩

end Sys2Proof.Machine
end

section
/-! PROOF. The operations of the capture path, case by case, and that they look at nothing but the groups, the capture
path and the controller state (R88 to R94, R104 to R106, R110). -/

namespace Sys2Proof.Machine

/-! ## Case by case -/

section Cases

variable {s : State}

theorem State.converterTake_of_not (h : ¬(s.isRunning = true ∧ s.converter.state = .idle)) : s.converterTake = s :=
  if_neg (by simpa using h)

theorem State.converterTake_of_empty (h : s.captureQueue = []) : s.converterTake = s := by
  unfold State.converterTake
  rw [h]
  exact ite_self s

/-- The take of the capture queue's head (R91; log 21). -/
theorem State.converterTake_of_cons {r : Request} {rest : List Request} (hrun : s.isRunning = true)
    (hidle : s.converter.state = .idle) (h : s.captureQueue = r :: rest) :
    s.converterTake =
      { s with
        captureQueue := rest
        converter := { s.converter with state := .converting, current := some r, step := 0, done := 0, sum := 0 }
        marks := { s.marks with conv := true } } := by
  unfold State.converterTake
  rw [if_pos (by simp [hrun, hidle]), h]

theorem State.offerHeld_of_not (h : s.converter.state ≠ .holding ∨ s.converter.held = none ∨ 4 ≤ s.writer.queue.length) :
    s.offerHeld = s := by
  unfold State.offerHeld
  split
  · next r hstate hheld =>
    rcases h with h | h | h
    · exact absurd hstate h
    · rw [hheld] at h; cases h
    · exact if_neg (Nat.not_lt.2 h)
  · rfl

/-- The offer of a held result (R94). -/
theorem State.offerHeld_of_held {r : ConvResult} (hstate : s.converter.state = .holding) (hheld : s.converter.held = some r)
    (hroom : s.writer.queue.length < 4) :
    s.offerHeld =
      { s with
        writer := { s.writer with queue := s.writer.queue ++ [r] }
        converter := { s.converter with state := .idle, held := none } }.converterTake := by
  unfold State.offerHeld
  rw [hstate, hheld]
  exact if_pos hroom

/-- A writer with a job keeps it (R104). -/
theorem State.chooseJob_of_job (h : s.writer.job ≠ none) : s.chooseJob = s := by
  unfold State.chooseJob
  split
  · next hj _ => exact absurd hj h
  · next hj _ => exact absurd hj h
  · rfl

theorem ResultWriter.nextSource_eq_none_iff (w : ResultWriter) : w.nextSource = none ↔ w.queue = [] ∧ w.fill = [] := by
  unfold ResultWriter.nextSource
  split <;> simp_all

/-- A writer without work stays without a job. -/
theorem State.chooseJob_of_no_work (hq : s.writer.queue = []) (hf : s.writer.fill = []) : s.chooseJob = s := by
  have hnone : s.writer.nextSource = none := (ResultWriter.nextSource_eq_none_iff _).2 ⟨hq, hf⟩
  unfold State.chooseJob
  rw [hnone]
  split
  · next h => cases h
  · next h => cases h
  · rfl

/-- The take of a result as the next job, or its drop (R104, R105). -/
theorem State.chooseJob_of_result {r : ConvResult} {rest : List ConvResult} (hj : s.writer.job = none)
    (hn : s.writer.nextSource = some .resultQueue) (hq : s.writer.queue = r :: rest) :
    s.chooseJob =
      { s with writer := { s.writer with
          queue := rest
          lastSource := .resultQueue
          job := if s.dropsResult r then none else some (.result r) } } := by
  unfold State.chooseJob
  rw [hj, hn]
  dsimp only
  rw [hq]

/-- The take of a record of the fill list (R104, R106). -/
theorem State.chooseJob_of_fill {ref : EntryRef} {rest : List EntryRef} (hj : s.writer.job = none)
    (hn : s.writer.nextSource = some .fillList) (hf : s.writer.fill = ref :: rest) :
    s.chooseJob =
      { s with writer := { s.writer with
          fill := rest
          lastSource := .fillList
          job := (s.entry? ref).map fun e => .fill ref e.triggered } } := by
  unfold State.chooseJob
  rw [hj, hn]
  dsimp only
  rw [hf]
  dsimp only
  cases s.entry? ref <;> rfl

/-- The writer's choice, in its four cases. -/
theorem State.chooseJob_cases (s : State) :
    (s.chooseJob = s ∧ (s.writer.job ≠ none ∨ (s.writer.queue = [] ∧ s.writer.fill = [])))
    ∨ (∃ r rest, s.writer.job = none ∧ s.writer.nextSource = some .resultQueue ∧ s.writer.queue = r :: rest
      ∧ s.chooseJob = { s with writer := { s.writer with
          queue := rest
          lastSource := .resultQueue
          job := if s.dropsResult r then none else some (.result r) } })
    ∨ ∃ ref rest, s.writer.job = none ∧ s.writer.nextSource = some .fillList ∧ s.writer.fill = ref :: rest
      ∧ s.chooseJob = { s with writer := { s.writer with
          fill := rest
          lastSource := .fillList
          job := (s.entry? ref).map fun e => .fill ref e.triggered } } := by
  by_cases hj : s.writer.job = none
  · cases hn : s.writer.nextSource with
    | none =>
      obtain ⟨hq, hf⟩ := (ResultWriter.nextSource_eq_none_iff _).1 hn
      exact .inl ⟨State.chooseJob_of_no_work hq hf, .inr ⟨hq, hf⟩⟩
    | some source =>
      cases source with
      | resultQueue =>
        cases hq : s.writer.queue with
        | nil => unfold ResultWriter.nextSource at hn; rw [hq] at hn; cases hf : s.writer.fill <;> simp [hf] at hn
        | cons r rest => exact .inr (.inl ⟨r, rest, hj, rfl, rfl, State.chooseJob_of_result hj hn hq⟩)
      | fillList =>
        cases hf : s.writer.fill with
        | nil => unfold ResultWriter.nextSource at hn; rw [hf] at hn; cases hq : s.writer.queue <;> simp [hq] at hn
        | cons ref rest => exact .inr (.inr ⟨ref, rest, hj, rfl, rfl, State.chooseJob_of_fill hj hn hf⟩)
  · exact .inl ⟨State.chooseJob_of_job hj, .inl hj⟩

theorem State.drainOne_of_none {ref : EntryRef} (h : s.entry? ref = none) : s.drainOne ref = s := by
  unfold State.drainOne
  rw [h]

/-- A record is not drained while it is not DRAINING, has work in hand, or waits in the fill list. -/
theorem State.drainOne_of_not {ref : EntryRef} {e : Entry} (h : s.entry? ref = some e)
    (hno : ¬(e.st = .draining ∧ s.inHand ref = false ∧ s.inFill ref = false)) : s.drainOne ref = s := by
  unfold State.drainOne
  rw [h]
  refine if_neg fun hc => hno ?_
  simpa [and_assoc] using hc

/-- A DRAINING record that owes words joins the fill list (R106). -/
theorem State.drainOne_of_owes {ref : EntryRef} {e : Entry} (h : s.entry? ref = some e) (hst : e.st = .draining)
    (hhand : s.inHand ref = false) (hfill : s.inFill ref = false) (howes : e.owes = true) :
    s.drainOne ref = { s with writer := { s.writer with fill := s.writer.fill ++ [ref] } } := by
  unfold State.drainOne
  rw [h]
  dsimp only
  rw [if_pos (by simp [hst, hhand, hfill]), if_pos howes]

/-- A DRAINING record whose capture work is finished goes to RETIRING (R110). -/
theorem State.drainOne_of_finished {ref : EntryRef} {e : Entry} (h : s.entry? ref = some e) (hst : e.st = .draining)
    (hhand : s.inHand ref = false) (hfill : s.inFill ref = false) (howes : e.owes = false) :
    s.drainOne ref = s.modEntry ref fun e => { e with st := .retiring } := by
  unfold State.drainOne
  rw [h]
  dsimp only
  rw [if_pos (by simp [hst, hhand, hfill]), if_neg (by simp [howes])]

/-- The test of a DRAINING record, in its three cases. -/
theorem State.drainOne_cases (s : State) (ref : EntryRef) :
    (s.drainOne ref = s ∧ ∀ e, s.entry? ref = some e →
      ¬(e.st = .draining ∧ s.inHand ref = false ∧ s.inFill ref = false))
    ∨ (∃ e, s.entry? ref = some e ∧ e.st = .draining ∧ s.inHand ref = false ∧ s.inFill ref = false ∧ e.owes = true
      ∧ s.drainOne ref = { s with writer := { s.writer with fill := s.writer.fill ++ [ref] } })
    ∨ ∃ e, s.entry? ref = some e ∧ e.st = .draining ∧ s.inHand ref = false ∧ s.inFill ref = false ∧ e.owes = false
      ∧ s.drainOne ref = s.modEntry ref fun e => { e with st := .retiring } := by
  cases h : s.entry? ref with
  | none => exact .inl ⟨State.drainOne_of_none h, fun _ he => by cases he⟩
  | some e =>
    by_cases hc : e.st = .draining ∧ s.inHand ref = false ∧ s.inFill ref = false
    · obtain ⟨hst, hhand, hfill⟩ := hc
      cases howes : e.owes with
      | true => exact .inr (.inl ⟨e, rfl, hst, hhand, hfill, howes, State.drainOne_of_owes h hst hhand hfill howes⟩)
      | false => exact .inr (.inr ⟨e, rfl, hst, hhand, hfill, howes, State.drainOne_of_finished h hst hhand hfill howes⟩)
    · refine .inl ⟨State.drainOne_of_not h hc, fun e' he => ?_⟩
      obtain rfl := Option.some.inj he
      exact hc

end Cases

/-! ## The moving part of a state -/

/-- What the sequencers and the capture path move of `s`, over the rest of `r`: the groups, the tokens, the sets and
the capture path. -/
def State.movingOver (s r : State) : State :=
  { r with
    groups := s.groups, tokens := s.tokens, sets := s.sets, captureQueue := s.captureQueue, converter := s.converter
    writer := s.writer, marks := { r.marks with conv := s.marks.conv } }

section MovingOver

variable {s r : State}

theorem State.movingOver_isRunning (h : r.ctrl = s.ctrl) : (s.movingOver r).isRunning = s.isRunning := by
  show (r.ctrl == .running) = (s.ctrl == .running)
  rw [h]

theorem State.movingOver_converterTake (h : r.ctrl = s.ctrl) :
    (s.movingOver r).converterTake = s.converterTake.movingOver r := by
  by_cases hc : s.isRunning = true ∧ s.converter.state = .idle
  · have hc' : (s.movingOver r).isRunning = true := (State.movingOver_isRunning h).trans hc.1
    cases hq : s.captureQueue with
    | nil => rw [State.converterTake_of_empty hq, State.converterTake_of_empty (s := s.movingOver r) hq]
    | cons a rest =>
      rw [State.converterTake_of_cons hc.1 hc.2 hq, State.converterTake_of_cons (s := s.movingOver r) hc' hc.2 hq]
      rfl
  · have hc' : ¬((s.movingOver r).isRunning = true ∧ (s.movingOver r).converter.state = .idle) := by
      rw [State.movingOver_isRunning h]
      exact hc
    rw [State.converterTake_of_not hc, State.converterTake_of_not hc']

theorem State.movingOver_offerHeld (h : r.ctrl = s.ctrl) : (s.movingOver r).offerHeld = s.offerHeld.movingOver r := by
  by_cases hno : s.converter.state ≠ .holding ∨ s.converter.held = none ∨ 4 ≤ s.writer.queue.length
  · rw [State.offerHeld_of_not hno, State.offerHeld_of_not (s := s.movingOver r) hno]
  · simp only [not_or, not_not, Nat.not_le] at hno
    obtain ⟨hstate, hheld, hroom⟩ := hno
    obtain ⟨a, ha⟩ := Option.ne_none_iff_exists'.1 hheld
    rw [State.offerHeld_of_held hstate ha hroom, State.offerHeld_of_held (s := s.movingOver r) hstate ha hroom]
    exact State.movingOver_converterTake (s := { s with
      writer := { s.writer with queue := s.writer.queue ++ [a] }
      converter := { s.converter with state := .idle, held := none } }) h

theorem State.movingOver_chooseJob : (s.movingOver r).chooseJob = s.chooseJob.movingOver r := by
  rcases s.chooseJob_cases with ⟨h, hj | ⟨hq, hf⟩⟩ | ⟨a, rest, hj, hn, hq, h⟩ | ⟨a, rest, hj, hn, hf, h⟩
  · rw [h]; exact State.chooseJob_of_job (s := s.movingOver r) hj
  · rw [h]; exact State.chooseJob_of_no_work (s := s.movingOver r) hq hf
  · rw [h, State.chooseJob_of_result (s := s.movingOver r) hj hn hq]; rfl
  · rw [h, State.chooseJob_of_fill (s := s.movingOver r) hj hn hf]; rfl

theorem State.movingOver_drainOne (ref : EntryRef) :
    (s.movingOver r).drainOne ref = (s.drainOne ref).movingOver r := by
  rcases s.drainOne_cases ref with ⟨h, hno⟩ | ⟨e, he, hst, hhand, hfill, howes, h⟩ | ⟨e, he, hst, hhand, hfill, howes, h⟩
  · rw [h]
    cases he : s.entry? ref with
    | none => exact State.drainOne_of_none (s := s.movingOver r) he
    | some e => exact State.drainOne_of_not (s := s.movingOver r) he (hno e he)
  · rw [h, State.drainOne_of_owes (s := s.movingOver r) he hst hhand hfill howes]; rfl
  · rw [h, State.drainOne_of_finished (s := s.movingOver r) he hst hhand hfill howes]; rfl


theorem State.ctrl_of_fixed {u : State} (h : u.fixed = s.fixed) : u.ctrl = s.ctrl := congrArg Fixed.ctrl h

theorem State.movingOver_drain : (s.movingOver r).drain = s.drain.movingOver r := by
  have hfold : ∀ (refs : List EntryRef) (s : State),
      refs.foldl State.drainOne (s.movingOver r) = (refs.foldl State.drainOne s).movingOver r := by
    intro refs
    induction refs with
    | nil => exact fun _ => rfl
    | cons ref refs ih =>
      intro s
      rw [List.foldl_cons, List.foldl_cons, State.movingOver_drainOne, ih]
  exact hfold s.drainingRefs s

theorem State.movingOver_pumpOnce (h : r.ctrl = s.ctrl) : (s.movingOver r).pumpOnce = s.pumpOnce.movingOver r := by
  have h1 : r.ctrl = s.drain.ctrl := h.trans (State.ctrl_of_fixed s.fixed_drain).symm
  have h2 : r.ctrl = s.drain.converterTake.ctrl := h1.trans (State.ctrl_of_fixed s.drain.fixed_converterTake).symm
  rw [State.pumpOnce, State.movingOver_drain, State.movingOver_converterTake h1, State.movingOver_offerHeld h2,
    State.movingOver_chooseJob]
  rfl

theorem State.movingOver_pumpRounds (n : Nat) : ∀ {s : State}, r.ctrl = s.ctrl →
    State.pumpRounds n (s.movingOver r) = (State.pumpRounds n s).movingOver r := by
  induction n with
  | zero => exact fun _ => rfl
  | succ n ih =>
    intro s h
    rw [State.pumpRounds, State.movingOver_pumpOnce h, ih (h.trans (State.ctrl_of_fixed s.fixed_pumpOnce).symm)]
    rfl

theorem State.movingOver_modGroup (g : GroupId) (f : Group → Group) :
    (s.movingOver r).modGroup g f = (s.modGroup g f).movingOver r := rfl

/-- The end of the stops of all four groups (R38). -/
def State.finishStops (s : State) : State := allGroups.foldl (fun s g => s.modGroup g Group.finishStop) s

theorem State.pump_of_running (h : s.isRunning = true) : s.pump = (State.pumpRounds 8 s).finishStops := if_pos h

theorem State.pump_of_not_running (h : s.isRunning = false) : s.pump = s := if_neg (by simp [h])

theorem State.movingOver_finishStops (s : State) : (s.movingOver r).finishStops = s.finishStops.movingOver r := by
  simp only [State.finishStops, allGroups, List.foldl_cons, List.foldl_nil, State.movingOver_modGroup]

/-- The consequences on the capture path look at the moving part and the controller state alone. -/
theorem State.movingOver_pump (h : r.ctrl = s.ctrl) : (s.movingOver r).pump = s.pump.movingOver r := by
  cases hrun : s.isRunning with
  | true =>
    rw [State.pump_of_running hrun, State.pump_of_running ((State.movingOver_isRunning h).trans hrun),
      State.movingOver_pumpRounds 8 h, State.movingOver_finishStops]
  | false => rw [State.pump_of_not_running hrun, State.pump_of_not_running ((State.movingOver_isRunning h).trans hrun)]

theorem State.movingOver_removeWork (g : GroupId) (ending : SegStatus) :
    (s.movingOver r).removeWork g ending = (s.removeWork g ending).movingOver r := rfl

/-- What the breaking of a set with these members does to member `m`, where it is one (R42, R78). -/
def breakMember (members : BitVec 4) (g : GroupId) (s : State) (m : GroupId) : State :=
  if members.getLsbD m then
    s.modGroup m fun x =>
      (if m != g && x.state == .armed then { x.cancelFetch.retireWaiting with state := .stopped } else x).notify
        .setBroken
  else s

theorem State.breakSet_of_none {g : GroupId} (h : (s.sets.find? fun t => t.members.getLsbD g) = none) :
    s.breakSet g = s := by
  unfold State.breakSet
  rw [h]

theorem State.breakSet_of_some {g : GroupId} {t : StartSet} (h : (s.sets.find? fun t => t.members.getLsbD g) = some t) :
    s.breakSet g =
      allGroups.foldl (breakMember t.members g) { s with sets := s.sets.filter fun t => !t.members.getLsbD g } := by
  unfold State.breakSet
  rw [h]
  rfl

theorem State.movingOver_breakMember (members : BitVec 4) (g m : GroupId) :
    breakMember members g (s.movingOver r) m = (breakMember members g s m).movingOver r := by
  unfold breakMember
  split <;> rfl

theorem State.movingOver_breakSet (g : GroupId) : (s.movingOver r).breakSet g = (s.breakSet g).movingOver r := by
  cases h : s.sets.find? fun t => t.members.getLsbD g with
  | none => rw [State.breakSet_of_none h, State.breakSet_of_none (s := s.movingOver r) h]
  | some t =>
    rw [State.breakSet_of_some h, State.breakSet_of_some (s := s.movingOver r) h]
    have hfold : ∀ (l : List GroupId) (s : State), l.foldl (breakMember t.members g) (s.movingOver r) =
        (l.foldl (breakMember t.members g) s).movingOver r := by
      intro l
      induction l with
      | nil => exact fun _ => rfl
      | cons m l ih =>
        intro s
        rw [List.foldl_cons, List.foldl_cons, State.movingOver_breakMember, ih]
    exact hfold allGroups { s with sets := s.sets.filter fun t => !t.members.getLsbD g }

theorem State.tripGroup_of_out {g : GroupId} (h : (s.group g).state = .unbound ∨ (s.group g).state = .tripped) :
    s.tripGroup g = s := by
  unfold State.tripGroup
  rcases h with h | h <;> rw [h]

theorem State.tripGroup_of_resting {g : GroupId} (h : (s.group g).state = .stopped ∨ (s.group g).state = .faulted) :
    s.tripGroup g = s.modGroup g fun x => { x with state := .tripped }.notify .tripped := by
  unfold State.tripGroup
  rcases h with h | h <;> rw [h]

theorem State.tripGroup_of_armed {g : GroupId} (h : (s.group g).state = .armed) :
    s.tripGroup g = ((s.removeWork g .tripped).modGroup g fun x =>
        { x.clearOut with state := .tripped }.notify .tripped).breakSet g := by
  unfold State.tripGroup
  rw [h]

theorem State.tripGroup_of_running {g : GroupId}
    (h : (s.group g).state = .running ∨ (s.group g).state = .starved ∨ (s.group g).state = .stopping) :
    s.tripGroup g = (s.removeWork g .tripped).modGroup g fun x =>
        { x.clearOut with state := .tripped }.notify .tripped := by
  unfold State.tripGroup
  rcases h with h | h | h <;> rw [h]

theorem State.movingOver_tripGroup (g : GroupId) : (s.movingOver r).tripGroup g = (s.tripGroup g).movingOver r := by
  cases h : (s.group g).state with
  | unbound =>
    rw [State.tripGroup_of_out (.inl h), State.tripGroup_of_out (s := s.movingOver r) (.inl h)]
  | tripped =>
    rw [State.tripGroup_of_out (.inr h), State.tripGroup_of_out (s := s.movingOver r) (.inr h)]
  | stopped =>
    rw [State.tripGroup_of_resting (.inl h), State.tripGroup_of_resting (s := s.movingOver r) (.inl h)]; rfl
  | faulted =>
    rw [State.tripGroup_of_resting (.inr h), State.tripGroup_of_resting (s := s.movingOver r) (.inr h)]; rfl
  | armed =>
    rw [State.tripGroup_of_armed h, State.tripGroup_of_armed (s := s.movingOver r) h, State.movingOver_removeWork,
      State.movingOver_modGroup, State.movingOver_breakSet]
  | running =>
    rw [State.tripGroup_of_running (.inl h), State.tripGroup_of_running (s := s.movingOver r) (.inl h)]; rfl
  | starved =>
    rw [State.tripGroup_of_running (.inr (.inl h)), State.tripGroup_of_running (s := s.movingOver r) (.inr (.inl h))]
    rfl
  | stopping =>
    rw [State.tripGroup_of_running (.inr (.inr h)), State.tripGroup_of_running (s := s.movingOver r) (.inr (.inr h))]
    rfl

end MovingOver

end Sys2Proof.Machine
end

section
/-! PROOF. The trip lines: their samples, their filters and their latches (R116 to R118, R121). -/

namespace Sys2Proof.Machine

section Lines

variable {s : State} {l : LineId}

/-! ## A line's step -/

theorem TripLine.completesRun_iff (ln : TripLine) (level : Level) : ln.completesRun level = true ↔
    decide (level = ln.active) ≠ ln.filtered ∧ ln.filterLen ≤ ln.run := by
  have hactive : ln.sampleActive level = decide (level = ln.active) := rfl
  simp [TripLine.completesRun, hactive]

/-- A sample of a line (R116, R117): it ends the run, raises it, or completes it. -/
theorem TripLine.sampled_eq (ln : TripLine) (level : Level) : ln.sampled level =
    if decide (level = ln.active) = ln.filtered then { ln with run := 0, sample := none }
    else if ln.run < ln.filterLen then { ln with run := ln.run + 1, sample := none }
    else { ln with sample := some level } := by
  have hactive : ln.sampleActive level = decide (level = ln.active) := rfl
  by_cases hagree : decide (level = ln.active) = ln.filtered
  · have hno : ¬ln.completesRun level = true := fun h => ((ln.completesRun_iff level).1 h).1 hagree
    rw [if_pos hagree, TripLine.sampled, if_neg hno, TripLine.countSample, hactive, if_pos (beq_iff_eq.2 hagree)]
  · rw [if_neg hagree]
    by_cases hrun : ln.run < ln.filterLen
    · have hno : ¬ln.completesRun level = true := fun h => Nat.not_le.2 hrun ((ln.completesRun_iff level).1 h).2
      rw [if_pos hrun, TripLine.sampled, if_neg hno, TripLine.countSample, hactive, if_neg (by simpa using hagree)]
    · have hyes : ln.completesRun level = true := (ln.completesRun_iff level).2 ⟨hagree, Nat.not_lt.1 hrun⟩
      rw [if_neg hrun, TripLine.sampled, if_pos hyes]

theorem TripLine.countSample_eq (ln : TripLine) (level : Level) : ln.countSample level =
    { ln with run := if decide (level = ln.active) = ln.filtered then 0 else ln.run + 1, sample := none } := by
  have hactive : ln.sampleActive level = decide (level = ln.active) := rfl
  by_cases hagree : decide (level = ln.active) = ln.filtered
  · rw [if_pos hagree, TripLine.countSample, hactive, if_pos (beq_iff_eq.2 hagree)]
  · rw [if_neg hagree, TripLine.countSample, hactive, if_neg (by simpa using hagree)]

theorem TripLine.trips_iff (ln : TripLine) : ln.trips = true ↔ ln.filtered = false ∧ ln.mask ≠ 0 := by
  simp [TripLine.trips]

theorem TripLine.change_eq (ln : TripLine) : ln.change =
    { ln with
      filtered := !ln.filtered, run := 0, sample := none
      latch := if ln.filtered = false ∧ ln.mask ≠ 0 then true else ln.latch } := by
  have hlatch : (ln.latch || (!ln.filtered && ln.mask != 0)) =
      if ln.filtered = false ∧ ln.mask ≠ 0 then true else ln.latch := by
    by_cases h : ln.filtered = false ∧ ln.mask ≠ 0
    · have hyes : ln.trips = true := ln.trips_iff.2 h
      rw [if_pos h, show (!ln.filtered && ln.mask != 0) = ln.trips from rfl, hyes, Bool.or_true]
    · rw [if_neg h]
      have hno : ln.trips = false := Bool.eq_false_of_not_eq_true (mt ln.trips_iff.1 h)
      rw [show (!ln.filtered && ln.mask != 0) = ln.trips from rfl, hno, Bool.or_false]
  rw [TripLine.change, hlatch]

/-! ## The change of a filtered level -/

/-- The groups that a latching line trips, one after the other, and then the consequences (R121). -/
theorem levelChange_eq (s : State) (l : LineId) : s.levelChange l =
    if (s.line l).trips = true then
      if s.isRunning = true then
        ((newlyTripped s (s.setLine l (s.line l).change)).foldl (fun t g => t.tripGroup g)
          ((s.setLine l (s.line l).change).setEvt evtTrip)).pump
      else (s.setLine l (s.line l).change).setEvt evtTrip
    else s.setLine l (s.line l).change := rfl

theorem levelChange_of_not_trips (h : ¬(s.line l).trips = true) : s.levelChange l = s.setLine l (s.line l).change := by
  rw [levelChange_eq, if_neg h]

/-- A level change moves nothing of the fixed part but the line and EVT. -/
theorem fixed_levelChange (s : State) (l : LineId) : (s.levelChange l).fixed =
    { s.fixed with
      lines := (s.setLine l (s.line l).change).lines
      evt := if (s.line l).trips = true then s.evt ||| evtTrip else s.evt } := by
  rw [levelChange_eq]
  split
  · split
    · rw [State.fixed_pump, foldl_keeps State.fixed _ State.fixed_tripGroup]; rfl
    · rfl
  · rfl

theorem pairs_levelChange (s : State) (l : LineId) : (s.levelChange l).pairs = s.pairs := by
  rw [levelChange_eq]
  split
  · split
    · rw [State.pairs_pump, foldl_keeps State.pairs _ State.pairs_tripGroup]; rfl
    · rfl
  · rfl

theorem levelChange_lines (s : State) (l : LineId) : (s.levelChange l).lines = (s.setLine l (s.line l).change).lines :=
  congrArg Fixed.lines (fixed_levelChange s l)

theorem levelChange_line (s : State) (l m : LineId) :
    (s.levelChange l).line m = if m = l then (s.line l).change else s.line m := by
  have hline : (s.levelChange l).line m = (s.setLine l (s.line l).change).line m := by
    rw [State.line, State.line, levelChange_lines]
  rw [hline, State.line_setLine]

/-- A line that keeps its mask and its latch keeps every trip condition. -/
theorem tripCondition_setLine_of_same {x : TripLine} (hm : x.mask = (s.line l).mask) (hx : x.latch = (s.line l).latch)
    (g : GroupId) : (s.setLine l x).tripCondition g = s.tripCondition g := by
  refine List.any_congr rfl fun m => ?_
  rw [State.line_setLine]
  split
  · next h => rw [h, hm, hx]
  · rfl

/-- A line that keeps its mask and its latch moves the trip unit alone. -/
theorem setLine_frame (hs : Settled s) {x : TripLine} (hm : x.mask = (s.line l).mask) (hx : x.latch = (s.line l).latch) :
    SameExcept [.tripUnit] s (s.setLine l x).settle := by
  intro b hb
  by_cases hpairs : b = .pairs
  · subst hpairs
    exact settle_pairs_of_conditions hs rfl (tripCondition_setLine_of_same hm hx) (fun _ => rfl) rfl
  by_cases hevents : b = .events
  · subst hevents
    exact same_settle_events hs rfl rfl
  by_cases hreq : b = .requests
  · subst hreq
    obtain ⟨-, -, h1, h2, h3⟩ := (settled_iff s).1 hs
    exact ⟨h1, h2, h3⟩
  have hsame := Block.same_setLine s l x (b := b) fun h => hb (by simp [h])
  cases b with
  | pairs => exact absurd rfl hpairs
  | events => exact absurd rfl hevents
  | requests => exact absurd rfl hreq
  | tripUnit => simp at hb
  | resetPin | registers | group _ | tokens | sets | captureQueue | converter | resultWriter | admin | completion
  | port | groupTicks => exact hsame

/-! ## The commands -/

theorem exec_filteredLevelChange {level : Level} (hr : s.rstn = .high) (hl : (s.line l).sample = some level) :
    exec (.filteredLevelChange l) s = .next (s.judgeSample l level).settle := by
  show Host.Outcome.next (if s.inReset = true then s else s.lineStep l) = _
  have hout : s.inReset = false := by simp [State.inReset, hr]
  rw [hout, State.lineStep, hl]
  rfl

theorem judgeSample_of_completes {level : Level} (h : (s.line l).completesRun level = true) :
    s.judgeSample l level = s.levelChange l := if_pos h

theorem judgeSample_of_not_completes {level : Level} (h : ¬(s.line l).completesRun level = true) :
    s.judgeSample l level = s.setLine l ((s.line l).countSample level) := if_neg h

/-- A latching line outside RUNNING moves nothing but the trip unit, EVT and the pairs (R123). -/
theorem levelChange_frame_of_not_running (hs : Settled s) (hctrl : s.ctrl ≠ .running) :
    SameExcept [.tripUnit, .events, .pairs] s (s.levelChange l).settle := by
  have hrun : ¬s.isRunning = true := by simpa [State.isRunning] using hctrl
  by_cases htrips : (s.line l).trips = true
  · rw [levelChange_eq, if_pos htrips, if_neg hrun]
    intro b hb
    by_cases hreq : b = .requests
    · subst hreq
      obtain ⟨-, -, h1, h2, h3⟩ := (settled_iff s).1 hs
      exact ⟨h1, h2, h3⟩
    have hsame := Block.same_setLine s l (s.line l).change (b := b) fun h => hb (by simp [h])
    cases b with
    | requests => exact absurd rfl hreq
    | tripUnit | events | pairs => simp at hb
    | resetPin | registers | group _ | tokens | sets | captureQueue | converter | resultWriter | admin | completion
    | port | groupTicks => exact hsame
  · rw [levelChange_of_not_trips htrips]
    have hlatch : (s.line l).change.latch = (s.line l).latch := by
      rw [TripLine.change_eq, if_neg (mt (s.line l).trips_iff.2 htrips)]
    exact fun b hb => setLine_frame (l := l) (x := (s.line l).change) hs rfl hlatch b fun h => hb (by simp_all)

theorem mem_allLines (l : LineId) : l ∈ allLines := by revert l; decide

/-- A latched line that names a group makes its trip condition true. -/
theorem tripCondition_of_line {u : State} {g : GroupId} (hlatch : (u.line l).latch = true)
    (hmask : (u.line l).mask.getLsbD g = true) : u.tripCondition g = true := by
  exact List.any_eq_true.2 ⟨l, mem_allLines l, by rw [hlatch, hmask]; rfl⟩

/-- The pins of a pair whose group's trip condition holds (R58). -/
theorem settle_pins_of_tripped {u : State} {p : PairId} {g : GroupId} (hg : (u.pair p).group = some g)
    (ht : u.tripCondition g = true) : (u.settle.pair p).pins = (u.pair p).safe := by
  rw [State.settle_pair, State.settledPair]
  rw [State.selection_of_tripped hg ht]
  dsimp only [PairUnit.shown]
  split <;> rfl

theorem TripLine.sampled_mask (ln : TripLine) (level : Level) : (ln.sampled level).mask = ln.mask := by
  rw [TripLine.sampled_eq]
  split
  · rfl
  · split <;> rfl

theorem TripLine.sampled_latch (ln : TripLine) (level : Level) : (ln.sampled level).latch = ln.latch := by
  rw [TripLine.sampled_eq]
  split
  · rfl
  · split <;> rfl

/-- The lines of a sample tick (R116). -/
theorem sampled_line (s : State) (pins : Vector Level 4) (marks : Marks) (l : LineId) :
    ({ s with lines := Vector.ofFn fun l => (s.line l).sampled (pins.get l), marks := marks } : State).line l =
      (s.line l).sampled (pins.get l) := by
  show (Vector.ofFn fun l => (s.line l).sampled (pins.get l)).get l = _
  simp [vector_get]

/-- Samples move the trip unit alone: no latch and no mask changes. -/
theorem sampled_frame (hs : Settled s) (pins : Vector Level 4) :
    SameExcept [.tripUnit] s
      ({ s with
          lines := Vector.ofFn fun l => (s.line l).sampled (pins.get l)
          marks := { s.marks with trip := true } } : State).settle := by
  have htrip : ∀ g, ({ s with lines := Vector.ofFn fun l => (s.line l).sampled (pins.get l)
                              marks := { s.marks with trip := true } } : State).tripCondition g = s.tripCondition g := by
    intro g
    refine List.any_congr rfl fun l => ?_
    rw [sampled_line, TripLine.sampled_latch, TripLine.sampled_mask]
  intro b hb
  by_cases hpairs : b = .pairs
  · subst hpairs
    exact settle_pairs_of_conditions hs rfl htrip (fun _ => rfl) rfl
  by_cases hreq : b = .requests
  · subst hreq
    obtain ⟨-, -, h1, h2, h3⟩ := (settled_iff s).1 hs
    exact ⟨h1, h2, h3⟩
  by_cases hevents : b = .events
  · subst hevents
    exact same_settle_events hs rfl rfl
  have hsame := Block.same_refl s b
  cases b with
  | pairs => exact absurd rfl hpairs
  | requests => exact absurd rfl hreq
  | events => exact absurd rfl hevents
  | tripUnit => simp at hb
  | resetPin | registers | group _ | tokens | sets | captureQueue | converter | resultWriter | admin | completion
  | port | groupTicks => exact hsame

/-- Settles O50: the samples of a tick, and the step that completes a run. -/
theorem tripLinesAreFilteredAndLatched : Obligations.TripLinesAreFilteredAndLatched := by
  unfold Obligations.TripLinesAreFilteredAndLatched
  refine ⟨?_, ?_⟩
  · intro s pins hs hr hp hm
    have hdue : s.tripSampleDue = true := by simp [State.tripSampleDue, State.inReset, hr, hp, hm]
    refine ⟨_, congrArg (fun due => happen due s _) hdue, fun l => ?_, rfl, rfl, ?_⟩
    · exact (sampled_line s pins { s.marks with trip := true } l).trans (TripLine.sampled_eq (s.line l) (pins.get l))
    · exact sampled_frame hs pins
  · intro s l level hs hr hl ln rises
    have hexec := exec_filteredLevelChange hr hl
    refine ⟨fun hne hrun => ?_, fun hno => ?_⟩
    · have hcompletes : (s.line l).completesRun level = true := ((s.line l).completesRun_iff level).2 ⟨hne, hrun⟩
      rw [judgeSample_of_completes hcompletes] at hexec
      have hfixed := fixed_levelChange s l
      have hrises : rises ↔ (s.line l).trips = true := (s.line l).trips_iff.symm
      have hself : (s.levelChange l).line l = { ln with
          filtered := !ln.filtered, run := 0, sample := none
          latch := if rises then true else ln.latch } := by
        rw [levelChange_line, if_pos rfl, TripLine.change_eq]
      refine ⟨_, hexec, hself, fun m hm => ?_, congrArg Fixed.tripPresc hfixed, congrArg Fixed.tripMark hfixed, ?_,
        congrArg Fixed.evtMask hfixed, fun hno => ?_, levelChange_frame_of_not_running hs, fun hyes p g hg hmask => ?_⟩
      · rw [State.settle_line, levelChange_line, if_neg hm]
      · refine (congrArg Fixed.evt hfixed).trans ?_
        exact if_congr hrises.symm rfl rfl
      · rw [levelChange_of_not_trips (mt hrises.2 hno)]
        have hlatch : (s.line l).change.latch = (s.line l).latch := by
          rw [TripLine.change_eq, if_neg hno]
        exact setLine_frame hs rfl hlatch
      · have hpair : (s.levelChange l).pair p = s.pair p := State.pair_of_pairs (pairs_levelChange s l) p
        have htrip : (s.levelChange l).tripCondition g = true := by
          refine tripCondition_of_line (l := l) ?_ ?_
          · rw [hself]; exact if_pos hyes
          · rw [hself]; exact hmask
        rw [settle_pins_of_tripped (hpair ▸ hg) htrip, hpair]
    · have hnot : ¬(s.line l).completesRun level = true := mt ((s.line l).completesRun_iff level).1 hno
      rw [judgeSample_of_not_completes hnot] at hexec
      refine ⟨_, hexec, ?_, fun m hm => ?_, rfl, rfl, ?_⟩
      · rw [State.settle_line, State.line_setLine, if_pos rfl, TripLine.countSample_eq]
      · rw [State.settle_line, State.line_setLine, if_neg hm]
      · refine setLine_frame hs ?_ ?_
        · rw [TripLine.countSample_eq]
        · rw [TripLine.countSample_eq]

end Lines

end Sys2Proof.Machine
end

section
/-! PROOF. QUERY: the snapshots bit by bit (Tables 11.13 to 11.16), and that a query changes nothing (R168 to R170). -/

namespace Sys2Proof.Machine

/-! ## Fields of a wider number -/

section Fields

variable {n m : Nat}

theorem putAt_getLsbD (off : Nat) (v : BitVec m) (i : Nat) :
    (putAt off v : BitVec n).getLsbD i = (decide (i < n) && decide (8 * off ≤ i) && v.getLsbD (i - 8 * off)) := by
  simp only [putAt, BitVec.getLsbD_shiftLeft, BitVec.zeroExtend_eq_setWidth, BitVec.getLsbD_setWidth]
  by_cases hi : i < n
  · by_cases ho : i < 8 * off
    · simp [ho, Nat.not_le.2 ho]
    · have hlt : i - 8 * off < n := by omega
      simp [hi, ho, Nat.not_lt.1 ho, hlt]
  · simp [hi]

/-- The bits of a field read its value. -/
theorem extract_putAt_within {off start len : Nat} (v : BitVec m)
    (h : 8 * off ≤ start ∧ start + len ≤ 8 * off + m ∧ start + len ≤ n) :
    (putAt off v : BitVec n).extractLsb' start len = v.extractLsb' (start - 8 * off) len := by
  obtain ⟨hlow, -, hn⟩ := h
  refine BitVec.eq_of_getLsbD_eq fun i hi => ?_
  have hlt : start + i < n := by omega
  have hle : 8 * off ≤ start + i := by omega
  have hsub : start + i - 8 * off = start - 8 * off + i := by omega
  rw [BitVec.getLsbD_extractLsb', BitVec.getLsbD_extractLsb', putAt_getLsbD, hsub]
  simp [hlt, hle]

/-- The bits beside a field are zero. -/
theorem extract_putAt_beside {off start len : Nat} (v : BitVec m) (h : 8 * off + m ≤ start ∨ start + len ≤ 8 * off) :
    (putAt off v : BitVec n).extractLsb' start len = 0#len := by
  refine BitVec.eq_of_getLsbD_eq fun i hi => ?_
  rw [BitVec.getLsbD_extractLsb', putAt_getLsbD]
  rcases h with h | h
  · rw [BitVec.getLsbD_of_ge v _ (by omega)]; simp
  · have hno : ¬8 * off ≤ start + i := by omega
    simp [hno]

/-- Fields gathered side by side: field `k` of the row. -/
theorem extract_row {α : Type} {w : Nat} (l : List α) (pos : α → Nat) (v : α → BitVec (8 * w)) (k : α)
    (hk : k ∈ l) (hinj : ∀ a ∈ l, pos a = pos k → a = k) (hn : 8 * (w * pos k) + 8 * w ≤ n) :
    (l.foldl (fun (x : BitVec n) a => x ||| putAt (w * pos a) (v a)) 0).extractLsb' (8 * (w * pos k)) (8 * w) = v k := by
  refine BitVec.eq_of_getLsbD_eq fun i hi => ?_
  rw [BitVec.getLsbD_extractLsb', Bool.eq_iff_iff, decide_eq_true hi, Bool.true_and,
    getLsbD_foldl_or fun a => (putAt (w * pos a) (v a) : BitVec n)]
  have hlt : 8 * (w * pos k) + i < n := by omega
  constructor
  · rintro (h | ⟨a, ha, h⟩)
    · simp at h
    · simp only [putAt_getLsbD, Bool.and_eq_true, decide_eq_true_eq] at h
      obtain ⟨⟨-, hle⟩, hbit⟩ := h
      have hub : 8 * (w * pos k) + i - 8 * (w * pos a) < 8 * w := by
        by_contra hge
        rw [BitVec.getLsbD_of_ge _ _ (Nat.not_lt.1 hge)] at hbit
        cases hbit
      have hw : 0 < w := by omega
      have h1 : w * pos a < w * (pos k + 1) := by rw [Nat.mul_add, Nat.mul_one]; omega
      have h2 : w * pos k < w * (pos a + 1) := by rw [Nat.mul_add, Nat.mul_one]; omega
      have hpos : pos a = pos k := by
        have := Nat.lt_of_mul_lt_mul_left h1
        have := Nat.lt_of_mul_lt_mul_left h2
        omega
      have hak := hinj a ha hpos
      rw [hak, Nat.add_sub_cancel_left] at hbit
      exact hbit
  · intro h
    refine .inr ⟨k, hk, ?_⟩
    simp only [putAt_getLsbD, hlt, Nat.le_add_right, decide_true, Bool.true_and, Nat.add_sub_cancel_left]
    exact h

end Fields

/-! ## The snapshots -/

theorem tokenSnapshot_byte (s : State) (k : TokenId) :
    s.tokenSnapshot.extractLsb' (8 * k) 8 = BitVec.ofNat 8 (s.token k) := by
  have h := extract_row (n := 128) (w := 1) allTokens (fun k => k.val) (fun k => BitVec.ofNat 8 (s.token k)) k
    (mem_allTokens k) (fun a _ h => Fin.ext h) (by have := k.isLt; omega)
  simp only [Nat.one_mul] at h
  exact h

theorem tripSnapshot_word (s : State) (l : LineId) :
    s.tripSnapshot.extractLsb' (32 * l) 32 = (s.line l).snapshot := by
  have h := extract_row (n := 128) (w := 4) allLines (fun l => l.val) (fun l => (s.line l).snapshot) l
    (mem_allLines l) (fun a _ h => Fin.ext h) (by have := l.isLt; omega)
  rw [← Nat.mul_assoc] at h
  exact h

/-- A part of a part. -/
theorem extract_part {n a b w len : Nat} (v : BitVec n) (h : b + len ≤ w) :
    v.extractLsb' (a + b) len = (v.extractLsb' a w).extractLsb' b len := by
  refine BitVec.eq_of_getLsbD_eq fun i hi => ?_
  have hlt : b + i < w := by omega
  simp only [BitVec.getLsbD_extractLsb', hi, hlt, decide_true, Bool.true_and, Nat.add_assoc]

theorem getLsbD_part {n a b w : Nat} (v : BitVec n) (h : b < w) : v.getLsbD (a + b) = (v.extractLsb' a w).getLsbD b := by
  simp only [BitVec.getLsbD_extractLsb', h, decide_true, Bool.true_and]

theorem extractLsb'_whole {n : Nat} (v : BitVec n) : v.extractLsb' 0 n = v :=
  BitVec.eq_of_getLsbD_eq fun i hi => by simp only [BitVec.getLsbD_extractLsb', hi, decide_true, Bool.true_and, Nat.zero_add]

section LineSnapshot

variable (ln : TripLine)

/-- The first byte of a line's word: latch, filtered level and active level. -/
def TripLine.flagByte : Byte :=
  (BitVec.ofBool ln.latch).zeroExtend 8 ||| (BitVec.ofBool ln.filtered).zeroExtend 8 <<< 1
    ||| (BitVec.ofBool (ln.active == .high)).zeroExtend 8 <<< 2

theorem TripLine.flagByte_bits : ln.flagByte.getLsbD 0 = ln.latch ∧ ln.flagByte.getLsbD 1 = ln.filtered
    ∧ ln.flagByte.getLsbD 2 = (ln.active == .high) ∧ ln.flagByte.extractLsb' 3 5 = 0 := by
  unfold TripLine.flagByte
  generalize ln.latch = a, ln.filtered = b, (ln.active == .high) = c
  revert a b c; decide

theorem TripLine.snapshot_eq : ln.snapshot =
    (putAt 0 ln.flagByte ||| putAt 1 (BitVec.ofNat 8 ln.run) ||| putAt 2 (BitVec.ofNat 8 ln.filterLen)
      ||| putAt 3 (ln.mask.zeroExtend 8)) := rfl

theorem TripLine.snapshot_flags : ln.snapshot.extractLsb' 0 8 = ln.flagByte := by
  rw [TripLine.snapshot_eq]
  simp (disch := decide) only [BitVec.extractLsb'_or, extract_putAt_within, extract_putAt_beside, BitVec.or_zero]
  exact extractLsb'_whole _

theorem TripLine.snapshot_run : ln.snapshot.extractLsb' 8 8 = BitVec.ofNat 8 ln.run := by
  rw [TripLine.snapshot_eq]
  simp (disch := decide) only [BitVec.extractLsb'_or, extract_putAt_within, extract_putAt_beside, BitVec.or_zero,
    BitVec.zero_or]
  exact extractLsb'_whole _

theorem TripLine.snapshot_filterLen : ln.snapshot.extractLsb' 16 8 = BitVec.ofNat 8 ln.filterLen := by
  rw [TripLine.snapshot_eq]
  simp (disch := decide) only [BitVec.extractLsb'_or, extract_putAt_within, extract_putAt_beside, BitVec.or_zero,
    BitVec.zero_or]
  exact extractLsb'_whole _

theorem TripLine.snapshot_mask : ln.snapshot.extractLsb' 24 8 = ln.mask.zeroExtend 8 := by
  rw [TripLine.snapshot_eq]
  simp (disch := decide) only [BitVec.extractLsb'_or, extract_putAt_within, extract_putAt_beside, BitVec.or_zero,
    BitVec.zero_or]
  exact extractLsb'_whole _

end LineSnapshot

/-- The word of a line in the QUERY TRIPS snapshot (Table 11.15). -/
theorem tripSnapshot_fields (s : State) (l : LineId) :
    s.tripSnapshot.getLsbD (32 * l) = (s.line l).latch
      ∧ s.tripSnapshot.getLsbD (32 * l + 1) = (s.line l).filtered
      ∧ s.tripSnapshot.getLsbD (32 * l + 2) = ((s.line l).active == .high)
      ∧ s.tripSnapshot.extractLsb' (32 * l + 3) 5 = 0
      ∧ s.tripSnapshot.extractLsb' (32 * l + 8) 8 = BitVec.ofNat 8 (s.line l).run
      ∧ s.tripSnapshot.extractLsb' (32 * l + 16) 8 = BitVec.ofNat 8 (s.line l).filterLen
      ∧ s.tripSnapshot.extractLsb' (32 * l + 24) 4 = (s.line l).mask
      ∧ s.tripSnapshot.extractLsb' (32 * l + 28) 4 = 0 := by
  have hbyte : ∀ off len, off + len ≤ 32 → s.tripSnapshot.extractLsb' (32 * l + off) len =
      (s.line l).snapshot.extractLsb' off len := fun off len h => by
    rw [extract_part (w := 32) _ h, tripSnapshot_word]
  have hflags : ∀ i < 8, s.tripSnapshot.getLsbD (32 * l + i) = (s.line l).flagByte.getLsbD i := fun i hi => by
    rw [getLsbD_part (w := 8) _ hi, ← Nat.add_zero (32 * l.val), hbyte 0 8 (by decide), TripLine.snapshot_flags]
  obtain ⟨h0, h1, h2, h3⟩ := (s.line l).flagByte_bits
  refine ⟨(hflags 0 (by decide)).trans h0, (hflags 1 (by decide)).trans h1, (hflags 2 (by decide)).trans h2, ?_,
    (hbyte 8 8 (by decide)).trans (TripLine.snapshot_run _),
    (hbyte 16 8 (by decide)).trans (TripLine.snapshot_filterLen _), ?_, ?_⟩
  · have hpart := extract_part (a := 0) (b := 3) (len := 5) (w := 8) (s.line l).snapshot (by decide)
    rw [hbyte 3 5 (by decide), ← h3, ← TripLine.snapshot_flags]
    exact hpart
  · rw [hbyte 24 4 (by decide), ← Nat.add_zero 24, extract_part (w := 8) _ (by decide), TripLine.snapshot_mask]
    generalize (s.line l).mask = mask
    revert mask; decide
  · rw [hbyte 28 4 (by decide), show (28 : Nat) = 24 + 4 from rfl, extract_part (w := 8) _ (by decide),
      TripLine.snapshot_mask]
    generalize (s.line l).mask = mask
    revert mask; decide

section GroupSnapshot

variable (x : Group)

/-- The third byte of the group's snapshot: ACTIVE record, slope and pending stop. -/
def Group.flagByte : Byte :=
  (BitVec.ofBool x.hasActive).zeroExtend 8
    ||| (BitVec.ofBool (x.mode == .centre && x.hasActive && x.slope == .down)).zeroExtend 8 <<< 1
    ||| x.pendingStop.code.zeroExtend 8 <<< 2

theorem Group.flagByte_bits : x.flagByte.getLsbD 0 = x.hasActive
    ∧ x.flagByte.getLsbD 1 = (x.mode == .centre && x.hasActive && x.slope == .down)
    ∧ x.flagByte.extractLsb' 2 2 = x.pendingStop.code ∧ x.flagByte.extractLsb' 4 4 = 0 := by
  unfold Group.flagByte
  generalize x.hasActive = a
  generalize (x.mode == .centre && a && x.slope == .down) = b
  generalize x.pendingStop.code = c
  revert a b c; decide

/-- The last two fields: the tag and the periods of the ACTIVE record. -/
def Group.activeFields : BitVec 128 :=
  match x.active? with
  | some e => putAt 10 (Seg.tag e.copy) ||| putAt 12 (BitVec.ofNat 32 e.periodsRun)
  | none => 0

theorem Group.snapshot_eq : x.snapshot =
    (putAt 0 x.state.code ||| putAt 1 (BitVec.ofNat 8 x.window.length) ||| putAt 2 x.flagByte
      ||| putAt 4 (BitVec.ofNat 16 x.ring.retire) ||| putAt 6 (BitVec.ofNat 16 x.ring.fetch)
      ||| putAt 8 (BitVec.ofNat 16 x.counter) ||| x.activeFields) := rfl

theorem Group.activeFields_low {start len : Nat} (h : start + len ≤ 80) : x.activeFields.extractLsb' start len = 0#len := by
  unfold Group.activeFields
  split
  · rw [BitVec.extractLsb'_or, extract_putAt_beside _ (.inr (by omega)), extract_putAt_beside _ (.inr (by omega))]
    exact BitVec.or_zero
  · simp

/-- The upper fields: the tag and the periods of the ACTIVE record, 0 without one. -/
theorem Group.activeFields_high :
    x.activeFields.extractLsb' 80 16 = (x.active?.map fun e => Seg.tag e.copy).getD 0
      ∧ x.activeFields.extractLsb' 96 32 = (x.active?.map fun e => BitVec.ofNat 32 e.periodsRun).getD 0 := by
  unfold Group.activeFields
  cases x.active? with
  | none => simp
  | some e =>
    dsimp only [Option.map_some, Option.getD_some]
    constructor
    · simp (disch := decide) only [BitVec.extractLsb'_or, extract_putAt_within, extract_putAt_beside, BitVec.or_zero]
      exact extractLsb'_whole _
    · simp (disch := decide) only [BitVec.extractLsb'_or, extract_putAt_within, extract_putAt_beside, BitVec.zero_or]
      exact extractLsb'_whole _

/-- A field of the group's snapshot (Table 11.13). -/
theorem Group.snapshot_fields :
    x.snapshot.extractLsb' 0 8 = x.state.code
      ∧ x.snapshot.extractLsb' 8 8 = BitVec.ofNat 8 x.window.length
      ∧ x.snapshot.extractLsb' 16 8 = x.flagByte
      ∧ x.snapshot.extractLsb' 24 8 = 0
      ∧ x.snapshot.extractLsb' 32 16 = BitVec.ofNat 16 x.ring.retire
      ∧ x.snapshot.extractLsb' 48 16 = BitVec.ofNat 16 x.ring.fetch
      ∧ x.snapshot.extractLsb' 64 16 = BitVec.ofNat 16 x.counter
      ∧ x.snapshot.extractLsb' 80 16 = x.activeFields.extractLsb' 80 16
      ∧ x.snapshot.extractLsb' 96 32 = x.activeFields.extractLsb' 96 32 := by
  rw [Group.snapshot_eq]
  simp (disch := decide) only [BitVec.extractLsb'_or, extract_putAt_within, extract_putAt_beside,
    Group.activeFields_low, BitVec.or_zero, BitVec.zero_or, Nat.reduceMul, Nat.reduceSub, extractLsb'_whole]
  exact ⟨trivial, trivial, trivial, rfl, trivial, trivial, trivial, trivial, trivial⟩

end GroupSnapshot

/-- The items of the QUERY GROUP snapshot, every other bit 0 (Table 11.13). -/
theorem groupSnapshot_items (x : Group) :
    x.snapshot.extractLsb' 0 8 = BitVec.ofNat 8 (groupStateCode x.state)
      ∧ x.snapshot.extractLsb' 8 8 = BitVec.ofNat 8 x.window.length
      ∧ x.snapshot.getLsbD 16 = x.hasActive
      ∧ x.snapshot.getLsbD 17 = (x.mode == .centre && x.hasActive && x.slope == .down)
      ∧ x.snapshot.extractLsb' 18 2 = (match x.pendingStop with
          | .noStop => 0
          | .periodEnd => 1
          | .segmentEnd => 2)
      ∧ x.snapshot.extractLsb' 20 12 = 0
      ∧ x.snapshot.extractLsb' 32 16 = BitVec.ofNat 16 x.ring.retire
      ∧ x.snapshot.extractLsb' 48 16 = BitVec.ofNat 16 x.ring.fetch
      ∧ x.snapshot.extractLsb' 64 16 = BitVec.ofNat 16 x.counter
      ∧ x.snapshot.extractLsb' 80 16 = (x.active?.map fun e => Seg.tag e.copy).getD 0
      ∧ x.snapshot.extractLsb' 96 32 = (x.active?.map fun e => BitVec.ofNat 32 e.periodsRun).getD 0 := by
  obtain ⟨hstate, hcount, hflags, hgap, hretire, hfetch, hcounter, htag, hperiods⟩ := x.snapshot_fields
  obtain ⟨hactive, hslope, hstop, hrest⟩ := x.flagByte_bits
  obtain ⟨htag', hperiods'⟩ := x.activeFields_high
  have hcode : x.state.code = BitVec.ofNat 8 (groupStateCode x.state) := by cases x.state <;> rfl
  have hpending : x.pendingStop.code = (match x.pendingStop with
      | .noStop => 0
      | .periodEnd => 1
      | .segmentEnd => 2) := by cases x.pendingStop <;> rfl
  have hbit : ∀ i < 8, x.snapshot.getLsbD (16 + i) = x.flagByte.getLsbD i := fun i hi => by
    rw [getLsbD_part (w := 8) _ hi, hflags]
  refine ⟨hstate.trans hcode, hcount, (hbit 0 (by decide)).trans hactive, (hbit 1 (by decide)).trans hslope, ?_, ?_,
    hretire, hfetch, hcounter, htag.trans htag', hperiods.trans hperiods'⟩
  · rw [show (18 : Nat) = 16 + 2 from rfl, extract_part (w := 8) _ (by decide), hflags, hstop, hpending]
  · refine BitVec.eq_of_getLsbD_eq fun i hi => ?_
    rw [BitVec.getLsbD_extractLsb', decide_eq_true hi, Bool.true_and]
    by_cases hlow : i < 4
    · rw [show 20 + i = 16 + (4 + i) by omega, hbit _ (by omega), getLsbD_part (w := 4) _ hlow, hrest]
      simp
    · rw [show 20 + i = 24 + (i - 4) by omega, getLsbD_part (w := 8) _ (by omega), hgap]
      simp

/-- The fields of the record in hand: the current request while CONVERTING, the held result while HOLDING. -/
def Converter.workFields (c : Converter) : BitVec 128 :=
  match c.state, c.current, c.held with
  | .converting, some r, _ =>
      putAt 3 (BitVec.ofNat 8 r.group) ||| putAt 4 (BitVec.ofNat 16 r.position) ||| putAt 6 (BitVec.ofNat 8 c.done)
  | .holding, _, some r => putAt 3 (BitVec.ofNat 8 r.group) ||| putAt 4 (BitVec.ofNat 16 r.position)
  | _, _, _ => 0

theorem converterSnapshot_eq (s : State) : s.converterSnapshot =
    (putAt 0 (BitVec.ofNat 8 s.captureQueue.length) ||| putAt 1 s.converter.state.code
      ||| putAt 2 (BitVec.ofNat 8 s.converter.k) ||| s.converter.workFields) := rfl

theorem Converter.workFields_beside (c : Converter) {start len : Nat} (h : start + len ≤ 24 ∨ 56 ≤ start) :
    c.workFields.extractLsb' start len = 0#len := by
  unfold Converter.workFields
  split
  · rw [BitVec.extractLsb'_or, BitVec.extractLsb'_or, extract_putAt_beside _ (by omega),
      extract_putAt_beside _ (by omega), extract_putAt_beside _ (by omega)]
    simp only [BitVec.or_zero]
  · rw [BitVec.extractLsb'_or, extract_putAt_beside _ (by omega), extract_putAt_beside _ (by omega)]
    exact BitVec.or_zero
  · simp

theorem Converter.workFields_idle {c : Converter} (h : c.state = .idle) : c.workFields = 0 := by
  unfold Converter.workFields
  rw [h]

theorem Converter.workFields_converting {c : Converter} {r : Request} (h : c.state = .converting)
    (hr : c.current = some r) :
    c.workFields.extractLsb' 24 8 = BitVec.ofNat 8 r.group
      ∧ c.workFields.extractLsb' 32 16 = BitVec.ofNat 16 r.position
      ∧ c.workFields.extractLsb' 48 8 = BitVec.ofNat 8 c.done := by
  unfold Converter.workFields
  rw [h, hr]
  simp (disch := decide) only [BitVec.extractLsb'_or, extract_putAt_within, extract_putAt_beside, BitVec.or_zero,
    BitVec.zero_or, Nat.reduceMul, Nat.reduceSub, extractLsb'_whole]
  exact ⟨trivial, trivial, trivial⟩

theorem Converter.workFields_holding {c : Converter} {r : ConvResult} (h : c.state = .holding)
    (hr : c.held = some r) :
    c.workFields.extractLsb' 24 8 = BitVec.ofNat 8 r.group
      ∧ c.workFields.extractLsb' 32 16 = BitVec.ofNat 16 r.position
      ∧ c.workFields.extractLsb' 48 8 = 0 := by
  unfold Converter.workFields
  rw [h, hr]
  simp (disch := decide) only [BitVec.extractLsb'_or, extract_putAt_within, extract_putAt_beside, BitVec.or_zero,
    BitVec.zero_or, Nat.reduceMul, Nat.reduceSub, extractLsb'_whole]
  exact ⟨trivial, trivial, rfl⟩

/-- The items of the QUERY CONVERTER snapshot, every other bit 0 (Table 11.16). -/
theorem converterSnapshot_items (s : State) :
    s.converterSnapshot.extractLsb' 0 8 = BitVec.ofNat 8 s.captureQueue.length
      ∧ s.converterSnapshot.extractLsb' 8 8 = (match s.converter.state with
          | .idle => 0
          | .converting => 1
          | .holding => 2)
      ∧ s.converterSnapshot.extractLsb' 16 8 = BitVec.ofNat 8 s.converter.k
      ∧ s.converterSnapshot.extractLsb' 56 72 = 0
      ∧ (s.converter.state = .idle → s.converterSnapshot.extractLsb' 24 32 = 0)
      ∧ (s.converter.state = .converting → ∀ r, s.converter.current = some r →
          s.converterSnapshot.extractLsb' 24 8 = BitVec.ofNat 8 r.group
          ∧ s.converterSnapshot.extractLsb' 32 16 = BitVec.ofNat 16 r.position
          ∧ s.converterSnapshot.extractLsb' 48 8 = BitVec.ofNat 8 s.converter.done)
      ∧ (s.converter.state = .holding → ∀ r, s.converter.held = some r →
          s.converterSnapshot.extractLsb' 24 8 = BitVec.ofNat 8 r.group
          ∧ s.converterSnapshot.extractLsb' 32 16 = BitVec.ofNat 16 r.position
          ∧ s.converterSnapshot.extractLsb' 48 8 = 0) := by
  have hcode : s.converter.state.code = (match s.converter.state with
      | .idle => 0
      | .converting => 1
      | .holding => 2) := by cases s.converter.state <;> rfl
  have hwork : ∀ start len, 24 ≤ start → s.converterSnapshot.extractLsb' start len =
      s.converter.workFields.extractLsb' start len := fun start len h => by
    rw [converterSnapshot_eq, BitVec.extractLsb'_or, BitVec.extractLsb'_or, BitVec.extractLsb'_or,
      extract_putAt_beside _ (by omega), extract_putAt_beside _ (by omega), extract_putAt_beside _ (by omega)]
    simp only [BitVec.zero_or]
  rw [← hcode]
  refine ⟨?_, ?_, ?_, ?_, fun h => ?_, fun h r hr => ?_, fun h r hr => ?_⟩
  · rw [converterSnapshot_eq]
    simp (disch := decide) only [BitVec.extractLsb'_or, extract_putAt_within, extract_putAt_beside,
      Converter.workFields_beside, BitVec.or_zero, Nat.reduceMul, Nat.reduceSub, extractLsb'_whole]
  · rw [converterSnapshot_eq]
    simp (disch := decide) only [BitVec.extractLsb'_or, extract_putAt_within, extract_putAt_beside,
      Converter.workFields_beside, BitVec.or_zero, BitVec.zero_or, Nat.reduceMul, Nat.reduceSub, extractLsb'_whole]
  · rw [converterSnapshot_eq]
    simp (disch := decide) only [BitVec.extractLsb'_or, extract_putAt_within, extract_putAt_beside,
      Converter.workFields_beside, BitVec.or_zero, BitVec.zero_or, Nat.reduceMul, Nat.reduceSub, extractLsb'_whole]
  · rw [hwork 56 72 (by decide)]
    exact Converter.workFields_beside _ (.inr (by decide))
  · rw [hwork 24 32 (by decide), Converter.workFields_idle h]
    simp
  · rw [hwork 24 8 (by decide), hwork 32 16 (by decide), hwork 48 8 (by decide)]
    exact Converter.workFields_converting h hr
  · rw [hwork 24 8 (by decide), hwork 32 16 (by decide), hwork 48 8 (by decide)]
    exact Converter.workFields_holding h hr

end Sys2Proof.Machine
end

section
/-! PROOF. QUERY's checks and effects; QUERY TRIPS brings the sample tick of its device clock to its end (R128, R168 to
R170; log 8). -/

namespace Sys2Proof.Machine

section Queries

variable {s : State} {cmd : Slot32}

theorem isQuery_iff (target : Byte) (hop : opcodeOf cmd = 0x0C) :
    isQuery target cmd = true ↔ byteOf cmd 8 = target.toNat := by
  have hopcode : (Cmd.opcode cmd == 0x0C) = true := beq_iff_eq.2 hop
  rw [isQuery, hopcode, Bool.true_and, beq_iff_eq, ← BitVec.toNat_inj]
  rfl

/-- A query that is accepted changes nothing but what reports it. -/
theorem query_accepted {c : Instr} {verdict : AdminStatus} {value : BitVec 128} (hs : Settled s)
    (ha : Awaits s .adminProcessor) (hc : exec c s = command false true cmd verdict value id s) (hv : verdict = .ok) :
    ∃ t, exec c s = .next t ∧ Reported cmd .ok value s t ∧ SameExcept [.admin, .requests, .port] s t :=
  ⟨_, exec_of_accepted hc ha hv, reported_settle rfl rfl rfl rfl, refused_frame hs⟩

theorem queryVerdict_eq (cmd : Slot32) (s : State) :
    queryVerdict cmd s = judge (Cmd.reservedClear Cmd.usedQuery cmd) .ok := rfl

theorem queryVerdict_of_used (h : OnlyUses cmd [8]) : queryVerdict cmd s = .ok := by
  rw [queryVerdict_eq]
  exact judge_of_params ((Cmd.reservedClear_iff _ _).2 h) _

theorem queryVerdict_of_not_used (h : ¬OnlyUses cmd [8]) : queryVerdict cmd s = .badParam := by
  rw [queryVerdict_eq]
  exact judge_of_not_params (mt (Cmd.reservedClear_iff _ _).1 h) _

/-! ## QUERY GROUP -/

theorem queryGroup_params_iff (cmd : Slot32) :
    (Cmd.mode cmd == 0 && (groupOfCode (Cmd.group cmd)).isSome && Cmd.reservedClear Cmd.usedQueryGroup cmd) = true ↔
      byteOf cmd 8 = 0 ∧ byteOf cmd 4 < 4 ∧ OnlyUses cmd [4, 8] := by
  have hgroup : (groupOfCode (Cmd.group cmd)).isSome = true ↔ byteOf cmd 4 < 4 := by
    show _ ↔ Cmd.group cmd < 4
    rw [groupOfCode]
    split <;> simp_all
  have hused : OnlyUses cmd [8, 4] ↔ OnlyUses cmd [4, 8] := by
    refine forall_congr' fun i => ?_
    rw [List.mem_pair, List.mem_pair, or_comm]
  simp only [Bool.and_eq_true, beq_iff_eq, hgroup, Cmd.reservedClear_iff, and_assoc]
  exact and_congr Iff.rfl (and_congr Iff.rfl hused)

theorem exec_queryGroup (hop : opcodeOf cmd = 0x0C) (h1 : byteOf cmd 8 ≠ 1) (h2 : byteOf cmd 8 ≠ 2)
    (h3 : byteOf cmd 8 ≠ 3) :
    exec (.queryGroup false cmd) s =
      command false true cmd (queryGroupVerdict cmd s) (queryGroupValue cmd s) id s := by
  have hno : ∀ target : Byte, byteOf cmd 8 ≠ target.toNat → isQuery target cmd = false := fun target h =>
    Bool.eq_false_of_not_eq_true (mt (isQuery_iff target hop).1 h)
  have hrow : (Cmd.opcode cmd == 0x0C && !(isQuery 1 cmd || isQuery 2 cmd || isQuery 3 cmd)) = true := by
    rw [hno 1 h1, hno 2 h2, hno 3 h3, show (Cmd.opcode cmd == 0x0C) = true from beq_iff_eq.2 hop]
    rfl
  show command false (Cmd.opcode cmd == 0x0C && !(isQuery 1 cmd || isQuery 2 cmd || isQuery 3 cmd)) cmd _ _ id s = _
  rw [hrow]

theorem exec_query {c : Instr} {target : Byte} {value : BitVec 128} {f : State → State} (hop : opcodeOf cmd = 0x0C)
    (h : byteOf cmd 8 = target.toNat)
    (hc : exec c s = command false (isQuery target cmd) cmd (queryVerdict cmd s) value f s) :
    exec c s = command false true cmd (queryVerdict cmd s) value f s := by
  rw [hc, (isQuery_iff target hop).2 h]

/-! ## QUERY TRIPS -/

/-- What a line's step leaves of the administrative processor and of the bus port. -/
structure PortSide where
  rstn : Level
  tail : Nat
  fetch : Nat
  queue : List CplEntry
  bus : List BusTxn
  lastFetcher : GroupId
  grantMark : Bool

def State.portSide (s : State) : PortSide :=
  ⟨s.rstn, s.admin.tail, s.admin.fetch, s.admin.queue, s.bus, s.lastFetcher, s.marks.grant⟩

theorem State.portSide_of_fixed {u : State} {lines : Vector TripLine 4} {evt : BitVec 6}
    (h : u.fixed = { s.fixed with lines := lines, evt := evt }) : u.portSide = s.portSide :=
  congrArg (fun f : Fixed =>
    (⟨f.rstn, f.admin.tail, f.admin.fetch, f.admin.queue, f.bus, f.lastFetcher, f.grantMark⟩ : PortSide)) h

theorem State.portSide_lineStep (s : State) (l : LineId) : (s.lineStep l).portSide = s.portSide := by
  unfold State.lineStep
  split
  · rfl
  · next level _ =>
    show (s.judgeSample l level).portSide = s.portSide
    unfold State.judgeSample
    split
    · exact State.portSide_of_fixed (fixed_levelChange s l)
    · rfl

/-- A state with another list of outstanding transactions. -/
def State.rebus (bus : List BusTxn) (s : State) : State := { s with bus := bus }

/-- A state put together of its fixed part, its pairs, its marks of the group ticks, and the moving part of `u`. -/
def State.ofParts (f : Fixed) (pairs : Vector PairUnit 6) (ticks : Vector Bool 4) (u : State) : State :=
  { u with
    rstn := f.rstn, ctrl := f.ctrl, stat := f.stat, evt := f.evt, evtMask := f.evtMask, irq := f.irq
    holding := f.holding, admBase := f.admBase, cplBase := f.cplBase, admCode := f.admCode, cplCode := f.cplCode
    readData := f.readData, pairs := pairs, lines := f.lines, tripPresc := f.tripPresc, admin := f.admin, cpl := f.cpl
    bus := f.bus, lastFetcher := f.lastFetcher, clock := f.clock, pending := f.pending
    marks := { group := ticks, conv := u.marks.conv, trip := f.tripMark, grant := f.grantMark } }

/-- What has changed in its moving part alone. -/
theorem movingOver_of_same {u : State} (hf : u.fixed = s.fixed) (hp : u.pairs = s.pairs)
    (ht : u.ticks = s.ticks) : u.movingOver s = u :=
  calc u.movingOver s = State.ofParts s.fixed s.pairs s.ticks u := rfl
    _ = State.ofParts u.fixed u.pairs u.ticks u := by rw [hf, hp, ht]
    _ = u := rfl

theorem movingOver_rebus {u : State} (bus : List BusTxn) (hf : u.fixed = s.fixed) (hp : u.pairs = s.pairs)
    (ht : u.ticks = s.ticks) : u.movingOver (s.rebus bus) = u.rebus bus :=
  congrArg (State.rebus bus) (movingOver_of_same hf hp ht)

theorem rebus_tripGroup (bus : List BusTxn) (s : State) (g : GroupId) :
    (s.rebus bus).tripGroup g = (s.tripGroup g).rebus bus :=
  (State.movingOver_tripGroup (s := s) (r := s.rebus bus) g).trans
    (movingOver_rebus bus (State.fixed_tripGroup s g) (State.pairs_tripGroup s g) (State.ticks_tripGroup s g))

theorem rebus_pump (bus : List BusTxn) (s : State) : (s.rebus bus).pump = s.pump.rebus bus :=
  (State.movingOver_pump (s := s) (r := s.rebus bus) rfl).trans
    (movingOver_rebus bus (State.fixed_pump s) (State.pairs_pump s) (State.ticks_pump s))

theorem rebus_levelChange (bus : List BusTxn) (s : State) (l : LineId) :
    (s.rebus bus).levelChange l = (s.levelChange l).rebus bus := by
  have hfold : ∀ (gs : List GroupId) (s : State), gs.foldl (fun t g => t.tripGroup g) (s.rebus bus) =
      (gs.foldl (fun t g => t.tripGroup g) s).rebus bus := by
    intro gs
    induction gs with
    | nil => exact fun _ => rfl
    | cons g gs ih =>
      intro s
      rw [List.foldl_cons, List.foldl_cons, rebus_tripGroup, ih]
  rw [levelChange_eq s l]
  refine (levelChange_eq (s.rebus bus) l).trans ?_
  by_cases htrips : (s.line l).trips = true
  · rw [if_pos htrips, if_pos (by exact htrips)]
    by_cases hrun : s.isRunning = true
    · rw [if_pos hrun, if_pos (by exact hrun), ← rebus_pump, ← hfold]
      rfl
    · rw [if_neg hrun, if_neg (by exact hrun)]
      rfl
  · rw [if_neg htrips, if_neg (by exact htrips)]
    rfl

theorem rebus_lineStep (bus : List BusTxn) (s : State) (l : LineId) :
    (s.rebus bus).lineStep l = (s.lineStep l).rebus bus := by
  cases hl : (s.line l).sample with
  | none =>
    have hl' : ((s.rebus bus).line l).sample = none := hl
    simp only [State.lineStep, hl, hl']
  | some level =>
    have hl' : ((s.rebus bus).line l).sample = some level := hl
    simp only [State.lineStep, hl, hl', State.judgeSample]
    by_cases hc : (s.line l).completesRun level = true
    · rw [if_pos hc, if_pos (by exact hc), rebus_levelChange]
      rfl
    · rw [if_neg hc, if_neg (by exact hc)]
      rfl

theorem finishSample_eq (s : State) :
    s.finishSample = (((s.lineStep 0).lineStep 1).lineStep 2).lineStep 3 := rfl

theorem portSide_finishSample (s : State) : s.finishSample.portSide = s.portSide := by
  rw [finishSample_eq, State.portSide_lineStep, State.portSide_lineStep, State.portSide_lineStep,
    State.portSide_lineStep]

/-- Receiving the command and finishing the sample tick commute. -/
theorem finishSample_received (s : State) : s.received.finishSample = s.finishSample.received := by
  have hbus : s.finishSample.bus = s.bus := congrArg PortSide.bus (portSide_finishSample s)
  have hcommute : s.received.finishSample = s.finishSample.rebus s.received.bus := by
    rw [finishSample_eq, finishSample_eq, ← rebus_lineStep, ← rebus_lineStep, ← rebus_lineStep, ← rebus_lineStep]
    rfl
  rw [hcommute]
  generalize s.finishSample = u at hbus
  show u.rebus (s.bus.eraseP _) = u.rebus (u.bus.eraseP _)
  rw [hbus]

theorem settled_lineStep (hs : Settled s) (l : LineId) : Settled (s.lineStep l) := by
  unfold State.lineStep
  split
  · exact hs
  · exact settled_settle _

theorem settled_finishSample (hs : Settled s) : Settled s.finishSample := by
  rw [finishSample_eq]
  exact settled_lineStep (settled_lineStep (settled_lineStep (settled_lineStep hs 0) 1) 2) 3

theorem exec_lineStep (hr : s.rstn = .high) (l : LineId) :
    exec (.filteredLevelChange l) s = .next (s.lineStep l) := by
  show Host.Outcome.next (if s.inReset = true then s else s.lineStep l) = _
  have hout : s.inReset = false := by simp [State.inReset, hr]
  rw [hout]
  rfl

theorem rstn_lineStep (s : State) (l : LineId) : (s.lineStep l).rstn = s.rstn :=
  congrArg PortSide.rstn (s.portSide_lineStep l)

theorem lineStep_of_none (h : (s.line l).sample = none) : s.lineStep l = s := by
  simp only [State.lineStep, h]

/-- After its step a line has no sample that waits, and the others are as they were. -/
theorem lineStep_sample (s : State) (l m : LineId) :
    ((s.lineStep l).line m).sample = if m = l then none else (s.line m).sample := by
  cases hl : (s.line l).sample with
  | none =>
    rw [lineStep_of_none hl]
    split
    · next h => rw [h, hl]
    · rfl
  | some level =>
    simp only [State.lineStep, hl, State.settle_line, State.judgeSample]
    split
    · rw [levelChange_line]
      split
      · rw [TripLine.change_eq]
      · rfl
    · rw [State.line_setLine]
      split
      · rw [TripLine.countSample_eq]
      · rfl

theorem finishSample_sample (s : State) (l : LineId) : (s.finishSample.line l).sample = none := by
  rw [finishSample_eq]
  simp only [lineStep_sample]
  fin_cases l <;> simp

/-- A tick of which no line's step waits is finished. -/
theorem finishSample_of_none (h : ∀ l, (s.line l).sample = none) : s.finishSample = s := by
  rw [finishSample_eq, lineStep_of_none (h 0), lineStep_of_none (h 1), lineStep_of_none (h 2), lineStep_of_none (h 3)]

/-- The accepted QUERY TRIPS, against the state with its sample tick finished. -/
theorem queryTrips_accepted (hs : Settled s) (ha : Awaits s .adminProcessor) (hop : opcodeOf cmd = 0x0C)
    (h8 : byteOf cmd 8 = 2) (hused : OnlyUses cmd [8]) :
    ∃ t, exec (.queryTrips false cmd) s = .next t ∧ t.lines = s.finishSample.lines
      ∧ Reported cmd .ok s.finishSample.tripSnapshot s t
      ∧ SameExcept [.admin, .requests, .port] s.finishSample t := by
  have hexec := exec_query (f := State.finishSample) (value := s.finishSample.tripSnapshot) (target := 2) hop h8
    (c := .queryTrips false cmd) rfl
  have hrun := exec_of_accepted hexec ha (queryVerdict_of_used hused)
  rw [finishSample_received] at hrun
  have hside := portSide_finishSample s
  have hsettled := settled_finishSample hs
  generalize s.finishSample = u at hrun hside hsettled ⊢
  have hreported : Reported cmd .ok u.tripSnapshot u (u.received.report cmd .ok u.tripSnapshot).settle :=
    reported_settle rfl rfl rfl rfl
  obtain ⟨h1, h2, h3, h4, h5, h6, h7⟩ := hreported
  have hbus : u.bus = s.bus := congrArg PortSide.bus hside
  refine ⟨_, hrun, rfl, ⟨h1.trans ?_, h2.trans (congrArg PortSide.tail hside),
    h3.trans (congrArg PortSide.fetch hside), h4, ?_, h6.trans (congrArg PortSide.lastFetcher hside),
    h7.trans (congrArg PortSide.grantMark hside)⟩, refused_frame hsettled⟩
  · have hqueue : u.admin.queue = s.admin.queue := congrArg PortSide.queue hside
    have hfetch : u.admin.fetch = s.admin.fetch := congrArg PortSide.fetch hside
    rw [hqueue, hfetch]
  · rw [h5, hbus]

end Queries

/-- Settles O59: each target's checks, and the items of its snapshot. -/
theorem queriesReportSnapshots : Obligations.QueriesReportSnapshots := by
  unfold Obligations.QueriesReportSnapshots
  intro s cmd hs ha hop touched
  refine ⟨fun h1 h2 h3 => ?_, fun h8 => ?_, fun h8 => ?_, fun h8 => ?_⟩
  · have hexec := exec_queryGroup (s := s) hop h1 h2 h3
    refine ⟨fun hp => ?_, fun h0 hused g hg => ?_⟩
    · exact refused_of_command hs ha hexec (judge_of_not_params (mt (queryGroup_params_iff cmd).1 hp) _) (by decide)
    · have hgroup : groupOfCode (Cmd.group cmd) = some g := (groupOfCode_eq_some_iff _ _).2 hg
      have hvalue : queryGroupValue cmd s = (s.group g).snapshot := by rw [queryGroupValue, hgroup]
      have hparams := (queryGroup_params_iff cmd).2 ⟨h0, hg ▸ g.isLt, hused⟩
      obtain ⟨t, ht, hreported, hframe⟩ := query_accepted hs ha hexec (judge_of_params hparams _)
      rw [hvalue] at hreported
      exact ⟨t, _, ht, hreported, hframe, groupSnapshot_items (s.group g)⟩
  · have hexec := exec_query (f := id) (value := s.tokenSnapshot) (target := 1) (s := s) hop h8
      (c := .queryTokens false cmd) rfl
    refine ⟨fun hp => ?_, fun hused => ?_⟩
    · exact refused_of_command hs ha hexec (queryVerdict_of_not_used hp) (by decide)
    · obtain ⟨t, ht, hreported, hframe⟩ := query_accepted hs ha hexec (queryVerdict_of_used hused)
      exact ⟨t, _, ht, hreported, hframe, tokenSnapshot_byte s⟩
  · have hexec := exec_query (f := State.finishSample) (value := s.finishSample.tripSnapshot) (target := 2) (s := s) hop h8
      (c := .queryTrips false cmd) rfl
    refine ⟨fun hp => ?_, fun hused hr => ?_⟩
    · exact refused_of_command hs ha hexec (queryVerdict_of_not_used hp) (by decide)
    · obtain ⟨t, ht, hlines, hreported, hframe⟩ := queryTrips_accepted hs ha hop h8 hused
      have hr1 : (s.lineStep 0).rstn = .high := (rstn_lineStep s 0).trans hr
      have hr2 : ((s.lineStep 0).lineStep 1).rstn = .high := (rstn_lineStep _ 1).trans hr1
      have hr3 : (((s.lineStep 0).lineStep 1).lineStep 2).rstn = .high := (rstn_lineStep _ 2).trans hr2
      have hline : ∀ l, t.line l = s.finishSample.line l := fun l => by rw [State.line, State.line, hlines]
      refine ⟨t, _, _, _, _, _, ht, exec_lineStep hr 0, exec_lineStep hr1 1, exec_lineStep hr2 2, exec_lineStep hr3 3,
        hreported, ?_, fun hnone => ?_, fun l => ?_⟩
      · rw [← finishSample_eq]; exact hframe
      · rwa [finishSample_of_none hnone] at hframe
      · rw [hline l]
        exact ⟨finishSample_sample s l, tripSnapshot_fields s.finishSample l⟩
  · have hexec := exec_query (f := id) (value := s.converterSnapshot) (target := 3) (s := s) hop h8
      (c := .queryConverter false cmd) rfl
    refine ⟨fun hp => ?_, fun hused => ?_⟩
    · exact refused_of_command hs ha hexec (queryVerdict_of_not_used hp) (by decide)
    · obtain ⟨t, ht, hreported, hframe⟩ := query_accepted hs ha hexec (queryVerdict_of_used hused)
      exact ⟨t, _, ht, hreported, hframe, converterSnapshot_items s⟩

end Sys2Proof.Machine
end

section
/-! PROOF. The effects of the commands with their decoding done: one constructor for each change of the state, however
many commands can make it. The laws that every step keeps go through this list. -/

namespace Sys2Proof.Machine

/-! ## Administrative commands -/

/-- What an accepted administrative command does to the state that has received it. -/
inductive Serves : State → State → Prop where
  | nothing (s : State) : Serves s s
  | bind (g : GroupId) (cmd : Slot32) (s : State) (hcode : 2 ≤ Cmd.number cmd ∧ Cmd.number cmd ≤ 12)
      (hst : (s.group g).state = .unbound ∨ ((s.group g).state = .stopped ∧ (s.group g).window = [])) :
      Serves s (s.modGroup g (Group.bind cmd (s.tripCondition g)))
  | unbind (g : GroupId) (s : State) (hst : (s.group g).state = .stopped) (hw : (s.group g).window = []) :
      Serves s (s.modGroup g Group.unbind)
  | setGroup (g : GroupId) (d : Nat) (mode : CountMode) (ticks : Vector Bool 4) (s : State)
      (hst : (s.group g).state = .unbound ∨ (s.group g).state = .stopped) :
      Serves s { s.modGroup g (fun x => { x with d := d, mode := mode, presc := 0 }) with
        marks := { s.marks with group := ticks } }
  | setPair (c : PairConfig) (s : State) (hidle : c.idle.legal c.mode = true) (hsafe : c.safe.legal c.mode = true) :
      Serves s (s.setPair c.pair ((s.pair c.pair).configure c))
  | setConverter (k : Nat) (s : State) :
      Serves s { s with
        converter := { s.converter with k := k, presc := 0 }, marks := { s.marks with conv := false } }
  | setTrip (l : LineId) (active : Level) (n : Nat) (mask : BitVec 4) (s : State) (hl : (s.line l).latch = false) :
      Serves s (s.setLine l ((s.line l).configure active n mask))
  | start (members : Byte) (s : State) (hroom : s.sets.length < 4)
      (hnamed : ∀ g : GroupId, members.getLsbD g = true →
        s.tripCondition g = false ∧ (s.group g).state = .stopped ∧ (s.group g).window = []) :
      Serves s ((maskGroups members).foldl (fun t g => t.modGroup g fun x => { x with state := .armed })
        { s with sets := s.sets ++ [{ members := members.extractLsb' 0 4 }] })
  | stop (g : GroupId) (mode : StopMode) (s : State)
      (hst : (s.group g).state = .running ∨ (s.group g).state = .starved ∨ (s.group g).state = .armed) :
      Serves s (s.stopGroup g mode).pump
  | abort (g : GroupId) (s : State) (hst : (s.group g).state ≠ .unbound) : Serves s (s.abortGroup g).pump
  | discard (g : GroupId) (s : State) (hst : (s.group g).state ≠ .unbound) :
      Serves s ((s.abortGroup g).modGroup g Group.discard).pump
  | setToken (t : TokenId) (n : Nat) (s : State) (hn : n ≤ 255) : Serves s { s with tokens := s.tokens.set t n }
  | clearTrip (l : LineId) (s : State) (hl : (s.line l).filtered = false) :
      Serves s (allGroups.foldl
        (fun t g => if (s.setLine l { s.line l with latch := false }).tripCondition g then t else t.modGroup g Group.clearTrip)
        (s.setLine l { s.line l with latch := false }))
  | finishSample (s : State) : Serves s s.finishSample

theorem mem_allGroups (g : GroupId) : g ∈ allGroups := by revert g; decide

theorem groupOfVerdict {n : Nat} {bad verdict : AdminStatus} {f : GroupId → AdminStatus} (hbad : bad ≠ verdict)
    (h : (match groupOfCode n with | none => bad | some g => f g) = verdict) :
    ∃ g, groupOfCode n = some g ∧ f g = verdict := by
  cases hg : groupOfCode n with
  | none => rw [hg] at h; exact absurd h hbad
  | some g => rw [hg] at h; exact ⟨g, rfl, h⟩

theorem judge_eq_ok {params : Bool} {rest : AdminStatus} (h : judge params rest = .ok) : params = true ∧ rest = .ok := by
  cases params with
  | true => exact ⟨rfl, h⟩
  | false => cases h

section Commands

variable {s : State} {cmd : Slot32}

theorem Group.unbound_or_stopped_of_bindVerdict {b : Bool} {x : Group} (h : x.bindVerdict b = .ok) :
    (b = true ∧ x.state = .unbound) ∨ (x.state = .stopped ∧ x.window = []) := by
  unfold Group.bindVerdict at h
  split at h
  · next hst =>
    cases b with
    | true => exact .inl ⟨rfl, hst⟩
    | false => cases h
  · next hst =>
    refine .inr ⟨hst, ?_⟩
    split at h
    · next hw => exact List.isEmpty_iff.1 hw
    · cases h
  · cases h

theorem serves_bindRing (hv : bindRingVerdict cmd s = .ok) : Serves s.received (bindRingEffect cmd s.received) := by
  obtain ⟨g, hg, hv⟩ := groupOfVerdict (by decide) hv
  obtain ⟨hparams, hst⟩ := judge_eq_ok hv
  simp only [Bool.and_eq_true, decide_eq_true_eq] at hparams
  have heff : bindRingEffect cmd s.received = s.received.modGroup g (Group.bind cmd (s.received.tripCondition g)) := by
    unfold bindRingEffect; rw [hg]
  rw [heff]
  refine .bind g cmd _ hparams.1.1 ?_
  rcases Group.unbound_or_stopped_of_bindVerdict hst with ⟨-, h⟩ | h
  · exact .inl h
  · exact .inr h

theorem serves_unbindRing (hv : unbindRingVerdict cmd s = .ok) : Serves s.received (unbindRingEffect cmd s.received) := by
  obtain ⟨g, hg, hv⟩ := groupOfVerdict (by decide) hv
  have heff : unbindRingEffect cmd s.received = s.received.modGroup g Group.unbind := by
    unfold unbindRingEffect; rw [hg]
  rw [heff]
  rcases Group.unbound_or_stopped_of_bindVerdict (judge_eq_ok hv).2 with ⟨h, -⟩ | ⟨hst, hw⟩
  · cases h
  · exact .unbind g _ hst hw

theorem serves_setGroup (hv : setGroupVerdict cmd s = .ok) : Serves s.received (setGroupEffect cmd s.received) := by
  obtain ⟨g, hg, hv⟩ := groupOfVerdict (by decide) hv
  obtain ⟨hparams, hst⟩ := judge_eq_ok hv
  simp only [Bool.and_eq_true, Option.isSome_iff_exists] at hparams
  obtain ⟨⟨-, mode, hmode⟩, -⟩ := hparams
  have hquiet : (s.group g).isQuiet = true := by
    by_contra hq
    rw [if_neg hq] at hst
    cases hst
  unfold setGroupEffect
  rw [hg, hmode]
  exact .setGroup g _ _ _ _ (by simpa [Group.isQuiet] using hquiet)

theorem legal_of_setPairConfig {c : PairConfig} (h : setPairConfig cmd = some c) :
    c.idle.legal c.mode = true ∧ c.safe.legal c.mode = true := by
  unfold setPairConfig at h
  split at h
  · split at h
    · next hp =>
      simp only [Bool.and_eq_true] at hp
      obtain rfl := Option.some.inj h
      exact ⟨hp.1.1.2, hp.1.2⟩
    · cases h
  · cases h

theorem serves_setPair (s : State) (cmd : Slot32) : Serves s.received (setPairEffect cmd s.received) := by
  unfold setPairEffect
  split
  · exact .nothing _
  · next c hc => exact .setPair c _ (legal_of_setPairConfig hc).1 (legal_of_setPairConfig hc).2

theorem serves_setTrip (hv : setTripVerdict cmd s = .ok) : Serves s.received (setTripEffect cmd s.received) := by
  unfold setTripEffect
  split
  · next l level hl _ =>
    refine .setTrip l _ _ _ _ ?_
    show (s.line l).latch = false
    unfold setTripVerdict at hv
    rw [hl] at hv
    have hlatch := (judge_eq_ok hv).2
    by_contra hn
    rw [if_pos (by simpa using hn)] at hlatch
    cases hlatch
  · exact .nothing _

theorem serves_start (hv : startVerdict cmd s = .ok) : Serves s.received (startEffect cmd s.received) := by
  have hrest := (judge_eq_ok hv).2
  have hroom : s.sets.length < 4 := by
    by_contra h
    rw [if_pos (Nat.not_lt.1 h)] at hrest
    cases hrest
  rw [if_neg (Nat.not_le.2 hroom)] at hrest
  refine .start (Cmd.mask cmd) _ hroom fun g hg => ?_
  have hmem : g ∈ maskGroups (Cmd.mask cmd) := List.mem_filter.2 ⟨mem_allGroups g, hg⟩
  split at hrest
  · cases hrest
  · next htrip =>
    split at hrest
    · cases hrest
    · next hstate =>
      split at hrest
      · cases hrest
      · next hwindow =>
        simp only [List.any_eq_true, not_exists, not_and, Bool.not_eq_true] at htrip hstate hwindow
        have hw := hwindow g hmem
        have hs := hstate g hmem
        refine ⟨htrip g hmem, by simpa using hs, by simpa using hw⟩

theorem serves_stop (hv : stopVerdict cmd s = .ok) : Serves s.received (stopEffect cmd s.received) := by
  obtain ⟨g, hg, hv⟩ := groupOfVerdict (by decide) hv
  obtain ⟨hparams, hst⟩ := judge_eq_ok hv
  simp only [Bool.and_eq_true, Option.isSome_iff_exists] at hparams
  obtain ⟨⟨mode, hmode⟩, -⟩ := hparams
  unfold stopEffect
  rw [hg, hmode]
  refine .stop g mode _ ?_
  show (s.group g).state = _ ∨ (s.group g).state = _ ∨ (s.group g).state = _
  split at hst
  · next h => exact .inl h
  · next h => exact .inr (.inl h)
  · next h => exact .inr (.inr h)
  · cases hst

theorem serves_abort (hv : abortVerdict cmd s = .ok) : Serves s.received (abortEffect cmd s.received) := by
  obtain ⟨g, hg, hv⟩ := groupOfVerdict (by decide) hv
  have hst : (s.group g).state ≠ .unbound := by
    intro h
    have hrest := (judge_eq_ok hv).2
    rw [if_pos (by simp [h])] at hrest
    cases hrest
  unfold abortEffect
  rw [hg]
  dsimp only
  split
  · exact .discard g _ hst
  · exact .abort g _ hst

theorem serves_setToken (hv : setTokenVerdict cmd s = .ok) : Serves s.received (setTokenEffect cmd s.received) := by
  have hparams := (judge_eq_ok hv).1
  simp only [Bool.and_eq_true, decide_eq_true_eq] at hparams
  unfold setTokenEffect
  split
  · exact .setToken _ _ _ hparams.1.2
  · exact .nothing _

theorem serves_clearTrip (hv : clearTripVerdict cmd s = .ok) : Serves s.received (clearTripEffect cmd s.received) := by
  unfold clearTripEffect
  split
  · exact .nothing _
  · next l hl =>
    dsimp only
    split
    · refine .clearTrip l _ ?_
      show (s.line l).filtered = false
      unfold clearTripVerdict at hv
      rw [hl] at hv
      have hf := (judge_eq_ok hv).2
      by_contra hn
      rw [if_pos (by simpa using hn)] at hf
      cases hf
    · exact .nothing _

end Commands

/-! ## Every command -/

/-- The effect of a command that is due, before it settles, with the guards under which it takes place. -/
inductive Effect : State → State → Prop where
  | powerOn (pin : Level) (s : State) : Effect s { s.powerOn with rstn := pin }
  | controllerReset (s : State) : Effect s s.controllerReset
  /-- Registers that no law reads: STAT, the events, the ring bases, the holding word and the read data. -/
  | window (stat : StatReg) (evt evtMask : BitVec 6) (holding : Word32) (adm cpl : Addr) (data : List Byte) (s : State) :
      Effect s { s with
        stat := stat, evt := evt, evtMask := evtMask, holding := holding, admBase := adm, cplBase := cpl, readData := data }
  | ringcfg (adm cpl : BitVec 4) (s : State) (h : s.ctrl = .off) : Effect s { s with admCode := adm, cplCode := cpl }
  | started (s : State) (h : s.ctrl = .off) : Effect s
      { s with
        ctrl := .running
        stat := { s.stat with cfgErr := false }
        admin := { s.admin with tail := 0, fetch := 0 }
        cpl := { s.cpl with write := 0, release := 0, unreleased := 0, lap := true } }
  | groupTail (g : GroupId) (n : Nat) (s : State) (h : s.groupTailAccepted g n = true) :
      Effect s (s.modGroup g fun x => { x with ring := { x.ring with tail := n } })
  | adminTail (n : Nat) (s : State) : Effect s { s with admin := { s.admin with tail := n } }
  | release (n k : Nat) (s : State) (h : s.ctrl = .running) :
      Effect s { s with cpl := { s.cpl with release := n, unreleased := s.cpl.unreleased - k } }
  | fetch (g : GroupId) (s : State) (h : s.granted (.fetcher g) = true) : Effect s
      { ((s.modGroup g Group.beginFetch).issue
          { requester := .fetcher g, addr := slotAddr (s.group g).ring.base 64 (s.group g).ring.fetch,
            op := .readRecord }) with lastFetcher := g }
  | readOk (g : GroupId) (slot : Slot64) (valid : Bool) (s : State) (h : Taken (.fetcher g) s) :
      Effect s (s.readAnswered g (Entry.fetched slot valid))
  | readError (g : GroupId) (s : State) (h : Taken (.fetcher g) s) : Effect s (s.readAnswered g Entry.fetchFailed)
  | tick (g : GroupId) (s : State) (h : s.tickDue g = true) (hb : (s.group g).atBoundary = false)
      (hr : (s.group g).atResume = false) : Effect s ((s.markTick g).stepTick g)
  | boundary (g : GroupId) (s : State) (h : s.tickDue g = true) (hb : (s.group g).atBoundary = true) :
      Effect s (s.periodBoundary g)
  | expiry (p : PairId) (o : Output) (s : State) (h : s.expiryDue p o = true) :
      Effect s (s.setPair p ((s.pair p).expire o))
  | resume (g : GroupId) (s : State) (h : s.tickDue g = true) (hr : (s.group g).atResume = true) :
      Effect s ((s.markTick g).resume g)
  | fire (g : GroupId) (s : State) (h : s.setDue g = true) : Effect s (s.fireSet g)
  | converterTick (v : BitVec 12) (s : State) (h : s.convTickDue = true) : Effect s (s.convTick v)
  | conversionEnd (s : State) (h : s.conversionAtEnd = true) : Effect s s.conversionEnd
  | issueWord (s : State) (h : s.granted .resultWriter = true) : Effect s s.issueWord
  | countWord (s : State) (h : Taken .resultWriter s) : Effect s (s.resultAnswered State.countWord)
  | faultWord (s : State) (h : Taken .resultWriter s) : Effect s (s.resultAnswered State.faultWord)
  | leave (g : GroupId) (s : State) (h : s.leaveDue g = true) : Effect s (s.modGroup g (Group.leave g))
  | notice (g : GroupId) (s : State) (h : s.noticeDue g = true) : Effect s (s.modGroup g (Group.queueNotice g))
  | commandRead (s : State) (h : s.granted .adminProcessor = true) : Effect s s.issueCommandRead
  | commandError (s : State) (h : Taken .adminProcessor s) : Effect s (s.received.halt .adminFetch)
  | issueEntry (v : Server) (e : CplEntry) (rest : List CplEntry) (txn : BusTxn) (s : State)
      (h : s.granted .completionWriter = true) (hq : s.holdingQueue v = e :: rest)
      (ht : txn.requester = .completionWriter ∧ txn.late = false) :
      Effect s { ((s.popQueue v).issue txn) with
        cpl := { s.cpl.advance s.cplSize with lastServed := v, inFlight := some e } }
  | entryOk (s : State) (h : Taken .completionWriter s) : Effect s
      { (s.answered .completionWriter).setEvt s.inFlightEvent with
        cpl := { s.cpl with state := .idle, inFlight := none } }
  | entryError (s : State) (h : Taken .completionWriter s) : Effect s
      { (s.answered .completionWriter).halt .completionWrite with cpl := { s.cpl with inFlight := none } }
  | sample (pins : Vector Level 4) (s : State) : Effect s
      { s with
        lines := Vector.ofFn fun l => (s.line l).sampled (pins.get l)
        marks := { s.marks with trip := true } }
  | judge (l : LineId) (level : Level) (s : State) : Effect s (s.judgeSample l level)
  | command (cmd : Slot32) (status : AdminStatus) (value : BitVec 128) (s u : State) (h : Arrives s)
      (hu : Serves s.received u) : Effect s (u.report cmd status value)

section Effects

variable {s : State}

theorem Effect.same (s : State) : Effect s s :=
  .window s.stat s.evt s.evtMask s.holding s.admBase s.cplBase s.readData s

theorem Effect.whenOff {t : State} (h : Effect s t) : Effect s (State.whenOff t s) := by
  unfold State.whenOff
  split
  · exact h
  · exact .same s

theorem effect_ctrlStart (s : State) : Effect s s.ctrlStart := by
  unfold State.ctrlStart
  split
  · next h =>
    split
    · exact .started s (by simpa using h)
    · exact .window _ s.evt s.evtMask s.holding s.admBase s.cplBase s.readData s
  · exact .same s

theorem effect_postIgnored (ring : BitVec 3) (i : Word16) (s : State) : Effect s (s.postIgnored ring i) :=
  .window _ _ s.evtMask s.holding s.admBase s.cplBase s.readData s

theorem effect_postGroup (g : GroupId) (i : Word16) (s : State) : Effect s (s.postGroup g i) := by
  unfold State.postGroup
  split
  · next h => exact .groupTail g _ s h
  · exact effect_postIgnored _ i s

theorem effect_postAdmin (i : Word16) (s : State) : Effect s (s.postAdmin i) := by
  unfold State.postAdmin
  split
  · exact .adminTail _ s
  · exact effect_postIgnored _ i s

theorem effect_postRelease (i : Word16) (s : State) : Effect s (s.postRelease i) := by
  unfold State.postRelease
  split
  · next h =>
    simp only [Bool.and_eq_true, State.isRunning, beq_iff_eq] at h
    exact .release _ _ s h.1.1
  · exact effect_postIgnored _ i s

theorem effect_writePost (v : Word32) (s : State) : Effect s (s.writePost v) := by
  unfold State.writePost
  dsimp only
  split
  · exact effect_postGroup _ _ s
  · split
    · exact effect_postAdmin _ s
    · split
      · exact effect_postRelease _ s
      · exact effect_postIgnored _ _ s

theorem effect_writeHolding (v : Word32) (s : State) : Effect s (State.whenOff (s.writeHolding v) s) :=
  .whenOff (.window s.stat s.evt s.evtMask v s.admBase s.cplBase s.readData s)

theorem effect_writeAdmBase (v : Word32) (s : State) : Effect s (State.whenOff (s.writeAdmBase v) s) :=
  .whenOff (.window s.stat s.evt s.evtMask s.holding (v ++ s.holding) s.cplBase s.readData s)

theorem effect_writeCplBase (v : Word32) (s : State) : Effect s (State.whenOff (s.writeCplBase v) s) :=
  .whenOff (.window s.stat s.evt s.evtMask s.holding s.admBase (v ++ s.holding) s.readData s)

theorem effect_clearEvt (bits : BitVec 6) (s : State) : Effect s (s.clearEvt bits) :=
  .window s.stat _ s.evtMask s.holding s.admBase s.cplBase s.readData s

theorem effect_writeMask (v : Word32) (s : State) : Effect s (s.writeMask v) :=
  .window s.stat s.evt _ s.holding s.admBase s.cplBase s.readData s

/-- A register write has the effect of the command of its register (Table 10.2). -/
theorem effect_writeReg (r : RegName) (v : Word32) (s : State) : Effect s (s.writeReg r v) := by
  cases r with
  | devid | stat => exact .same s
  | ctrl =>
    show Effect s (s.writeCtrl v)
    unfold State.writeCtrl
    split
    · exact .controllerReset s
    · split
      · exact effect_ctrlStart s
      · exact .same s
  | evt => exact effect_clearEvt _ s
  | evtmask => exact effect_writeMask v s
  | post => exact effect_writePost v s
  | admbaseLo | cplbaseLo => exact effect_writeHolding v s
  | admbaseHi => exact effect_writeAdmBase v s
  | cplbaseHi => exact effect_writeCplBase v s
  | ringcfg =>
    show Effect s (State.whenOff (s.writeRingcfg v) s)
    unfold State.whenOff
    split
    · next h => exact .ringcfg _ _ s (by simpa using h)
    · exact .same s

theorem effect_issueEntry (h : s.granted .completionWriter = true) : Effect s s.issueEntry := by
  unfold State.issueEntry
  split
  · exact .same s
  · split
    · exact .same s
    · next e rest hq =>
      exact .issueEntry _ e rest { requester := .completionWriter, addr := slotAddr s.cplBase 32 s.cpl.write, op := _ } s h hq
        ⟨rfl, rfl⟩

/-- Every command that is due has one of the effects. -/
theorem Happens.effect {c : Instr} {u : State} (h : Happens c s u) : Effect s u := by
  cases h with
  | powerOnReset pin => exact .powerOn pin s
  | ctrlReset => exact .controllerReset s
  | ctrlStart => exact effect_ctrlStart s
  | evtWrite => exact effect_clearEvt _ s
  | evtmaskWrite => exact effect_writeMask _ s
  | postGroupTail => exact effect_postGroup _ _ s
  | postAdminTail => exact effect_postAdmin _ s
  | postCompletionRelease => exact effect_postRelease _ s
  | admbaseLoWrite | cplbaseLoWrite => exact effect_writeHolding _ s
  | admbaseHiWrite => exact effect_writeAdmBase _ s
  | cplbaseHiWrite => exact effect_writeCplBase _ s
  | admbaseHiRead | cplbaseHiRead => exact .window s.stat s.evt s.evtMask _ s.admBase s.cplBase _ s
  | registerWrite => exact effect_writeReg _ _ s
  | groupFetchIssue g _ h => exact .fetch g s h
  | groupReadOk g slot _ h => exact .readOk g slot _ s h
  | groupReadError g _ h => exact .readError g s h
  | groupTick g _ h hb hr => exact .tick g s h hb hr
  | periodBoundary g _ h hb => exact .boundary g s h hb
  | deadTimeExpiry p o _ h => exact .expiry p o s h
  | starvedResume g _ h hr => exact .resume g s h hr
  | startSetFire g _ h => exact .fire g s h
  | converterTick v _ h => exact .converterTick v s h
  | conversionEnd _ h => exact .conversionEnd s h
  | resultWriteIssue _ h => exact .issueWord s h
  | resultWriteOk _ h => exact .countWord s h
  | resultWriteError _ h => exact .faultWord s h
  | recordLeave g _ h => exact .leave g s h
  | noticeQueue g _ h => exact .notice g s h
  | adminFetchIssue _ h => exact .commandRead s h
  | adminReadError _ h => exact .commandError s h
  | completionWriteIssue _ h => exact effect_issueEntry h
  | completionWriteOk _ h => exact .entryOk s h
  | completionWriteError _ h => exact .entryError s h
  | tripSample pins _ h => exact .sample pins s
  | filteredLevelChange l level => exact .judge l level s
  | refused _ cmd status _ h => exact .command cmd status 0 s _ h (.nothing _)
  | bindRing cmd _ h hv => exact .command cmd .ok 0 s _ h (serves_bindRing hv)
  | unbindRing cmd _ h hv => exact .command cmd .ok 0 s _ h (serves_unbindRing hv)
  | setGroup cmd _ h hv => exact .command cmd .ok 0 s _ h (serves_setGroup hv)
  | setPair cmd _ h hv => exact .command cmd .ok 0 s _ h (serves_setPair s cmd)
  | setConverter cmd _ h hv => exact .command cmd .ok 0 s _ h (.setConverter _ _)
  | setTrip cmd _ h hv => exact .command cmd .ok 0 s _ h (serves_setTrip hv)
  | start cmd _ h hv => exact .command cmd .ok 0 s _ h (serves_start hv)
  | stop cmd _ h hv => exact .command cmd .ok 0 s _ h (serves_stop hv)
  | abort cmd _ h hv => exact .command cmd .ok 0 s _ h (serves_abort hv)
  | setToken cmd _ h hv => exact .command cmd .ok 0 s _ h (serves_setToken hv)
  | clearTrip cmd _ h hv => exact .command cmd .ok 0 s _ h (serves_clearTrip hv)
  | query _ cmd value _ h => exact .command cmd .ok value s _ h (.nothing _)
  | queryTrips cmd value _ h => exact .command cmd .ok value s _ h (.finishSample _)

/-- A state that a step answers: the state itself but for the waiting commands, with an answer dropped or passed over,
after an effect and settling, or after the passing of a device clock. -/
theorem step_reaches (P Q : State → Prop) (hq : ∀ s q, P s → P { s with pending := q }) (hstay : ∀ s, P s → Q s)
    (hdrop : ∀ s r, P s → Q (s.dropLate r)) (hans : ∀ s r, P s → Q (s.answered r))
    (heff : ∀ s u, P s → Effect s u → Q u.settle) (hclk : ∀ s : State, P s → Q s.passClock)
    {s t : State} (hs : P s) (h : step s = .next t) : Q t := by
  have hexec : ∀ c s, P s → exec c s = .next t → Q t := by
    intro c s hs h
    rcases exec_next h with rfl | ⟨r, rfl⟩ | ⟨r, rfl⟩ | ⟨u, hu, rfl⟩
    · exact hstay _ hs
    · exact hdrop _ _ hs
    · exact hans _ _ hs
    · exact heff _ _ hs hu.effect
  rcases step_next h with ⟨c, rest, _, h⟩ | ⟨c, _, _, h⟩ | ⟨_, _, rfl⟩
  · exact hexec c _ (hq _ _ hs) h
  · exact hexec c _ hs h
  · exact hclk _ hs

/-- A law that every effect, settling, a dropped or passed-over answer, the waiting commands and the passing of a device
clock keep is kept by every step. -/
theorem step_keeps_of_effects (P : State → Prop) (hq : ∀ s q, P s → P { s with pending := q })
    (hdrop : ∀ s r, P s → P (s.dropLate r)) (hans : ∀ s r, P s → P (s.answered r)) (hsettle : ∀ s, P s → P s.settle)
    (heff : ∀ s u, P s → Effect s u → P u) (hclk : ∀ s : State, P s → P s.passClock)
    {s t : State} (hs : P s) (h : step s = .next t) : P t :=
  step_reaches P P hq (fun _ h => h) hdrop hans (fun s u hs hu => hsettle u (heff s u hs hu)) hclk hs h

end Effects

end Sys2Proof.Machine
end

section
/-! PROOF. Token counts stay in 0..255 (R65), an active mapped line stays latched (R118), and an active output keeps an
active source (R54, R56, R57). -/

namespace Sys2Proof.Machine

/-! ## The token table -/

theorem tokens_judgeSample (s : State) (l : LineId) (level : Level) : (s.judgeSample l level).tokens = s.tokens := by
  unfold State.judgeSample
  split
  · exact s.tokens_levelChange l
  · rfl

theorem tokens_lineStep (s : State) (l : LineId) : (s.lineStep l).tokens = s.tokens := by
  unfold State.lineStep
  split
  · rfl
  · exact tokens_judgeSample s l _

theorem tokens_finishSample (s : State) : s.finishSample.tokens = s.tokens :=
  foldl_keeps State.tokens _ tokens_lineStep _ _

/-- Only SET_TOKEN writes a count, and it writes none above 255 (R70). -/
theorem Serves.keeps_tokens {s u : State} (h : Serves s u) (hs : TokOk s.tokens) : TokOk u.tokens := by
  have keeps : ∀ {v : State}, v.tokens = s.tokens → TokOk v.tokens := fun h => h ▸ hs
  cases h with
  | nothing | bind | unbind | setGroup | setPair | setConverter | setTrip => exact hs
  | start => rw [foldl_modGroup_eq]; exact hs
  | stop | abort | discard => exact keeps (by simp)
  | setToken t n _ hn =>
    intro u
    rw [tokens_set_get]
    split
    · exact hn
    · exact hs u
  | clearTrip =>
    refine keeps ((foldl_keeps State.tokens _ (fun t g => ?_) _ _).trans rfl)
    split <;> rfl
  | finishSample => exact keeps (tokens_finishSample s)

/-- Every effect takes its token requests from the table, which keeps its counts (R65 to R68). -/
theorem Effect.keeps_tokens {s u : State} (h : Effect s u) (hs : TokOk s.tokens) : TokOk u.tokens := by
  have keeps : ∀ {v : State}, v.tokens = s.tokens → TokOk v.tokens := fun h => h ▸ hs
  cases h with
  | powerOn | controllerReset => exact TokOk.controllerReset s
  | readOk | readError => exact keeps (s.tokens_readAnswered _ _)
  | boundary => exact TokOk.periodBoundary _ _ hs
  | resume => exact TokOk.resume _ _ hs
  | fire => exact TokOk.fireSet _ _ hs
  | tick | converterTick | conversionEnd => exact keeps (by simp)
  | issueWord =>
    refine keeps ?_
    unfold State.issueWord
    split
    · rfl
    · split <;> rfl
  | countWord => exact keeps (s.tokens_resultAnswered _ fun w t => t.tokens_countWord w)
  | faultWord => exact keeps (s.tokens_resultAnswered _ fun w t => t.tokens_faultWord w)
  | issueEntry v => cases v <;> exact hs
  | judge => exact keeps (tokens_judgeSample _ _ _)
  | command _ _ _ _ _ _ hu => exact hu.keeps_tokens hs
  | window | ringcfg | started | groupTail | adminTail | release | fetch | expiry | leave | notice | commandRead
  | commandError | entryOk | entryError | sample => exact hs

/-! ## The trip lines -/

/-- A line whose mask is not empty and whose filtered level is active is latched (R118). -/
abbrev TripLine.LatchOk (ln : TripLine) : Prop := ln.mask ≠ 0 → ln.filtered = true → ln.latch = true

theorem latchLaw_of_lines {s u : State} (hs : LatchLaw s) (h : u.lines = s.lines) : LatchLaw u := by
  intro l
  rw [State.line, h]
  exact hs l

theorem latchLaw_setLine {s : State} (hs : LatchLaw s) {l : LineId} {x : TripLine} (hx : x.LatchOk) :
    LatchLaw (s.setLine l x) := by
  intro m
  rw [State.line_setLine]
  split
  · exact hx
  · exact hs m

theorem lines_of_fixed {s u : State} (h : u.fixed = s.fixed) : u.lines = s.lines := congrArg Fixed.lines h

theorem TripLine.countSample_latchOk {ln : TripLine} (h : ln.LatchOk) (level : Level) : (ln.countSample level).LatchOk := by
  rw [TripLine.countSample_eq]
  exact h

theorem TripLine.sampled_latchOk {ln : TripLine} (h : ln.LatchOk) (level : Level) : (ln.sampled level).LatchOk := by
  unfold TripLine.sampled
  split
  · exact h
  · exact TripLine.countSample_latchOk h level

/-- A line that changes to active with a mask that is not empty latches (R118). -/
theorem TripLine.change_latchOk (ln : TripLine) : ln.change.LatchOk := by
  intro hm hf
  have hm' : (ln.mask != 0) = true := by simpa [TripLine.change] using hm
  have hf' : ln.filtered = false := by simpa [TripLine.change] using hf
  show (ln.latch || (!ln.filtered && ln.mask != 0)) = true
  rw [hf', hm']
  exact Bool.or_true _

theorem latchLaw_judgeSample {s : State} (hs : LatchLaw s) (l : LineId) (level : Level) :
    LatchLaw (s.judgeSample l level) := by
  unfold State.judgeSample
  split
  · exact latchLaw_of_lines (latchLaw_setLine hs (TripLine.change_latchOk _)) (levelChange_lines s l)
  · exact latchLaw_setLine hs (TripLine.countSample_latchOk (hs l) level)

theorem latchLaw_lineStep {s : State} (hs : LatchLaw s) (l : LineId) : LatchLaw (s.lineStep l) := by
  unfold State.lineStep
  split
  · exact hs
  · exact latchLaw_judgeSample hs l _

/-- SET_TRIP leaves the filtered level inactive (R127), and CLEAR_TRIP is refused while it is active (R126). -/
theorem Serves.keeps_latches {s u : State} (h : Serves s u) (hs : LatchLaw s) : LatchLaw u := by
  have keeps : ∀ {v : State}, v.lines = s.lines → LatchLaw v := fun h => latchLaw_of_lines hs h
  cases h with
  | nothing | bind | unbind | setGroup | setPair | setConverter | setToken => exact hs
  | setTrip => exact latchLaw_setLine hs fun _ hf => by cases hf
  | start => rw [foldl_modGroup_eq]; exact hs
  | stop | abort | discard => exact keeps (lines_of_fixed (by simp))
  | clearTrip l _ hl =>
    refine latchLaw_of_lines (latchLaw_setLine (l := l) hs (x := { s.line l with latch := false }) fun _ hf => ?_)
      (foldl_keeps State.lines _ (fun t g => ?_) _ _)
    · rw [hl] at hf; cases hf
    · split <;> rfl
  | finishSample => exact foldl_inv LatchLaw _ (fun t l ht => latchLaw_lineStep ht l) _ _ hs

theorem Effect.keeps_latches {s u : State} (h : Effect s u) (hs : LatchLaw s) : LatchLaw u := by
  have keeps : ∀ {v : State}, v.lines = s.lines → LatchLaw v := fun h => latchLaw_of_lines hs h
  cases h with
  | powerOn =>
    intro l
    have hline : State.reset.line l = {} := by revert l; decide
    show (State.reset.line l).LatchOk
    rw [hline]
    exact fun h => absurd rfl h
  | readOk | readError =>
    refine keeps ?_
    unfold State.readAnswered
    dsimp only
    split
    · split
      · exact (lines_of_fixed ((State.fixed_pump _).trans (State.fixed_faultGroup _ _))).trans rfl
      · rfl
    · rfl
  | tick | boundary | resume | fire | converterTick | conversionEnd => exact keeps (lines_of_fixed (by simp))
  | issueWord =>
    refine keeps ?_
    unfold State.issueWord
    split
    · rfl
    · split <;> rfl
  | countWord | faultWord =>
    refine keeps ?_
    unfold State.resultAnswered
    split
    · rfl
    · refine lines_of_fixed (s := s.wordAnswered) ?_
      rw [State.fixed_pump]
      split <;> simp
  | issueEntry v => cases v <;> exact hs
  | sample pins =>
    intro l
    rw [sampled_line]
    exact TripLine.sampled_latchOk (hs l) _
  | judge => exact latchLaw_judgeSample hs _ _
  | command _ _ _ _ _ _ hu => exact hu.keeps_latches hs
  | controllerReset | window | ringcfg | started | groupTail | adminTail | release | fetch | expiry | leave | notice
  | commandRead | commandError | entryOk | entryError => exact hs

/-! ## O6 -/

/-- Settles O6: by the effects, each of which takes its token requests whole and latches what it makes active. -/
theorem everyStepKeepsTokenCountsAndLatches : Obligations.EveryStepKeepsTokenCountsAndLatches := by
  unfold Obligations.EveryStepKeepsTokenCountsAndLatches
  constructor
  · intro s t hs h
    exact step_keeps_of_effects (fun s => TokOk s.tokens) (fun _ _ h => h) (fun _ _ h => h) (fun _ _ h => h)
      (fun _ h => h) (fun _ _ hs hu => hu.keeps_tokens hs) (fun _ h => h) hs h
  · intro s t hs h
    exact step_keeps_of_effects LatchLaw (fun _ _ h => h) (fun _ _ h => h) (fun _ _ h => h)
      (fun _ h => h) (fun _ _ hs hu => hu.keeps_latches hs) (fun _ h => h) hs h

/-! ## The pair units -/

theorem pairLaw_of_pairs {s u : State} (hs : PairLaw s) (h : u.pairs = s.pairs) : PairLaw u := by
  intro p
  rw [State.pair, h]
  exact hs p

theorem pairLaw_setPair {s : State} (hs : PairLaw s) {p : PairId} {u : PairUnit} (hu : u.Law) : PairLaw (s.setPair p u) := by
  intro q
  rw [State.pair_setPair]
  split
  · exact hu
  · exact hs q

theorem PairUnit.Law.quiet {u : PairUnit} (h : u.Law) : u.quiet.Law := by
  obtain ⟨hidle, hsafe, -⟩ := h
  exact ⟨hidle, hsafe, fun _ => ⟨nofun, nofun⟩⟩

/-- Settling changes the pins, or clears the working state first (R59). -/
theorem pairLaw_settle {s : State} (hs : PairLaw s) : PairLaw s.settle := by
  intro p
  rw [State.settle_pair]
  unfold State.settledPair
  dsimp only
  split
  · exact hs p
  · exact (hs p).quiet

/-- An output whose tick leaves it active has an active source (R54). -/
theorem OutState.tick_delayed {t : Nat} {was now : Bool} {o : OutState} (h : o.delayed = true → was = true)
    (hd : (o.tick t was now).delayed = true) : now = true := by
  cases was <;> cases now
  case false.false => exact absurd (h hd) (by decide)
  case true.false => cases hd
  all_goals rfl

theorem PairUnit.Law.tick {u : PairUnit} (h : u.Law) (now : Bool) : (u.tick now).Law := by
  obtain ⟨hidle, hsafe, hsource⟩ := h
  unfold PairUnit.tick
  split
  · next hd =>
    obtain ⟨hp, hn⟩ := hsource hd
    refine ⟨hidle, hsafe, fun _ => ⟨OutState.tick_delayed hp, fun hdel => ?_⟩⟩
    simpa using OutState.tick_delayed (was := !u.raw) (by simpa using hn) hdel
  · next hd => exact ⟨hidle, hsafe, fun h => absurd h hd⟩

theorem PairUnit.Law.enter {u : PairUnit} (h : u.Law) (now : Bool) : (u.enter now).Law := by
  obtain ⟨hidle, hsafe, -⟩ := h
  unfold PairUnit.enter
  split
  · refine ⟨hidle, hsafe, fun _ => ?_⟩
    cases now
    · exact ⟨nofun, fun _ => rfl⟩
    · exact ⟨fun _ => rfl, nofun⟩
  · next hd => exact ⟨hidle, hsafe, fun h => absurd h hd⟩

theorem pairLaw_tickOutputs {s : State} (hs : PairLaw s) (g : GroupId) : PairLaw (s.tickOutputs g) := by
  intro p
  rw [State.tickOutputs_pair]
  split
  · exact (hs p).tick _
  · exact hs p

theorem pairLaw_enterOutputs {s : State} (hs : PairLaw s) (g : GroupId) : PairLaw (s.enterOutputs g) := by
  intro p
  rw [State.enterOutputs_pair]
  split
  · exact (hs p).enter _
  · exact hs p

/-- An expired dead time makes an output active whose source is (R54). -/
theorem pairLaw_expire {s : State} (hs : PairLaw s) {p : PairId} {o : Output} (h : s.expiryDue p o = true) :
    PairLaw (s.setPair p ((s.pair p).expire o)) := by
  obtain ⟨hidle, hsafe, hlaw⟩ := hs p
  simp only [State.expiryDue, Bool.and_eq_true] at h
  have hsource := h.1.1.2
  refine pairLaw_setPair hs ?_
  cases o with
  | p => exact ⟨hidle, hsafe, fun hd => ⟨fun _ => hsource, (hlaw hd).2⟩⟩
  | n => exact ⟨hidle, hsafe, fun hd => ⟨(hlaw hd).1, fun _ => (Bool.not_eq_true' _).mp hsource⟩⟩

theorem pairLaw_enter_triggers {s : State} (hs : PairLaw s) (g : GroupId) :
    PairLaw ((s.enterOutputs g).triggers g) :=
  pairLaw_of_pairs (pairLaw_enterOutputs hs g) (State.pairs_triggers _ g)

theorem pairLaw_tick_triggers {s : State} (hs : PairLaw s) (g : GroupId) :
    PairLaw ((s.tickOutputs g).triggers g) :=
  pairLaw_of_pairs (pairLaw_tickOutputs hs g) (State.pairs_triggers _ g)

theorem pairLaw_stepTick {s : State} (hs : PairLaw s) (g : GroupId) : PairLaw (s.stepTick g) := by
  unfold State.stepTick
  split
  · exact hs
  · split
    · exact pairLaw_tick_triggers (pairLaw_of_pairs hs (by rfl)) g
    · exact hs

theorem pairLaw_periodBoundary {s : State} (hs : PairLaw s) (g : GroupId) : PairLaw (s.periodBoundary g) := by
  unfold State.periodBoundary
  split
  · exact hs
  · next e _ =>
    have hb : PairLaw ((s.markTick g).boundary g e) := pairLaw_of_pairs hs (by simp)
    refine pairLaw_of_pairs (s := State.afterBoundary _ _) ?_ (State.pairs_pump _)
    unfold State.afterBoundary
    split
    · exact pairLaw_tick_triggers hb g
    · exact hb

theorem pairLaw_resume {s : State} (hs : PairLaw s) (g : GroupId) : PairLaw (s.resume g) := by
  unfold State.resume
  split
  · exact hs
  · dsimp only
    split
    · exact hs
    · exact pairLaw_enter_triggers (pairLaw_of_pairs hs (by rfl)) g

theorem pairLaw_fireMember {s : State} (hs : PairLaw s) (posters : List (GroupId × Bool)) (g : GroupId) :
    PairLaw (State.fireMember posters s g) := by
  unfold State.fireMember
  split
  · exact hs
  · dsimp only
    exact pairLaw_enter_triggers (pairLaw_of_pairs hs (by rfl)) g

theorem pairLaw_fireSet {s : State} (hs : PairLaw s) (g : GroupId) : PairLaw (s.fireSet g) := by
  unfold State.fireSet
  split
  · exact hs
  · split
    · exact hs
    · exact foldl_inv PairLaw _ (fun t m ht => pairLaw_fireMember ht _ m) _ _ hs

theorem pairLaw_judgeSample {s : State} (hs : PairLaw s) (l : LineId) (level : Level) :
    PairLaw (s.judgeSample l level) := by
  unfold State.judgeSample
  split
  · exact pairLaw_of_pairs hs (pairs_levelChange s l)
  · exact hs

theorem pairLaw_lineStep {s : State} (hs : PairLaw s) (l : LineId) : PairLaw (s.lineStep l) := by
  unfold State.lineStep
  split
  · exact hs
  · exact pairLaw_settle (pairLaw_judgeSample hs l _)

/-- SET_PAIR takes no levels that make both outputs active (R57, R63). -/
theorem Serves.keeps_pairLaw {s u : State} (h : Serves s u) (hs : PairLaw s) : PairLaw u := by
  have keeps : ∀ {v : State}, v.pairs = s.pairs → PairLaw v := fun h => pairLaw_of_pairs hs h
  cases h with
  | nothing | bind | unbind | setGroup | setConverter | setTrip | setToken => exact hs
  | setPair c _ hidle hsafe => exact pairLaw_setPair hs ⟨hidle, hsafe, fun _ => ⟨nofun, nofun⟩⟩
  | start => rw [foldl_modGroup_eq]; exact hs
  | stop | abort | discard => exact keeps (by simp)
  | clearTrip =>
    refine keeps ((foldl_keeps State.pairs _ (fun t g => ?_) _ _).trans rfl)
    split <;> rfl
  | finishSample => exact foldl_inv PairLaw _ (fun t l ht => pairLaw_lineStep ht l) _ _ hs

theorem pairLaw_reset : PairLaw State.reset := by
  intro p
  have hpair : State.reset.pair p = {} := by revert p; decide
  rw [hpair]
  exact ⟨rfl, rfl, fun _ => ⟨nofun, nofun⟩⟩

theorem Effect.keeps_pairLaw {s u : State} (h : Effect s u) (hs : PairLaw s) : PairLaw u := by
  have keeps : ∀ {v : State}, v.pairs = s.pairs → PairLaw v := fun h => pairLaw_of_pairs hs h
  cases h with
  | powerOn | controllerReset => exact pairLaw_reset
  | readOk | readError =>
    refine keeps ?_
    unfold State.readAnswered
    dsimp only
    split
    · split <;> simp
    · rfl
  | tick g => exact pairLaw_stepTick (s := s.markTick g) hs g
  | boundary => exact pairLaw_periodBoundary hs _
  | resume g => exact pairLaw_resume (s := s.markTick g) hs g
  | fire => exact pairLaw_fireSet hs _
  | expiry p o _ h => exact pairLaw_expire hs h
  | converterTick | conversionEnd => exact keeps (by simp)
  | issueWord =>
    refine keeps ?_
    unfold State.issueWord
    split
    · rfl
    · split <;> rfl
  | countWord | faultWord =>
    refine keeps ?_
    unfold State.resultAnswered
    split
    · rfl
    · rw [State.pairs_pump]
      split
      · rfl
      · simp; rfl
  | issueEntry v => cases v <;> exact hs
  | judge => exact pairLaw_judgeSample hs _ _
  | command _ _ _ _ _ _ hu => exact hu.keeps_pairLaw hs
  | window | ringcfg | started | groupTail | adminTail | release | fetch | leave | notice | commandRead
  | commandError | entryOk | entryError | sample => exact hs

/-! ## O12 -/

/-- Settles O12: every tick, entry and expiry of a pair keeps its active outputs behind their sources. -/
theorem everyStepKeepsOutputsBehindTheirSources : Obligations.EveryStepKeepsOutputsBehindTheirSources := by
  unfold Obligations.EveryStepKeepsOutputsBehindTheirSources
  intro s t hs h
  exact step_keeps_of_effects PairLaw (fun _ _ h => h) (fun _ _ h => h) (fun _ _ h => h)
    (fun _ h => pairLaw_settle h) (fun _ _ hs hu => hu.keeps_pairLaw hs) (fun _ h => h) hs h

end Sys2Proof.Machine
end

section
/-! PROOF. The moves of a group: each change that one happening, or one part of it, makes to a group's state, ring and
window. The laws of a group are proved once for every move. -/

namespace Sys2Proof.Machine

/-! ## Changes of a window -/

/-- Only counts, flags and bytes differ. -/
abbrev Entry.Alike (e f : Entry) : Prop := f.slot = e.slot ∧ f.st = e.st ∧ f.status = e.status

/-- An entry after its group has been cleared out: RETIRING with the status it is reported with (R33, R40, R122). -/
abbrev Entry.ClearedBy (ending : SegStatus) (e f : Entry) : Prop :=
  f.slot = e.slot ∧ f.st = .retiring
    ∧ f.status = if e.st = .active then some ending else if e.st = .ready then some .aborted else e.status

/-- Every entry but a FETCHING one. -/
def Group.unfetched (x : Group) : List Entry := x.window.filter fun e => e.st != .fetching

/-- Only counts, flags, notices, the queue and the clocking of a group differ; without an ACTIVE record its counter
stays at 0 and its slope UP. -/
structure Group.Alike (x y : Group) : Prop where
  state : y.state = x.state
  pending : y.pendingStop = x.pendingStop
  ring : y.ring = x.ring
  window : List.Forall₂ Entry.Alike x.window y.window
  counter : x.activeCount = 0 → x.counter = 0 ∧ x.slope = .up → y.counter = 0 ∧ y.slope = .up

/-- A group whose records are all retired, its FETCHING entry cancelled and its counter held. -/
structure Group.ClearedBy (ending : SegStatus) (x y : Group) : Prop where
  window : List.Forall₂ (Entry.ClearedBy ending) x.unfetched y.window
  ring : y.ring = x.cancelFetch.ring
  counter : y.counter = 0 ∧ y.slope = .up
  pending : y.pendingStop = .noStop

/-- What settles a FETCHING entry (R8, R9). -/
structure SettlesFetch (f : Entry → Entry) : Prop where
  slot : ∀ e, (f e).slot = e.slot
  outcome : ∀ e, ((f e).st = .ready ∧ (f e).status = none)
    ∨ ((f e).st = .bad ∧ ((f e).status = some .malformed ∨ (f e).status = some .fetchError))

/-! ## The moves -/

/-- A group's fetcher may read (R23). -/
structure Group.MayFetch (x : Group) : Prop where
  state : x.state.fetches = true
  length : x.window.length < 6
  none : ∀ e ∈ x.window, e.st ≠ .fetching
  span : x.ring.span < x.ring.size
  available : 0 < x.ring.available

/-- The moves of a group, but for the beginning of a read. Level 0 leaves who is ARMED, TRIPPED or UNBOUND as it is, level 1 may move groups in and
out of ARMED, level 2 does the rest. `armedOnly` says that a set fires ARMED groups only. -/
inductive Group.Move (armedOnly : Prop) (n : Nat) : Group → Group → Prop where
  | alike {x y : Group} (h : x.Alike y) : Move armedOnly n x y
  | settleFetch (f : Entry → Entry) (hf : SettlesFetch f) (x : Group) : Move armedOnly n x (x.settleFetch f)
  | retireSlot (e : Entry) (x : Group) (he : e ∈ x.window) (hd : e.st = .draining) :
      Move armedOnly n x (x.modSlot e.slot fun e => { e with st := .retiring })
  | finishStop (x : Group) : Move armedOnly n x x.finishStop
  | takeover (slot : Nat) (endSat startSat : Bool) (e : Entry) (x : Group) (hst : x.state = .running)
      (he : x.next? = some e) (hr : e.st = .ready) :
      Move armedOnly n x
        (((x.endActive .ok).modSlot slot (Entry.saturate endSat)).beginRecord e.slot startSat)
  | starve (x : Group) (hst : x.state = .running) :
      Move armedOnly n x ({ (x.endActive .ok).holdCounter with state := .starved }.notify .starved)
  | resume (sat : Bool) (e : Entry) (x : Group) (hst : x.state = .starved) (he : x.next? = some e) (hr : e.st = .ready) :
      Move armedOnly n x (x.beginRecord e.slot sat)
  | fire (sat : Bool) (e : Entry) (x : Group) (hn : 1 ≤ n) (hst : armedOnly → x.state = .armed)
      (he : x.window.head? = some e) (hr : e.st = .ready) :
      Move armedOnly n x ({ x.beginRecord e.slot sat with presc := 0 }.notify .started)
  | stopEnding (status : SegStatus) (hs : status = .ok ∨ status = .cut) (x : Group) (hst : x.state = .stopping) :
      Move armedOnly n x { (x.endActive status).retireWaiting.holdCounter with pendingStop := .noStop }
  | stopRunning (mode : StopMode) (x : Group) (hst : x.state = .running) : Move armedOnly n x (x.stopRunning mode)
  | stopStarved (x : Group) (hst : x.state = .starved) :
      Move armedOnly n x { x.cancelFetch.retireWaiting with state := .stopping }
  | disarm (x : Group) (hn : 1 ≤ n) (hst : x.state = .armed) :
      Move armedOnly n x { x.cancelFetch.retireWaiting with state := .stopped }
  | clear {ending : SegStatus} {x y : Group} (h : x.ClearedBy ending y) (hy : y.state.atRest = true)
      (hx : x.state ≠ .unbound) (hy' : y.state ≠ .unbound) (harmed : x.state = .armed → 1 ≤ n)
      (htrip : (y.state = .tripped ↔ x.state = .tripped) ∨ 2 ≤ n) : Move armedOnly n x y
  | rest (state : GroupState) (x : Group) (hn : 2 ≤ n) (hx : x.state.atRest = true) (hx' : x.state ≠ .unbound)
      (hy : state.atRest = true) (hy' : state ≠ .unbound) : Move armedOnly n x { x with state := state }
  | discard (x : Group) (hst : x.state = .stopped ∨ x.state = .tripped) : Move armedOnly n x x.discard
  | leave (g : GroupId) (e : Entry) (rest : List Entry) (x : Group) (hw : x.window = e :: rest) (hr : e.st = .retiring) :
      Move armedOnly n x (x.leave g)
  | tail (i : Nat) (x : Group) (hi : i < x.ring.size)
      (ha : ¬(0 < ringCount x.ring.size x.ring.retire i ∧ ringCount x.ring.size x.ring.retire i < x.ring.span)) :
      Move armedOnly n x { x with ring := { x.ring with tail := i } }
  | arm (x : Group) (hn : 1 ≤ n) (hst : x.state = .stopped) (hw : x.window = []) :
      Move armedOnly n x { x with state := .armed }
  | bind (ring : Ring) (state : GroupState) (x : Group) (hn : x.state = .unbound → 2 ≤ n)
      (hring : 0 < ring.size ∧ ring.tail = 0 ∧ ring.fetch = 0 ∧ ring.retire = 0 ∧ ring.span = 0)
      (hst : (x.state = .unbound ∧ (state = .stopped ∨ state = .tripped))
        ∨ (x.state = .stopped ∧ x.window = [] ∧ state = .stopped)) :
      Move armedOnly n x { x with ring := ring, state := state }
  | unbind (x : Group) (hn : 2 ≤ n) (hst : x.state = .stopped) (hw : x.window = []) : Move armedOnly n x x.unbind
  | reset (x : Group) (hn : 2 ≤ n) : Move armedOnly n x {}

/-- The moves of a group in one happening. -/
abbrev Group.Moves (armedOnly : Prop) (n : Nat) : Group → Group → Prop := Relation.ReflTransGen (Group.Move armedOnly n)

/-- What one step does to a group: it begins a read, or moves. -/
inductive Group.Turn (armedOnly : Prop) : Group → Group → Prop where
  | fetch (x : Group) (h : x.MayFetch) : Turn armedOnly x x.beginFetch
  | moves {x y : Group} (h : Group.Moves armedOnly 2 x y) : Turn armedOnly x y

/-! ## Window changes entry by entry -/

section Windows

variable {x y : Group}

/-- A window after each of its entries is changed. -/
theorem forall₂_map {R : Entry → Entry → Prop} {f : Entry → Entry} (l : List Entry) (h : ∀ e ∈ l, R e (f e)) :
    List.Forall₂ R l (l.map f) := by
  rw [List.forall₂_map_right_iff, List.forall₂_same]
  exact h

theorem mem_of_forall₂ {R : Entry → Entry → Prop} {l m : List Entry} (h : List.Forall₂ R l m) {f : Entry} (hf : f ∈ m) :
    ∃ e ∈ l, R e f := by
  induction h with
  | nil => cases hf
  | cons hab _ ih =>
    rcases List.mem_cons.1 hf with rfl | hf
    · exact ⟨_, List.mem_cons_self .., hab⟩
    · obtain ⟨e, he, hr⟩ := ih hf
      exact ⟨e, List.mem_cons_of_mem _ he, hr⟩

/-- A window of as many entries in the same slots, in which no entry is FETCHING anew. -/
abbrev Entry.Recast (e f : Entry) : Prop := f.slot = e.slot ∧ (f.st = .fetching → e.st = .fetching)

theorem slots_of_recast {l m : List Entry} (h : List.Forall₂ Entry.Recast l m) : m.map Entry.slot = l.map Entry.slot := by
  induction h with
  | nil => rfl
  | cons hab _ ih => rw [List.map_cons, List.map_cons, hab.1, ih]

theorem Entry.Alike.recast {e f : Entry} (h : e.Alike f) : e.Recast f := ⟨h.1, fun hf => h.2.1 ▸ hf⟩

theorem Group.Alike.recast (h : x.Alike y) : List.Forall₂ Entry.Recast x.window y.window :=
  h.window.imp fun _ _ => Entry.Alike.recast

theorem Group.ClearedBy.recast {ending : SegStatus} (h : x.ClearedBy ending y) :
    List.Forall₂ Entry.Recast x.unfetched y.window :=
  h.window.imp fun _ _ hef => ⟨hef.1, fun hf => by rw [hef.2.1] at hf; cases hf⟩

theorem settleFetch_recast {f : Entry → Entry} (hf : SettlesFetch f) (x : Group) :
    List.Forall₂ Entry.Recast x.window (x.settleFetch f).window := by
  refine forall₂_map _ fun e _ => ?_
  split
  · next he => exact ⟨hf.slot e, fun _ => by simpa using he⟩
  · exact ⟨rfl, id⟩

/-- The end of the ACTIVE record, entry by entry (R13). -/
theorem endActive_recast (status : SegStatus) (x : Group) :
    List.Forall₂ Entry.Recast x.window (x.endActive status).window := by
  refine forall₂_map _ fun e _ => ?_
  split
  · exact ⟨rfl, fun h => by cases h⟩
  · exact ⟨rfl, id⟩

theorem retireWaiting_recast (x : Group) : List.Forall₂ Entry.Recast x.window x.retireWaiting.window := by
  refine forall₂_map _ fun e _ => ?_
  split
  · exact ⟨rfl, fun h => by cases h⟩
  · exact ⟨rfl, fun h => by cases h⟩
  · exact ⟨rfl, id⟩

theorem modSlot_recast (slot : Nat) {f : Entry → Entry} (hf : ∀ e : Entry, e.Recast (f e)) (x : Group) :
    List.Forall₂ Entry.Recast x.window (x.modSlot slot f).window := by
  refine forall₂_map _ fun e _ => ?_
  split
  · exact hf e
  · exact ⟨rfl, id⟩

theorem recast_trans {k l m : List Entry} (h : List.Forall₂ Entry.Recast k l) (h' : List.Forall₂ Entry.Recast l m) :
    List.Forall₂ Entry.Recast k m := by
  induction h generalizing m with
  | nil => exact h'
  | cons hab _ ih =>
    cases h' with
    | cons hbc t => exact .cons ⟨hbc.1.trans hab.1, fun h => hab.2 (hbc.2 h)⟩ (ih t)

theorem beginRecord_recast (slot : Nat) (sat : Bool) (x : Group) :
    List.Forall₂ Entry.Recast x.window (x.beginRecord slot sat).window :=
  modSlot_recast slot (f := Entry.activate sat) (fun _ => ⟨rfl, nofun⟩) x

theorem Group.window_cancelFetch (x : Group) : x.cancelFetch.window = x.unfetched := by
  unfold Group.cancelFetch
  split
  · rfl
  · next h =>
    simp only [Group.hasFetching, List.any_eq_true, beq_iff_eq, not_exists, not_and] at h
    exact (List.filter_eq_self.2 fun e he => by simpa using h e he).symm

/-- The window of a stop that takes effect at once (R36 to R38): no FETCHING entry is left. -/
theorem stopRunning_recast (mode : StopMode) (x : Group) :
    List.Forall₂ Entry.Recast x.unfetched (x.stopRunning mode).window := by
  rw [← x.window_cancelFetch]
  cases mode with
  | periodEnd | segmentEnd => exact List.forall₂_same.2 fun _ _ => ⟨rfl, id⟩
  | now => exact recast_trans (endActive_recast .cut x.cancelFetch) (retireWaiting_recast _)

theorem cancelAndRetire_recast (x : Group) :
    List.Forall₂ Entry.Recast x.unfetched x.cancelFetch.retireWaiting.window := by
  rw [← x.window_cancelFetch]
  exact retireWaiting_recast _

theorem takeover_recast (status : SegStatus) (slot slot' : Nat) (sat sat' : Bool) (x : Group) :
    List.Forall₂ Entry.Recast x.window
      (((x.endActive status).modSlot slot (Entry.saturate sat)).beginRecord slot' sat').window :=
  recast_trans (endActive_recast status x)
    (recast_trans (modSlot_recast slot (f := Entry.saturate sat) (fun _ => ⟨rfl, id⟩) _) (beginRecord_recast slot' sat' _))

end Windows

end Sys2Proof.Machine
end

section
/-! PROOF. What every move of a group keeps: the laws of its resting window, of its bounds, and of its ring. -/

namespace Sys2Proof.Machine

variable {A : Prop} {n : Nat} {x y : Group}

/-! ## The twelfth law -/

theorem GroupState.fetches_spans {st : GroupState} (h : st.fetches = true) : st.spansWindow = true := by
  cases st with
  | armed | running | starved => rfl
  | unbound | stopped | stopping | tripped | faulted => cases h

theorem GroupState.not_fetches_of_atRest {st : GroupState} (h : st.atRest = true) :
    st.fetches = false ∧ st.spansWindow = false := by
  cases st with
  | unbound | stopped | tripped | faulted => exact ⟨rfl, rfl⟩
  | armed | running | starved | stopping => cases h

theorem mem_unfetched {e : Entry} : e ∈ x.unfetched ↔ e ∈ x.window ∧ e.st ≠ .fetching := by
  simp [Group.unfetched]

/-- READY and BAD records that are retired are RETIRING. -/
theorem retiring_of_waiting {f : Entry} (hx : ∀ e ∈ x.window, e.isWaiting = true) (hf : f ∈ x.cancelFetch.retireWaiting.window) :
    f.st = .retiring := by
  unfold Group.retireWaiting at hf
  rw [x.window_cancelFetch] at hf
  obtain ⟨e, he, rfl⟩ := List.mem_map.1 hf
  obtain ⟨hmem, hne⟩ := mem_unfetched.1 he
  have hw := hx e hmem
  split
  · rfl
  · rfl
  · next h1 h2 =>
    simp only [Entry.isWaiting, Bool.or_eq_true, beq_iff_eq] at hw
    rcases hw with (h | h) | h
    · exact absurd h h1
    · exact absurd h h2
    · exact absurd h hne

theorem Group.restLaw_of_active (h : y.state.atRest = false) (h' : y.state ≠ .armed) : y.RestLaw :=
  ⟨fun hr => absurd hr (by simp [h]), fun ha => absurd ha h'⟩

theorem Group.restLaw_of_retiring (h : ∀ e ∈ y.window, e.st = .retiring) (h' : y.state ≠ .armed) : y.RestLaw :=
  ⟨fun _ => h, fun ha => absurd ha h'⟩

/-- A resting window without entries rests in every state. -/
theorem Group.restLaw_of_nil (h : y.window = []) : y.RestLaw := by
  constructor <;> simp [h]

theorem Group.restLaw_of_sublist (hx : x.RestLaw) (hst : y.state = x.state) (hw : ∀ e ∈ y.window, e ∈ x.window) :
    y.RestLaw :=
  ⟨fun h e he => hx.1 (hst ▸ h) e (hw e he), fun h e he => hx.2 (hst ▸ h) e (hw e he)⟩

theorem Group.MayFetch.keeps_rest (h : x.MayFetch) (hx : x.RestLaw) : x.beginFetch.RestLaw := by
  refine ⟨fun hr => ?_, fun ha e he => ?_⟩
  · exact absurd h.state (by simp [(GroupState.not_fetches_of_atRest (st := x.state) hr).1])
  · rcases List.mem_append.1 he with he | he
    · exact hx.2 ha e he
    · rw [List.mem_singleton.1 he]; rfl

/-- Every move keeps the twelfth law, also where a set fires groups that are not ARMED. -/
theorem Group.Move.keeps_rest (h : Group.Move A n x y) (hx : x.RestLaw) : y.RestLaw := by
  obtain ⟨hrest, harmed⟩ := hx
  cases h with
  | alike h =>
    have same : ∀ f ∈ y.window, ∃ e ∈ x.window, f.st = e.st := fun f hf => by
      obtain ⟨e, he, hef⟩ := mem_of_forall₂ h.window hf
      exact ⟨e, he, hef.2.1⟩
    refine ⟨fun hst f hf => ?_, fun hst f hf => ?_⟩
    · obtain ⟨e, he, hef⟩ := same f hf
      rw [hef]
      exact hrest (h.state ▸ hst) e he
    · obtain ⟨e, he, hef⟩ := same f hf
      rw [Entry.isWaiting, hef]
      exact harmed (h.state ▸ hst) e he
  | settleFetch f hf =>
    refine ⟨fun h e he => ?_, fun h e he => ?_⟩
    · obtain ⟨e', he', rfl⟩ := List.mem_map.1 he
      have hr := hrest h e' he'
      rw [if_neg (by simp [hr])]
      exact hr
    · obtain ⟨e', he', rfl⟩ := List.mem_map.1 he
      split
      · rcases hf.outcome e' with ⟨h, -⟩ | ⟨h, -⟩ <;> simp [Entry.isWaiting, h]
      · exact harmed h e' he'
  | retireSlot e _ he hd =>
    refine ⟨fun h => ?_, fun h => ?_⟩
    · exact absurd (hrest h e he) (by simp [hd])
    · exact absurd (harmed h e he) (by simp [Entry.isWaiting, hd])
  | finishStop =>
    unfold Group.finishStop
    split
    · next h =>
      simp only [Bool.and_eq_true, Group.allRetiring, List.all_eq_true, beq_iff_eq] at h
      exact Group.restLaw_of_retiring h.2 (by simp [Group.notify])
    · exact ⟨hrest, harmed⟩
  | takeover | starve | resume | fire => exact Group.restLaw_of_active rfl nofun
  | stopEnding _ _ _ hst => exact Group.restLaw_of_active (by simp [Group.holdCounter, Group.retireWaiting, Group.endActive, hst, GroupState.atRest]) (by simp [Group.holdCounter, Group.retireWaiting, Group.endActive, hst])
  | stopRunning mode => cases mode <;> exact Group.restLaw_of_active rfl nofun
  | stopStarved => exact Group.restLaw_of_active rfl nofun
  | disarm _ _ hst => exact Group.restLaw_of_retiring (fun f hf => retiring_of_waiting (harmed hst) hf) nofun
  | clear h hy =>
    refine Group.restLaw_of_retiring (fun f hf => ?_) fun ha => ?_
    · obtain ⟨e, -, hef⟩ := mem_of_forall₂ h.window hf
      exact hef.2.1
    · rw [ha] at hy; cases hy
  | rest state _ _ hx _ hy => exact Group.restLaw_of_retiring (hrest hx) fun ha => by rw [show state = _ from ha] at hy; cases hy
  | discard =>
    refine Group.restLaw_of_sublist ⟨hrest, harmed⟩ ?_ fun e he => ?_
    · unfold Group.discard; dsimp only; split <;> rfl
    · unfold Group.discard at he; dsimp only at he; split at he <;> exact he
  | leave g e rest _ hw =>
    have heq := Group.leave_eq (g := g) hw
    refine Group.restLaw_of_sublist ⟨hrest, harmed⟩ (by rw [heq]) fun f hf => ?_
    rw [heq] at hf
    rw [hw]
    exact List.mem_cons_of_mem _ hf
  | tail => exact ⟨hrest, harmed⟩
  | arm _ _ _ hw => exact Group.restLaw_of_nil hw
  | bind ring state _ _ _ hst =>
    rcases hst with ⟨hst, h⟩ | ⟨-, hw, -⟩
    · refine Group.restLaw_of_retiring (hrest (by rw [hst]; rfl)) fun ha => ?_
      rcases h with h | h <;> rw [show state = _ from ha] at h <;> cases h
    · exact Group.restLaw_of_nil hw
  | unbind _ _ _ hw => exact Group.restLaw_of_nil hw
  | reset => exact Group.restLaw_of_nil rfl

/-! ## The bounds of a window -/

/-- At most six entries, of which at most one is FETCHING (R10). -/
abbrev Group.BoundLaw (x : Group) : Prop := x.window.length ≤ 6 ∧ x.fetchingCount ≤ 1

theorem fetching_length_le_of_recast {l m : List Entry} (h : List.Forall₂ Entry.Recast l m) :
    (m.filter fun e => e.st == .fetching).length ≤ (l.filter fun e => e.st == .fetching).length := by
  induction h with
  | nil => exact Nat.le_refl _
  | @cons a b l m hab _ ih =>
    rw [List.filter_cons, List.filter_cons]
    split
    · next hb => rw [if_pos (by simpa using hab.2 (by simpa using hb))]; simpa using ih
    · split
      · exact Nat.le_succ_of_le ih
      · exact ih

theorem Group.BoundLaw.of_sublist {l : List Entry} (hx : x.BoundLaw) (hl : l.Sublist x.window)
    (h : List.Forall₂ Entry.Recast l y.window) : y.BoundLaw :=
  ⟨h.length_eq ▸ hl.length_le.trans hx.1, (fetching_length_le_of_recast h).trans ((hl.filter _).length_le.trans hx.2)⟩

theorem Group.BoundLaw.of_recast (hx : x.BoundLaw) (h : List.Forall₂ Entry.Recast x.window y.window) : y.BoundLaw :=
  hx.of_sublist (List.Sublist.refl _) h

theorem Group.BoundLaw.of_unfetched (hx : x.BoundLaw) (h : List.Forall₂ Entry.Recast x.unfetched y.window) : y.BoundLaw :=
  hx.of_sublist List.filter_sublist h

theorem Group.BoundLaw.of_window (hx : x.BoundLaw) (h : y.window = x.window) : y.BoundLaw := by
  simpa [Group.BoundLaw, Group.fetchingCount, h] using hx

/-- A group reads only into a window of less than six entries without a FETCHING one (R23). -/
theorem Group.MayFetch.keeps_bounds (h : x.MayFetch) : x.beginFetch.BoundLaw := by
  constructor
  · simpa [Group.beginFetch] using h.length
  · have h0 : x.window.filter (fun e => e.st == .fetching) = [] :=
      List.filter_eq_nil_iff.2 fun e he => by simpa using h.none e he
    simp [Group.fetchingCount, Group.beginFetch, h0]

/-- No move lengthens a window or adds a FETCHING entry. -/
theorem Group.Move.keeps_bounds (h : Group.Move A n x y) (hx : x.BoundLaw) : y.BoundLaw := by
  cases h with
  | alike h => exact hx.of_recast h.recast
  | settleFetch f hf => exact hx.of_recast (settleFetch_recast hf x)
  | retireSlot e => exact hx.of_recast (modSlot_recast e.slot (f := fun e => { e with st := .retiring }) (fun _ => ⟨rfl, nofun⟩) x)
  | finishStop => exact hx.of_window (finishStop_window x)
  | takeover slot _ _ e => exact hx.of_recast (takeover_recast .ok slot e.slot _ _ x)
  | starve => exact hx.of_recast (endActive_recast .ok x)
  | resume _ e | fire _ e => exact hx.of_recast (beginRecord_recast e.slot _ x)
  | stopEnding status => exact hx.of_recast (recast_trans (endActive_recast status x) (retireWaiting_recast _))
  | stopRunning mode => exact hx.of_unfetched (stopRunning_recast mode x)
  | stopStarved | disarm => exact hx.of_unfetched (cancelAndRetire_recast x)
  | clear h => exact hx.of_unfetched h.recast
  | discard =>
    refine hx.of_window ?_
    unfold Group.discard
    dsimp only
    split <;> rfl
  | leave g e rest _ hw =>
    refine hx.of_sublist (l := rest) (hw ▸ List.sublist_cons_self ..) ?_
    rw [Group.leave_eq hw]
    exact List.forall₂_same.2 fun _ _ => ⟨rfl, id⟩
  | rest | tail | arm | bind | unbind => exact hx.of_window rfl
  | reset => exact ⟨Nat.zero_le _, Nat.zero_le _⟩

end Sys2Proof.Machine
end

section
/-! PROOF. What every move of a group keeps: the statuses of its entries, their order, and its ACTIVE record. -/

namespace Sys2Proof.Machine

variable {A : Prop} {n : Nat} {x y : Group}

/-! ## The next record -/

/-- The next record is the oldest waiting entry (R29). -/
theorem Group.next?_append {e : Entry} (h : x.next? = some e) :
    ∃ older younger, x.window = older ++ e :: younger ∧ (∀ d ∈ older, d.isWaiting = false) ∧ e.isWaiting = true := by
  unfold Group.next? at h
  split at h
  · next e' hf =>
    split at h
    · cases h
    · obtain rfl := Option.some.inj h
      obtain ⟨hw, older, younger, hl, hn⟩ := List.find?_eq_some_iff_append.1 hf
      exact ⟨older, younger, hl, fun d hd => by simpa using hn d hd, hw⟩
  · cases h

theorem Group.next?_mem {e : Entry} (h : x.next? = some e) : e ∈ x.window := by
  obtain ⟨older, younger, hl, -⟩ := Group.next?_append h
  simp [hl]

/-- The slots of a window are distinct. -/
abbrev Group.SlotsDistinct (x : Group) : Prop := (x.window.map Entry.slot).Nodup

theorem Group.SlotsDistinct.eq (hx : x.SlotsDistinct) {d e : Entry} (hd : d ∈ x.window) (he : e ∈ x.window)
    (h : d.slot = e.slot) : d = e := List.inj_on_of_nodup_map hx hd he h

theorem Group.SlotsDistinct.of_recast (hx : x.SlotsDistinct) (h : List.Forall₂ Entry.Recast x.window y.window) :
    y.SlotsDistinct := by
  rw [Group.SlotsDistinct, slots_of_recast h]
  exact hx

/-! ## Statuses -/

/-- Every entry has the status that its state asks for (R8, R9, R13, R20). -/
abbrev Group.StatusesOk (x : Group) : Prop := ∀ e ∈ x.window, e.StatusLaw

theorem Group.StatusesOk.of_map {f : Entry → Entry} (hx : x.StatusesOk) (hw : y.window = x.window.map f)
    (hf : ∀ e ∈ x.window, e.StatusLaw → (f e).StatusLaw) : y.StatusesOk := by
  intro d hd
  rw [hw] at hd
  obtain ⟨e, he, rfl⟩ := List.mem_map.1 hd
  exact hf e he (hx e he)

theorem Entry.StatusLaw.alike {e f : Entry} (he : e.StatusLaw) (h : e.Alike f) : f.StatusLaw := by
  obtain ⟨-, hst, hs⟩ := h
  rw [Entry.StatusLaw, hst, hs]
  exact he

theorem Entry.statusLaw_of_retiring {f : Entry} (h : f.st = .retiring) (hs : f.status.isSome = true) : f.StatusLaw := by
  simp [Entry.StatusLaw, h, hs]

theorem Entry.statusLaw_of_draining {f : Entry} (h : f.st = .draining) (hs : f.status = some .ok ∨ f.status = some .cut) :
    f.StatusLaw := by
  simp [Entry.StatusLaw, h, hs]

theorem Entry.statusLaw_of_none {f : Entry} (h : f.st = .fetching ∨ f.st = .ready ∨ f.st = .active) (hs : f.status = none) :
    f.StatusLaw := by
  rcases h with h | h | h <;> simp [Entry.StatusLaw, h, hs]

/-- A record that is neither READY, ACTIVE nor FETCHING has a status. -/
theorem Entry.StatusLaw.isSome {e : Entry} (he : e.StatusLaw) (hf : e.st ≠ .fetching) (hr : e.st ≠ .ready)
    (ha : e.st ≠ .active) : e.status.isSome = true := by
  obtain ⟨-, hbad, hdraining, hretiring⟩ := he
  cases hst : e.st with
  | fetching => exact absurd hst hf
  | ready => exact absurd hst hr
  | active => exact absurd hst ha
  | bad => rcases hbad hst with h | h <;> simp [h]
  | draining => rcases hdraining hst with h | h <;> simp [h]
  | retiring => exact hretiring hst

theorem statusesOk_endActive {status : SegStatus} (hs : status = .ok ∨ status = .cut) (hx : x.StatusesOk) :
    (x.endActive status).StatusesOk := by
  refine hx.of_map rfl fun e _ he => ?_
  split
  · exact Entry.statusLaw_of_draining rfl (by simpa using hs)
  · exact he

theorem statusesOk_retireWaiting (hx : x.StatusesOk) : x.retireWaiting.StatusesOk := by
  refine hx.of_map rfl fun e _ he => ?_
  split
  · exact Entry.statusLaw_of_retiring rfl rfl
  · next hb => exact Entry.statusLaw_of_retiring rfl (he.isSome (by simp [hb]) (by simp [hb]) (by simp [hb]))
  · exact he

theorem statusesOk_cancelFetch (hx : x.StatusesOk) : x.cancelFetch.StatusesOk := by
  intro e he
  rw [x.window_cancelFetch] at he
  exact hx e (mem_unfetched.1 he).1

theorem statusesOk_saturate (hx : x.StatusesOk) (slot : Nat) (sat : Bool) :
    (x.modSlot slot (Entry.saturate sat)).StatusesOk := by
  refine hx.of_map rfl fun e _ he => ?_
  split
  · exact he.alike ⟨rfl, rfl, rfl⟩
  · exact he

/-- A READY record that becomes ACTIVE has no status. -/
theorem statusesOk_beginRecord (hd : x.SlotsDistinct) (hx : x.StatusesOk) {e : Entry} (he : e ∈ x.window)
    (hr : e.st = .ready) (sat : Bool) : (x.beginRecord e.slot sat).StatusesOk := by
  refine hx.of_map rfl fun d hmem hs => ?_
  split
  · next hslot =>
    obtain rfl : d = e := hd.eq hmem he (by simpa using hslot)
    exact Entry.statusLaw_of_none (.inr (.inr rfl)) (hs.1 (.inr (.inl hr)))
  · exact hs

/-- The READY record that a takeover begins stands in the window that the ending one leaves. -/
theorem mem_takeover_window {e : Entry} (he : e ∈ x.window) (hr : e.st = .ready) (status : SegStatus) (slot : Nat)
    (sat : Bool) : ∃ d ∈ ((x.endActive status).modSlot slot (Entry.saturate sat)).window,
      d.slot = e.slot ∧ d.st = .ready := by
  have hmem : e ∈ (x.endActive status).window := List.mem_map.2 ⟨e, he, by simp [hr]⟩
  refine ⟨if e.slot == slot then e.saturate sat else e, List.mem_map.2 ⟨e, hmem, rfl⟩, ?_⟩
  split <;> exact ⟨rfl, hr⟩

theorem statusesOk_stopRunning (hx : x.StatusesOk) (mode : StopMode) : (x.stopRunning mode).StatusesOk := by
  cases mode with
  | periodEnd | segmentEnd => exact statusesOk_cancelFetch hx
  | now => exact statusesOk_retireWaiting (statusesOk_endActive (.inr rfl) (statusesOk_cancelFetch hx))

theorem Group.StatusesOk.beginFetch (hx : x.StatusesOk) : x.beginFetch.StatusesOk := by
  intro e he
  rcases List.mem_append.1 he with he | he
  · exact hx e he
  · rw [List.mem_singleton.1 he]
    exact Entry.statusLaw_of_none (.inl rfl) rfl

/-- Every move keeps the statuses of a window of distinct slots. -/
theorem Group.Move.keeps_statuses (h : Group.Move A n x y) (hd : x.SlotsDistinct) (hx : x.StatusesOk) : y.StatusesOk := by
  cases h with
  | alike h =>
    intro f hf
    obtain ⟨e, he, hef⟩ := mem_of_forall₂ h.window hf
    exact (hx e he).alike hef
  | settleFetch f hf =>
    refine hx.of_map rfl fun e _ he => ?_
    split
    · rcases hf.outcome e with ⟨h, h'⟩ | ⟨h, h'⟩
      · exact Entry.statusLaw_of_none (.inr (.inl h)) h'
      · simpa [Entry.StatusLaw, h] using h'
    · exact he
  | retireSlot e _ he hdr =>
    refine hx.of_map rfl fun d hmem hs => ?_
    split
    · next hslot =>
      obtain rfl : d = e := hd.eq hmem he (by simpa using hslot)
      exact Entry.statusLaw_of_retiring rfl (hs.isSome (by simp [hdr]) (by simp [hdr]) (by simp [hdr]))
    · exact hs
  | finishStop => rw [Group.StatusesOk, finishStop_window]; exact hx
  | takeover slot endSat startSat e _ _ he hr =>
    obtain ⟨d, hmem, hslot, hst⟩ := mem_takeover_window (Group.next?_mem he) hr .ok slot endSat
    rw [← hslot]
    refine statusesOk_beginRecord ?_ (statusesOk_saturate (statusesOk_endActive (.inl rfl) hx) slot endSat) hmem hst _
    exact hd.of_recast (recast_trans (endActive_recast .ok x)
      (modSlot_recast slot (f := Entry.saturate endSat) (fun _ => ⟨rfl, id⟩) _))
  | starve => exact statusesOk_endActive (.inl rfl) hx
  | resume sat e _ _ he hr => exact statusesOk_beginRecord hd hx (Group.next?_mem he) hr sat
  | fire sat e _ _ _ he hr => exact statusesOk_beginRecord hd hx (List.mem_of_head? he) hr sat
  | stopEnding status hs => exact statusesOk_retireWaiting (statusesOk_endActive hs hx)
  | stopRunning mode => exact statusesOk_stopRunning hx mode
  | stopStarved | disarm => exact statusesOk_retireWaiting (statusesOk_cancelFetch hx)
  | clear h =>
    intro f hf
    obtain ⟨e, he, -, hst, hs⟩ := mem_of_forall₂ h.window hf
    obtain ⟨hmem, hne⟩ := mem_unfetched.1 he
    refine Entry.statusLaw_of_retiring hst ?_
    rw [hs]
    split
    · rfl
    · split
      · rfl
      · next ha hr => exact (hx e hmem).isSome hne hr ha
  | discard =>
    unfold Group.discard
    dsimp only
    split <;> exact hx
  | leave g e rest _ hw =>
    rw [Group.leave_eq hw]
    intro d hmem
    exact hx d (hw ▸ List.mem_cons_of_mem _ hmem)
  | rest | tail | arm | bind | unbind => exact hx
  | reset => intro e he; cases he

/-! ## The ACTIVE record -/

theorem Group.activeCount_eq_zero_iff : x.activeCount = 0 ↔ ∀ e ∈ x.window, e.st ≠ .active := by
  simp [Group.activeCount, List.filter_eq_nil_iff]

/-- Windows with ACTIVE records in the same places count as many. -/
theorem activeCount_of_forall₂ (h : List.Forall₂ (fun e f : Entry => f.st = .active ↔ e.st = .active) x.window y.window) :
    y.activeCount = x.activeCount := by
  unfold Group.activeCount
  revert h
  generalize x.window = l
  generalize y.window = m
  intro h
  induction h with
  | nil => rfl
  | @cons a b l m hab _ ih =>
    by_cases ha : a.st = .active
    · simp [ha, hab.2 ha, ih]
    · simp [ha, mt hab.1 ha, ih]

/-- The one entry of a slot that becomes ACTIVE is the ACTIVE one. -/
theorem activeCount_beginRecord (hd : x.SlotsDistinct) (h0 : x.activeCount = 0) {e : Entry} (he : e ∈ x.window) (sat : Bool) :
    (x.beginRecord e.slot sat).activeCount = 1 := by
  rw [Group.activeCount_eq_zero_iff] at h0
  show ((x.window.map fun d => if d.slot == e.slot then d.activate sat else d).filter fun d => d.st == .active).length = 1
  unfold Group.SlotsDistinct at hd
  generalize x.window = l at hd h0 he
  induction l with
  | nil => cases he
  | cons a l ih =>
    rw [List.map_cons, List.nodup_cons] at hd
    obtain ⟨hnot, hd⟩ := hd
    have hl := fun d hmem => h0 d (List.mem_cons_of_mem _ hmem)
    rcases List.mem_cons.1 he with rfl | he
    · have hrest : (l.map fun d => if d.slot == e.slot then d.activate sat else d).filter (fun d => d.st == .active) = [] := by
        rw [List.filter_eq_nil_iff]
        intro f hf
        obtain ⟨d, hmem, rfl⟩ := List.mem_map.1 hf
        have hne : d.slot ≠ e.slot := fun h => hnot (h ▸ List.mem_map_of_mem hmem)
        simpa [hne] using hl d hmem
      have hhead : (if e.slot == e.slot then e.activate sat else e) = e.activate sat := if_pos (beq_self_eq_true _)
      rw [List.map_cons, hhead, List.filter_cons, hrest]
      rfl
    · have hne : a.slot ≠ e.slot := fun h => hnot (h ▸ List.mem_map_of_mem he)
      simpa [hne, h0 a (List.mem_cons_self ..)] using ih hd hl he

theorem Group.activeLaw_of_zero (h0 : y.activeCount = 0) (hst : y.state ≠ .running) (hp : y.pendingStop = .noStop)
    (hc : y.counter = 0 ∧ y.slope = .up) : y.ActiveLaw :=
  ⟨fun h => absurd h hst, fun _ => h0 ▸ Nat.zero_le _, fun _ _ => h0, fun h => absurd hp h, fun _ => hc⟩

theorem Group.activeLaw_of_one (h1 : y.activeCount = 1) (hst : y.state = .running) (hp : y.pendingStop = .noStop) : y.ActiveLaw :=
  ⟨fun _ => h1, fun _ => h1.le, fun h => absurd hst h, fun h => absurd hp h, fun h => absurd (h1.symm.trans h) (by decide)⟩

/-- Without a STOPPING group no stop is pending (R21). -/
theorem Group.ActiveLaw.noStop (hx : x.ActiveLaw) (h : x.state ≠ .stopping) : x.pendingStop = .noStop := by
  by_contra hp
  exact h (hx.2.2.2.1 hp).1

theorem Group.ActiveLaw.zero (hx : x.ActiveLaw) (hr : x.state ≠ .running) (hs : x.state ≠ .stopping) : x.activeCount = 0 :=
  hx.2.2.1 hr hs

/-- A group that keeps its count, counter and pending stop outside RUNNING and STOPPING. -/
theorem Group.ActiveLaw.of_quiet (hx : x.ActiveLaw) (hr : x.state ≠ .running) (hs : x.state ≠ .stopping)
    (h0 : y.activeCount = x.activeCount) (hst : y.state ≠ .running) (hp : y.pendingStop = x.pendingStop)
    (hc : y.counter = x.counter ∧ y.slope = x.slope) : y.ActiveLaw := by
  have hz := hx.zero hr hs
  exact Group.activeLaw_of_zero (h0.trans hz) hst (hp.trans (hx.noStop hs)) (hc.1 ▸ hc.2 ▸ hx.2.2.2.2 hz)

/-- A group that keeps its state and its count of ACTIVE records. -/
theorem Group.ActiveLaw.of_same (hx : x.ActiveLaw) (hcount : y.activeCount = x.activeCount) (hst : y.state = x.state)
    (hp : y.pendingStop = x.pendingStop)
    (hc : x.activeCount = 0 → x.counter = 0 ∧ x.slope = .up → y.counter = 0 ∧ y.slope = .up) : y.ActiveLaw := by
  obtain ⟨h1, h2, h3, h4, h5⟩ := hx
  exact ⟨fun h => hcount ▸ h1 (hst ▸ h), fun h => hcount ▸ h2 (hst ▸ h), fun h h' => hcount ▸ h3 (hst ▸ h) (hst ▸ h'),
    fun h => hcount ▸ hst ▸ h4 (hp ▸ h), fun h => hc (hcount ▸ h) (h5 (hcount ▸ h))⟩

theorem endActive_no_active (status : SegStatus) (x : Group) : (x.endActive status).activeCount = 0 := by
  rw [Group.activeCount_eq_zero_iff]
  intro f hf
  obtain ⟨e, -, rfl⟩ := List.mem_map.1 hf
  split
  · nofun
  · next h => simpa using h

theorem retireWaiting_no_active (h : x.activeCount = 0) : x.retireWaiting.activeCount = 0 := by
  rw [Group.activeCount_eq_zero_iff] at h ⊢
  intro f hf
  obtain ⟨e, he, rfl⟩ := List.mem_map.1 hf
  split
  · nofun
  · nofun
  · exact h e he

theorem modSlot_saturate_no_active (h : x.activeCount = 0) (slot : Nat) (sat : Bool) :
    (x.modSlot slot (Entry.saturate sat)).activeCount = 0 := by
  rw [Group.activeCount_eq_zero_iff] at h ⊢
  intro f hf
  obtain ⟨e, he, rfl⟩ := List.mem_map.1 hf
  split <;> exact h e he

theorem Group.activeCount_cancelFetch (x : Group) : x.cancelFetch.activeCount = x.activeCount := by
  unfold Group.activeCount
  rw [x.window_cancelFetch, Group.unfetched, List.filter_filter]
  congr 1
  refine List.filter_congr fun e _ => ?_
  cases e.st <;> rfl

theorem Group.counter_cancelFetch (x : Group) :
    x.cancelFetch.counter = x.counter ∧ x.cancelFetch.slope = x.slope ∧ x.cancelFetch.pendingStop = x.pendingStop := by
  unfold Group.cancelFetch
  split <;> exact ⟨rfl, rfl, rfl⟩

/-- A STARVED or an ARMED group that is stopped has no ACTIVE record (R36). -/
theorem Group.ActiveLaw.cancelAndRetire (hx : x.ActiveLaw) (hr : x.state ≠ .running) (hs : x.state ≠ .stopping)
    {state : GroupState} (hst : state ≠ .running) :
    Group.ActiveLaw { x.cancelFetch.retireWaiting with state := state } := by
  have h0 := hx.zero hr hs
  obtain ⟨hc, hsl, hp⟩ := x.counter_cancelFetch
  refine Group.activeLaw_of_zero (retireWaiting_no_active (x.activeCount_cancelFetch.trans h0)) hst (hp.trans (hx.noStop hs)) ?_
  exact ⟨hc.trans (hx.2.2.2.2 h0).1, hsl.trans (hx.2.2.2.2 h0).2⟩

theorem Group.Alike.activeCount (h : x.Alike y) : y.activeCount = x.activeCount :=
  activeCount_of_forall₂ (h.window.imp fun _ _ hef => by rw [hef.2.1])

theorem Group.ActiveLaw.beginFetch (hx : x.ActiveLaw) : x.beginFetch.ActiveLaw := by
  refine hx.of_same ?_ rfl rfl fun _ => id
  simp [Group.activeCount, Group.beginFetch]

/-- No move puts two entries in one slot. -/
theorem Group.Move.keeps_slots (h : Group.Move A n x y) (hd : x.SlotsDistinct) : y.SlotsDistinct := by
  have hun : ∀ {z : Group}, List.Forall₂ Entry.Recast x.unfetched z.window → z.SlotsDistinct := fun hz => by
    rw [Group.SlotsDistinct, slots_of_recast hz]
    exact hd.sublist (List.filter_sublist.map _)
  cases h with
  | alike h => exact hd.of_recast h.recast
  | settleFetch f hf => exact hd.of_recast (settleFetch_recast hf x)
  | retireSlot e =>
    exact hd.of_recast (modSlot_recast e.slot (f := fun e => { e with st := .retiring }) (fun _ => ⟨rfl, nofun⟩) x)
  | finishStop => rw [Group.SlotsDistinct, finishStop_window]; exact hd
  | takeover slot _ _ e => exact hd.of_recast (takeover_recast .ok slot e.slot _ _ x)
  | starve => exact hd.of_recast (endActive_recast .ok x)
  | resume _ e | fire _ e => exact hd.of_recast (beginRecord_recast e.slot _ x)
  | stopEnding status => exact hd.of_recast (recast_trans (endActive_recast status x) (retireWaiting_recast _))
  | stopRunning mode => exact hun (stopRunning_recast mode x)
  | stopStarved | disarm => exact hun (cancelAndRetire_recast x)
  | clear h => exact hun h.recast
  | discard =>
    unfold Group.discard
    dsimp only
    split <;> exact hd
  | leave g e rest _ hw =>
    rw [Group.leave_eq hw]
    rw [Group.SlotsDistinct, hw, List.map_cons, List.nodup_cons] at hd
    exact hd.2
  | rest | tail | arm | bind | unbind => exact hd
  | reset => exact .nil

/-- Every move of a group with distinct slots keeps the law of its ACTIVE record, where sets fire ARMED groups only. -/
theorem Group.Move.keeps_active (hA : A) (h : Group.Move A n x y) (hd : x.SlotsDistinct) (hx : x.ActiveLaw) :
    y.ActiveLaw := by
  cases h with
  | alike h => exact hx.of_same h.activeCount h.state h.pending h.counter
  | settleFetch f hf =>
    refine hx.of_same (activeCount_of_forall₂ (forall₂_map _ fun e _ => ?_)) rfl rfl fun _ => id
    split
    · next he => rcases hf.outcome e with ⟨h, -⟩ | ⟨h, -⟩ <;> simp_all
    · exact Iff.rfl
  | retireSlot e _ he hdr =>
    refine hx.of_same (activeCount_of_forall₂ (forall₂_map _ fun d hmem => ?_)) rfl rfl fun _ => id
    split
    · next hslot =>
      obtain rfl : d = e := hd.eq hmem he (by simpa using hslot)
      simp [hdr]
    · exact Iff.rfl
  | finishStop =>
    unfold Group.finishStop
    split
    · next h =>
      simp only [Bool.and_eq_true, Group.allRetiring, List.all_eq_true, beq_iff_eq] at h
      have h0 : x.activeCount = 0 := Group.activeCount_eq_zero_iff.2 fun e he => by simp [h.2 e he]
      refine Group.activeLaw_of_zero h0 nofun ?_ (hx.2.2.2.2 h0)
      by_contra hp
      exact absurd (hx.2.2.2.1 hp).2 (by simp [h0])
    · exact hx
  | takeover slot endSat startSat e _ hst he hr =>
    obtain ⟨d, hmem, hslot, -⟩ := mem_takeover_window (Group.next?_mem he) hr .ok slot endSat
    rw [← hslot]
    refine Group.activeLaw_of_one (activeCount_beginRecord ?_ ?_ hmem _) rfl (hx.noStop (by simp [hst]))
    · exact hd.of_recast (recast_trans (endActive_recast .ok x)
        (modSlot_recast slot (f := Entry.saturate endSat) (fun _ => ⟨rfl, id⟩) _))
    · exact modSlot_saturate_no_active (endActive_no_active .ok x) slot endSat
  | starve _ hst => exact Group.activeLaw_of_zero (endActive_no_active .ok x) nofun (hx.noStop (by simp [hst])) ⟨rfl, rfl⟩
  | resume sat e _ hst he =>
    exact Group.activeLaw_of_one
      (activeCount_beginRecord hd (hx.zero (by simp [hst]) (by simp [hst])) (Group.next?_mem he) sat) rfl
      (hx.noStop (by simp [hst]))
  | fire sat e _ _ hst he =>
    have harmed := hst hA
    exact Group.activeLaw_of_one
      (activeCount_beginRecord hd (hx.zero (by simp [harmed]) (by simp [harmed])) (List.mem_of_head? he) sat) rfl
      (hx.noStop (by simp [harmed]))
  | stopEnding status _ _ hst =>
    refine Group.activeLaw_of_zero (retireWaiting_no_active (endActive_no_active status x)) ?_ rfl ⟨rfl, rfl⟩
    exact fun h => absurd (hst.symm.trans h) (by decide)
  | stopRunning mode _ hst =>
    have h1 := hx.1 hst
    cases mode with
    | periodEnd | segmentEnd =>
      have hc : Group.activeCount { x.cancelFetch with state := .stopping } = 1 := x.activeCount_cancelFetch.trans h1
      exact ⟨nofun, fun _ => hc.le, fun _ h => absurd rfl h, fun _ => ⟨rfl, hc⟩,
        fun h => absurd (hc.symm.trans h) (by decide)⟩
    | now =>
      exact Group.activeLaw_of_zero (retireWaiting_no_active (endActive_no_active .cut _)) nofun rfl ⟨rfl, rfl⟩
  | stopStarved _ hst => exact hx.cancelAndRetire (by simp [hst]) (by simp [hst]) nofun
  | disarm _ _ hst => exact hx.cancelAndRetire (by simp [hst]) (by simp [hst]) nofun
  | clear h hy =>
    refine Group.activeLaw_of_zero (Group.activeCount_eq_zero_iff.2 fun f hf => ?_) ?_ h.pending h.counter
    · obtain ⟨e, -, -, hst, -⟩ := mem_of_forall₂ h.window hf
      simp [hst]
    · intro hr
      rw [hr] at hy
      cases hy
  | rest state _ _ hx' _ hy =>
    refine hx.of_quiet ?_ ?_ rfl ?_ rfl ⟨rfl, rfl⟩
    · intro h; rw [h] at hx'; cases hx'
    · intro h; rw [h] at hx'; cases hx'
    · intro h; rw [show state = _ from h] at hy; cases hy
  | discard _ hst =>
    have hsame : x.discard.window = x.window ∧ x.discard.state = x.state ∧ x.discard.pendingStop = x.pendingStop
        ∧ x.discard.counter = x.counter ∧ x.discard.slope = x.slope := by
      unfold Group.discard
      dsimp only
      split <;> exact ⟨rfl, rfl, rfl, rfl, rfl⟩
    obtain ⟨hw, hs, hp, hc, hsl⟩ := hsame
    exact hx.of_same (by rw [Group.activeCount, hw, Group.activeCount]) hs hp fun _ h => by rw [hc, hsl]; exact h
  | leave g e rest _ hw hr =>
    rw [Group.leave_eq hw]
    refine hx.of_same ?_ rfl rfl fun _ => id
    simp [Group.activeCount, hw, hr]
  | tail => exact hx
  | arm _ _ hst => exact hx.of_quiet (by simp [hst]) (by simp [hst]) rfl nofun rfl ⟨rfl, rfl⟩
  | bind ring state _ _ _ hst =>
    rcases hst with ⟨hst, h⟩ | ⟨hst, -, h⟩
    · refine hx.of_quiet (by simp [hst]) (by simp [hst]) rfl ?_ rfl ⟨rfl, rfl⟩
      rcases h with rfl | rfl <;> nofun
    · exact hx.of_quiet (by simp [hst]) (by simp [hst]) rfl (by subst h; nofun) rfl ⟨rfl, rfl⟩
  | unbind _ _ hst => exact hx.of_quiet (by simp [hst]) (by simp [hst]) rfl nofun rfl ⟨rfl, rfl⟩
  | reset => exact Group.activeLaw_of_zero rfl nofun rfl ⟨rfl, rfl⟩

end Sys2Proof.Machine
end

section
/-! PROOF. What every move of a group keeps: the order of its window, and the window between the retire index and the
tail. -/

namespace Sys2Proof.Machine

variable {A : Prop} {n : Nat} {x y : Group}

/-! ## The order of a window -/

/-- No entry stands before one whose place is nearer the old end (R10). -/
abbrev Ordered (l : List Entry) : Prop := l.Pairwise fun a b => a.st.place ≤ b.st.place

/-- A change that takes places to places in a monotone way keeps the order. -/
theorem Ordered.of_places {l m : List Entry} {φ : Nat → Nat} (hl : Ordered l) (hφ : Monotone φ)
    (h : List.Forall₂ (fun e f : Entry => f.st.place = φ e.st.place) l m) : Ordered m := by
  induction h with
  | nil => exact .nil
  | cons hab hlm ih =>
    rw [Ordered, List.pairwise_cons] at hl ⊢
    refine ⟨fun f hf => ?_, ih hl.2⟩
    obtain ⟨e, he, hef⟩ := mem_of_forall₂ hlm hf
    rw [hab, hef]
    exact hφ (hl.1 e he)

theorem ordered_of_place_zero {l : List Entry} (h : ∀ e ∈ l, e.st.place = 0) : Ordered l := by
  rw [Ordered, List.pairwise_iff_forall_sublist]
  intro a b hab
  rw [h a (hab.subset (by simp))]
  exact Nat.zero_le _

theorem Ordered.unfetched (hx : Ordered x.window) : Ordered x.unfetched := hx.filter _

/-- The place of an entry when the ACTIVE record ends. -/
def endPlace (p : Nat) : Nat := if p = 1 then 0 else p

/-- The place of an entry when its run ends and what waits is retired: only a FETCHING one keeps it. -/
def stopPlace (p : Nat) : Nat := if 3 ≤ p then 3 else 0

theorem endPlace_monotone : Monotone endPlace := by
  intro a b h
  unfold endPlace
  split <;> split <;> omega

theorem EntryState.place_le (st : EntryState) : st.place ≤ 3 := by cases st <;> decide

theorem endActive_places (status : SegStatus) (x : Group) :
    List.Forall₂ (fun e f : Entry => f.st.place = endPlace e.st.place) x.window (x.endActive status).window := by
  refine forall₂_map _ fun e _ => ?_
  split
  · next h => rw [show e.st = .active by simpa using h]; rfl
  · next h => cases hst : e.st <;> simp_all [endPlace, EntryState.place]

theorem stopPlace_monotone : Monotone stopPlace := by
  intro a b h
  unfold stopPlace
  split <;> split <;> omega

theorem endActive_retireWaiting_places (status : SegStatus) (x : Group) :
    List.Forall₂ (fun e f : Entry => f.st.place = stopPlace e.st.place) x.window (x.endActive status).retireWaiting.window := by
  unfold Group.retireWaiting Group.endActive
  rw [List.map_map]
  refine forall₂_map _ fun e _ => ?_
  cases hst : e.st <;> simp [hst, stopPlace, EntryState.place]

/-- Without an ACTIVE record everything that stays is DRAINING or RETIRING (R36). -/
theorem place_zero_of_retireWaiting {l : List Entry} (hl : ∀ e ∈ l, e.st ≠ .active ∧ e.st ≠ .fetching) (hw : x.window = l) :
    ∀ f ∈ x.retireWaiting.window, f.st.place = 0 := by
  intro f hf
  obtain ⟨e, he, rfl⟩ := List.mem_map.1 hf
  obtain ⟨ha, hfe⟩ := hl e (hw ▸ he)
  cases hst : e.st <;> simp_all [EntryState.place]

/-- What begins a record: the older entries are DRAINING or RETIRING, and the READY one becomes ACTIVE. -/
theorem ordered_beginRecord {e : Entry} {older younger : List Entry} (hd : x.SlotsDistinct) (hx : Ordered x.window)
    (hw : x.window = older ++ e :: younger) (hold : ∀ d ∈ older, d.st.place = 0) (hr : e.st = .ready) (sat : Bool) :
    Ordered (x.beginRecord e.slot sat).window := by
  have hkeep : ∀ l : List Entry, (∀ d ∈ l, d.slot ≠ e.slot) →
      (l.map fun d => if d.slot == e.slot then d.activate sat else d) = l := by
    intro l hl
    conv_rhs => rw [← l.map_id]
    exact List.map_congr_left fun d hmem => if_neg (by simpa using hl d hmem)
  have hslots : (∀ d ∈ older, d.slot ≠ e.slot) ∧ ∀ d ∈ younger, d.slot ≠ e.slot := by
    unfold Group.SlotsDistinct at hd
    rw [hw, List.map_append, List.map_cons, List.nodup_append] at hd
    obtain ⟨-, hyoung, hne⟩ := hd
    rw [List.nodup_cons] at hyoung
    refine ⟨fun d hmem => hne _ (List.mem_map_of_mem hmem) _ (List.mem_cons_self ..), fun d hmem h => hyoung.1 ?_⟩
    exact h ▸ List.mem_map_of_mem hmem
  have hwindow : (x.beginRecord e.slot sat).window = older ++ e.activate sat :: younger := by
    show (x.window.map fun d => if d.slot == e.slot then d.activate sat else d) = _
    rw [hw, List.map_append, List.map_cons, hkeep older hslots.1, hkeep younger hslots.2, if_pos (beq_self_eq_true _)]
  rw [hwindow]
  rw [hw, Ordered, List.pairwise_append, List.pairwise_cons] at hx
  obtain ⟨-, ⟨hyoung, hrest⟩, -⟩ := hx
  rw [Ordered, List.pairwise_append, List.pairwise_cons]
  refine ⟨ordered_of_place_zero hold, ⟨fun d hmem => ?_, hrest⟩, fun a ha b _ => by rw [hold a ha]; exact Nat.zero_le _⟩
  have h2 := hyoung d hmem
  rw [hr] at h2
  exact Nat.le_trans (show (1 : Nat) ≤ 2 by decide) h2

/-- An entry that is neither waiting nor ACTIVE is DRAINING or RETIRING. -/
theorem Entry.place_eq_zero {e : Entry} (hw : e.isWaiting = false) (ha : e.st ≠ .active) : e.st.place = 0 := by
  cases hst : e.st with
  | draining | retiring => rfl
  | active => exact absurd hst ha
  | ready | bad | fetching => simp [Entry.isWaiting, hst] at hw

/-- The window that a takeover's ending record leaves, cut at the next record. -/
theorem takeover_window_append {e : Entry} (he : x.next? = some e) (hr : e.st = .ready) (slot : Nat) (sat : Bool) :
    ∃ older d younger, ((x.endActive .ok).modSlot slot (Entry.saturate sat)).window = older ++ d :: younger
      ∧ (∀ c ∈ older, c.st.place = 0) ∧ d.slot = e.slot ∧ d.st = .ready := by
  obtain ⟨older, younger, hw, hold, -⟩ := Group.next?_append he
  have hwindow : ((x.endActive .ok).modSlot slot (Entry.saturate sat)).window =
      x.window.map fun c => if (if c.st == .active then { c with st := .draining, status := some .ok } else c).slot == slot
        then (if c.st == .active then { c with st := .draining, status := some .ok } else c).saturate sat
        else if c.st == .active then { c with st := .draining, status := some .ok } else c :=
    List.map_map
  rw [hwindow, hw, List.map_append, List.map_cons]
  refine ⟨_, _, _, rfl, fun c hc => ?_, ?_, ?_⟩
  · obtain ⟨d, hmem, rfl⟩ := List.mem_map.1 hc
    have hdw := hold d hmem
    cases hst : d.st <;> simp_all [Entry.isWaiting] <;> split <;> simp [Entry.saturate, hst, EntryState.place]
  · split <;> split <;> rfl
  · rw [if_neg (by simp [hr] : ¬(e.st == .active) = true)]
    split <;> exact hr

/-- A FETCHING entry joins the young end (R10). -/
theorem Ordered.beginFetch (hx : Ordered x.window) : Ordered x.beginFetch.window := by
  refine List.pairwise_append.2 ⟨hx, List.pairwise_singleton _ _, fun a _ b hb => ?_⟩
  rw [List.mem_singleton.1 hb]
  exact a.st.place_le

/-- Every move of a group that keeps its other laws keeps the order of its window (R10). -/
theorem Group.Move.keeps_order (h : Group.Move A n x y) (hd : x.SlotsDistinct) (ha : x.ActiveLaw) (hr : x.RestLaw)
    (hx : Ordered x.window) : Ordered y.window := by
  cases h with
  | alike h =>
    exact hx.of_places monotone_id (h.window.imp fun _ _ hef => by rw [hef.2.1]; rfl)
  | settleFetch f hf =>
    refine hx.of_places (φ := (min · 2)) (fun a b h => by dsimp only; omega) (forall₂_map _ fun e _ => ?_)
    split
    · next he =>
      rw [show e.st = .fetching by simpa using he]
      rcases hf.outcome e with ⟨h, -⟩ | ⟨h, -⟩ <;> rw [h] <;> rfl
    · next he => cases hst : e.st <;> simp_all [EntryState.place]
  | retireSlot e _ he hdr =>
    refine hx.of_places monotone_id (forall₂_map _ fun d hmem => ?_)
    split
    · next hslot =>
      obtain rfl : d = e := hd.eq hmem he (by simpa using hslot)
      rw [hdr]
      rfl
    · rfl
  | finishStop => rw [finishStop_window]; exact hx
  | takeover slot endSat startSat e _ _ he hst =>
    obtain ⟨older, d, younger, hw, hold, hslot, hready⟩ := takeover_window_append he hst slot endSat
    rw [← hslot]
    refine ordered_beginRecord ?_ ?_ hw hold hready startSat
    · exact hd.of_recast (recast_trans (endActive_recast .ok x)
        (modSlot_recast slot (f := Entry.saturate endSat) (fun _ => ⟨rfl, id⟩) _))
    · refine (hx.of_places endPlace_monotone (endActive_places .ok x)).of_places monotone_id (forall₂_map _ fun c _ => ?_)
      split <;> rfl
  | starve => exact hx.of_places endPlace_monotone (endActive_places .ok x)
  | resume sat e _ hst he hready =>
    obtain ⟨older, younger, hw, hold, -⟩ := Group.next?_append he
    have h0 := Group.activeCount_eq_zero_iff.1 (ha.zero (by simp [hst]) (by simp [hst]))
    exact ordered_beginRecord hd hx hw (fun d hmem => Entry.place_eq_zero (hold d hmem) (h0 d (by simp [hw, hmem]))) hready sat
  | fire sat e _ _ _ he hready =>
    obtain ⟨younger, hw⟩ := List.head?_eq_some_iff.1 he
    exact ordered_beginRecord hd hx (older := []) hw (fun d hmem => nomatch hmem) hready sat
  | stopEnding status => exact hx.of_places stopPlace_monotone (endActive_retireWaiting_places status x)
  | stopRunning mode =>
    have hc : Ordered x.cancelFetch.window := by rw [x.window_cancelFetch]; exact hx.unfetched
    cases mode with
    | periodEnd | segmentEnd => exact hc
    | now => exact hc.of_places stopPlace_monotone (endActive_retireWaiting_places .cut x.cancelFetch)
  | stopStarved _ hst =>
    have h0 := Group.activeCount_eq_zero_iff.1 (ha.zero (by simp [hst]) (by simp [hst]))
    refine ordered_of_place_zero (place_zero_of_retireWaiting (fun e he => ?_) x.window_cancelFetch)
    exact ⟨h0 e (mem_unfetched.1 he).1, (mem_unfetched.1 he).2⟩
  | disarm _ _ hst =>
    refine ordered_of_place_zero fun f hf => ?_
    rw [retiring_of_waiting (hr.2 hst) hf]
    rfl
  | clear h =>
    refine ordered_of_place_zero fun f hf => ?_
    obtain ⟨e, -, -, hst, -⟩ := mem_of_forall₂ h.window hf
    rw [hst]
    rfl
  | discard =>
    unfold Group.discard
    dsimp only
    split <;> exact hx
  | leave g e rest _ hw =>
    rw [Group.leave_eq hw]
    rw [hw] at hx
    exact (List.pairwise_cons.1 hx).2
  | rest | tail | arm | bind | unbind => exact hx
  | reset => exact .nil

end Sys2Proof.Machine
end

section
/-! PROOF. What every move of a group keeps: its window between the retire index and the tail (R19, R131, R134). -/

namespace Sys2Proof.Machine

variable {A : Prop} {n : Nat} {x y : Group}

/-! ## Ring arithmetic -/

/-- An index that has gone round at most once. -/
theorem mod_of_lt_two_mul {a size : Nat} (h : a < 2 * size) : a % size = if a < size then a else a - size := by
  split
  · next h' => exact Nat.mod_eq_of_lt h'
  · next h' => rw [Nat.mod_eq_sub_mod (by omega), Nat.mod_eq_of_lt (by omega)]

theorem ringCount_eq {size a b : Nat} (ha : a < size) (hb : b < size) :
    ringCount size a b = if a ≤ b then b - a else b + size - a := by
  unfold ringCount
  rw [mod_of_lt_two_mul (by omega)]
  split <;> split <;> omega

theorem ringNext_eq {size a : Nat} (ha : a < size) : ringNext size a = if a + 1 = size then 0 else a + 1 := by
  unfold ringNext
  rw [mod_of_lt_two_mul (by omega)]
  split <;> split <;> omega

theorem ringBack_eq {size a : Nat} (ha : a < size) : ringBack size a = if a = 0 then size - 1 else a - 1 := by
  unfold ringBack
  rw [mod_of_lt_two_mul (by omega)]
  split <;> split <;> omega

/-- The fetch index of a ring whose window spans `span` slots (R131). -/
theorem spanEnd_eq {size retire span : Nat} (hr : retire < size) (hs : span ≤ size) :
    (retire + span) % size = if retire + span < size then retire + span else retire + span - size := by
  by_cases h : retire + span < size
  · rw [if_pos h, Nat.mod_eq_of_lt h]
  · rw [if_neg h, Nat.mod_eq_sub_mod (by omega), Nat.mod_eq_of_lt (by omega)]

theorem spanEnd_lt {size retire span : Nat} (hr : retire < size) : (retire + span) % size < size :=
  Nat.mod_lt _ (by omega)

/-! ## The parts of the law -/

/-- The indices of a ring with the window's slots from the retire index on (R19, R131, R134). -/
structure Ring.Spans (ring : Ring) (slots : List Nat) : Prop where
  retire : ring.retire < ring.size
  tail : ring.tail < ring.size
  span : ring.span ≤ ring.size
  fetch : ring.fetch = (ring.retire + ring.span) % ring.size
  order : slots = (List.range slots.length).map fun i => (ring.retire + i) % ring.size
  length : slots.length ≤ ring.span
  empty : slots = [] → ring.span = 0
  behind : ringCount ring.size ring.retire ring.tail = 0 ∨ ring.span ≤ ringCount ring.size ring.retire ring.tail

/-- What the ring law asks of the group's state. -/
structure Group.Fetches (x : Group) : Prop where
  spans : x.state.spansWindow = true → x.ring.span = x.window.length
  youngest : ∀ e ∈ x.window.dropLast, e.st ≠ .fetching
  fetching : ∀ e ∈ x.window, e.st = .fetching → x.state.fetches = true
  unbound : x.state = .unbound → x.window = []

theorem Group.ringLaw_iff : x.RingLaw ↔ Ring.Spans x.ring (x.window.map Entry.slot) ∧ x.Fetches := by
  constructor
  · rintro ⟨⟨hr, ht, hs⟩, hf, hsl, hlen, hnil, hspans, hlast, hfet, htl, hunb⟩
    exact ⟨⟨hr, ht, hs, hf, by simpa using hsl, by simpa using hlen, fun h => hnil (List.map_eq_nil_iff.1 h), htl⟩,
      ⟨hspans, hlast, hfet, hunb⟩⟩
  · rintro ⟨⟨hr, ht, hs, hf, hsl, hlen, hnil, htl⟩, ⟨hspans, hlast, hfet, hunb⟩⟩
    exact ⟨⟨hr, ht, hs⟩, hf, by simpa using hsl, by simpa using hlen, fun h => hnil (List.map_eq_nil_iff.2 h), hspans, hlast,
      hfet, htl, hunb⟩

theorem Group.RingLaw.slotsDistinct (hx : x.RingLaw) : x.SlotsDistinct := by
  obtain ⟨⟨hr, -, hs⟩, -, hsl, hlen, -⟩ := hx
  rw [Group.SlotsDistinct, hsl]
  refine List.Nodup.map_on (fun i hi j hj hij => ?_) List.nodup_range
  rw [List.mem_range] at hi hj
  rw [spanEnd_eq hr (by omega), spanEnd_eq hr (by omega)] at hij
  split at hij <;> split at hij <;> omega

/-- The indices that a window's growing by the slot at the fetch index leaves (R11, R23). -/
theorem Ring.Spans.grow {ring : Ring} {slots : List Nat} (h : Ring.Spans ring slots) (hlen : ring.span = slots.length)
    (hspan : ring.span < ring.size) (hav : 0 < ring.available) :
    Ring.Spans { ring with fetch := ringNext ring.size ring.fetch, span := ring.span + 1 } (slots ++ [ring.fetch]) := by
  obtain ⟨hr, ht, hs, hf, hsl, -, -, hb⟩ := h
  have hfetch : ring.fetch < ring.size := hf ▸ spanEnd_lt hr
  refine ⟨hr, ht, hspan, ?_, ?_, by simp [hlen], by simp, ?_⟩
  · show ringNext ring.size ring.fetch = (ring.retire + (ring.span + 1)) % ring.size
    rw [hf, ringNext, Nat.mod_add_mod, Nat.add_assoc]
  · show slots ++ [ring.fetch] = (List.range (slots ++ [ring.fetch]).length).map fun i => (ring.retire + i) % ring.size
    rw [List.length_append, List.length_singleton, List.range_succ, List.map_append, ← hsl, List.map_singleton, ← hlen, ← hf]
  · show ringCount ring.size ring.retire ring.tail = 0 ∨ ring.span + 1 ≤ ringCount ring.size ring.retire ring.tail
    rw [Ring.available, ringCount_eq hfetch ht, hf, spanEnd_eq hr hs] at hav
    rw [ringCount_eq hr ht] at hb ⊢
    split at hav <;> split at hav <;> split at hb <;> split <;> omega

/-- The indices that the window's losing its youngest slot leaves (R25). -/
theorem Ring.Spans.shrink {ring : Ring} {slots : List Nat} {s : Nat} (h : Ring.Spans ring (slots ++ [s]))
    (hlen : ring.span = slots.length + 1) :
    Ring.Spans { ring with fetch := ringBack ring.size ring.fetch, span := ring.span - 1 } slots := by
  obtain ⟨hr, ht, hs, hf, hsl, -, -, hb⟩ := h
  have hfetch : ring.fetch < ring.size := hf ▸ spanEnd_lt hr
  refine ⟨hr, ht, ?_, ?_, ?_, ?_, fun h => ?_, ?_⟩
  · show ring.span - 1 ≤ ring.size
    omega
  · show ringBack ring.size ring.fetch = (ring.retire + (ring.span - 1)) % ring.size
    rw [ringBack_eq hfetch, hf, spanEnd_eq hr hs, spanEnd_eq hr (by omega)]
    split <;> split <;> split <;> omega
  · rw [List.length_append, List.length_singleton, List.range_succ, List.map_append] at hsl
    exact (List.append_inj' hsl rfl).1
  · show slots.length ≤ ring.span - 1
    omega
  · show ring.span - 1 = 0
    rw [hlen, h, List.length_nil]
  · show ringCount ring.size ring.retire ring.tail = 0 ∨ ring.span - 1 ≤ ringCount ring.size ring.retire ring.tail
    omega

/-- The indices after the oldest record has left (R19, R131). -/
theorem Ring.Spans.leave {ring : Ring} {slots : List Nat} {s : Nat} (h : Ring.Spans ring (s :: slots)) :
    Ring.Spans (ring.leave slots.isEmpty) slots := by
  obtain ⟨hr, ht, hs, hf, hsl, hlen, -, hb⟩ := h
  have hfetch : ring.fetch < ring.size := hf ▸ spanEnd_lt hr
  rw [List.length_cons] at hlen
  cases slots with
  | nil =>
    exact ⟨hfetch, ht, Nat.zero_le _, (Nat.mod_eq_of_lt hfetch).symm, rfl, Nat.zero_le _, fun _ => rfl, .inr (Nat.zero_le _)⟩
  | cons a l =>
    have hnext : (ring.leave (a :: l).isEmpty).retire = ringNext ring.size ring.retire := rfl
    have hretire : ringNext ring.size ring.retire < ring.size := Nat.mod_lt _ (by omega)
    refine ⟨hretire, ht, ?_, ?_, ?_, ?_, fun h => ?_, ?_⟩
    · show ring.span - 1 ≤ ring.size
      omega
    · show ring.fetch = (ringNext ring.size ring.retire + (ring.span - 1)) % ring.size
      rw [hf, ringNext, Nat.mod_add_mod]
      congr 1
      omega
    · show a :: l = (List.range (a :: l).length).map fun i => (ringNext ring.size ring.retire + i) % ring.size
      rw [List.length_cons (a := s), List.range_succ_eq_map, List.map_cons, List.map_map] at hsl
      rw [(List.cons.inj hsl).2]
      simp only [List.length_map, List.length_range]
      refine List.map_congr_left fun i _ => ?_
      show (ring.retire + (i + 1)) % ring.size = _
      rw [ringNext, Nat.mod_add_mod]
      congr 1
      omega
    · show (a :: l).length ≤ ring.span - 1
      omega
    · cases h
    · show ringCount ring.size (ringNext ring.size ring.retire) ring.tail = 0
        ∨ ring.span - 1 ≤ ringCount ring.size (ringNext ring.size ring.retire) ring.tail
      rw [ringCount_eq hr ht] at hb
      rw [ringCount_eq hretire ht, ringNext_eq hr]
      split at hb <;> split <;> split <;> omega

/-- The indices after DISCARD (R41). -/
theorem Ring.Spans.discard {ring : Ring} {slots : List Nat} (h : Ring.Spans ring slots) (hne : slots ≠ []) :
    Ring.Spans { ring with fetch := ring.tail, span := ring.span + ring.available } slots := by
  obtain ⟨hr, ht, hs, hf, hsl, hlen, -, hb⟩ := h
  have hfetch : ring.fetch < ring.size := hf ▸ spanEnd_lt hr
  have hpos : 0 < slots.length := List.length_pos_of_ne_nil hne
  have hgap : ring.span + ring.available = if ringCount ring.size ring.retire ring.tail = 0 then ring.size
      else ringCount ring.size ring.retire ring.tail := by
    rw [Ring.available, ringCount_eq hfetch ht, hf, spanEnd_eq hr hs]
    rw [ringCount_eq hr ht] at hb ⊢
    split at hb <;> split <;> split <;> split <;> omega
  have hcount := ringCount_eq hr ht
  have hle : ring.span + ring.available ≤ ring.size := by
    rw [hgap, hcount]
    split <;> split <;> omega
  refine ⟨hr, ht, hle, ?_, hsl, Nat.le_trans hlen (Nat.le_add_right ..), fun h => absurd h hne, ?_⟩
  · show ring.tail = (ring.retire + (ring.span + ring.available)) % ring.size
    rw [spanEnd_eq hr hle, hgap, hcount]
    split <;> split <;> split <;> omega
  · show ringCount ring.size ring.retire ring.tail = 0 ∨ ring.span + ring.available ≤ ringCount ring.size ring.retire ring.tail
    rw [hgap]
    split
    · next h => exact .inl h
    · exact .inr (Nat.le_refl _)

/-- The indices after DISCARD of an empty window (R41). -/
theorem Ring.Spans.discard_nil {ring : Ring} {slots : List Nat} (h : Ring.Spans ring slots) :
    Ring.Spans { ring with fetch := ring.tail, retire := ring.tail, span := 0 } [] :=
  ⟨h.tail, h.tail, Nat.zero_le _, (Nat.mod_eq_of_lt h.tail).symm, rfl, Nat.zero_le _, fun _ => rfl, .inr (Nat.zero_le _)⟩

/-! ## Moves that change no slot -/

theorem fetching_of_recast {l m : List Entry} (h : List.Forall₂ Entry.Recast l m) (hl : ∀ e ∈ l, e.st ≠ .fetching) :
    ∀ f ∈ m, f.st ≠ .fetching := by
  intro f hf hst
  obtain ⟨e, he, hef⟩ := mem_of_forall₂ h hf
  exact hl e he (hef.2 hst)

theorem dropLast_recast {l m : List Entry} (h : List.Forall₂ Entry.Recast l m) :
    List.Forall₂ Entry.Recast l.dropLast m.dropLast := by
  rw [List.dropLast_eq_take, List.dropLast_eq_take, h.length_eq]
  exact List.forall₂_take _ h

/-- A window whose entries keep their slots, in a state whose demands they meet. -/
theorem Group.RingLaw.of_recast (hx : x.RingLaw) (h : List.Forall₂ Entry.Recast x.window y.window) (hring : y.ring = x.ring)
    (hspans : y.state.spansWindow = true → x.ring.span = x.window.length)
    (hfet : ∀ e ∈ x.window, e.st = .fetching → y.state.fetches = true) (hunb : y.state = .unbound → x.window = []) :
    y.RingLaw := by
  obtain ⟨hspan, hf⟩ := Group.ringLaw_iff.1 hx
  refine Group.ringLaw_iff.2 ⟨?_, ⟨fun hs => ?_, ?_, fun f hmem hst => ?_, fun hu => ?_⟩⟩
  · rw [hring, slots_of_recast h]
    exact hspan
  · rw [hring, ← h.length_eq]
    exact hspans hs
  · exact fetching_of_recast (dropLast_recast h) hf.youngest
  · obtain ⟨e, he, hef⟩ := mem_of_forall₂ h hmem
    exact hfet e he (hef.2 hst)
  · have hnil := hunb hu
    rw [hnil] at h
    exact List.forall₂_nil_left_iff.1 h

/-- A group that keeps its ring, its window and its state. -/
theorem Group.RingLaw.of_same (hx : x.RingLaw) (h : List.Forall₂ Entry.Recast x.window y.window) (hring : y.ring = x.ring)
    (hst : y.state = x.state) : y.RingLaw := by
  have hf := (Group.ringLaw_iff.1 hx).2
  exact hx.of_recast h hring (fun hs => hf.spans (hst ▸ hs)) (fun e he he' => hst ▸ hf.fetching e he he')
    (fun hu => hf.unbound (hst ▸ hu))

/-- A group whose window keeps its slots but for a cancelled FETCHING one (R25). -/
theorem Group.RingLaw.of_unfetched (hx : x.RingLaw) (h : List.Forall₂ Entry.Recast x.unfetched y.window)
    (hring : y.ring = x.cancelFetch.ring) (hspans : y.state.spansWindow = true → x.state.spansWindow = true)
    (hunb : y.state ≠ .unbound) : y.RingLaw := by
  obtain ⟨hspan, hf⟩ := Group.ringLaw_iff.1 hx
  by_cases hno : ∀ e ∈ x.window, e.st ≠ .fetching
  · have hsame : x.unfetched = x.window := List.filter_eq_self.2 fun e he => by simpa using hno e he
    have hcancel : x.cancelFetch = x := if_neg (by simpa [Group.hasFetching] using hno)
    rw [hsame] at h
    rw [hcancel] at hring
    exact hx.of_recast h hring (fun hs => hf.spans (hspans hs)) (fun e he hst => absurd hst (hno e he)) fun hu => absurd hu hunb
  · simp only [not_forall, not_not] at hno
    obtain ⟨e, he, hst⟩ := hno
    have hne : x.window ≠ [] := List.ne_nil_of_mem he
    have hlast : e = x.window.getLast hne := by
      rw [← List.dropLast_append_getLast hne] at he
      rcases List.mem_append.1 he with he | he
      · exact absurd hst (hf.youngest e he)
      · exact List.mem_singleton.1 he
    have hcut : x.window = x.window.dropLast ++ [e] := by rw [hlast, List.dropLast_append_getLast hne]
    have hun : x.unfetched = x.window.dropLast := by
      rw [Group.unfetched, hcut, List.filter_append, List.filter_eq_self.2 fun d hd => by simpa using hf.youngest d hd]
      simp [hst]
    have hcancel : x.cancelFetch.ring = { x.ring with
        fetch := ringBack x.ring.size x.ring.fetch, span := x.ring.span - 1 } := by
      have hyes : x.hasFetching = true := List.any_eq_true.2 ⟨e, he, by simp [hst]⟩
      rw [Group.cancelFetch, if_pos hyes]
    have hlen : x.ring.span = x.window.dropLast.length + 1 := by
      rw [hf.spans (GroupState.fetches_spans (hf.fetching e he hst)), List.length_dropLast]
      have := List.length_pos_of_ne_nil hne
      omega
    rw [hun] at h
    have hyoung := fetching_of_recast h hf.youngest
    refine Group.ringLaw_iff.2 ⟨?_, ⟨fun hs => ?_, fun d hd => hyoung d (List.dropLast_subset _ hd), fun d hd hdst =>
      absurd hdst (hyoung d hd), fun hu => absurd hu hunb⟩⟩
    · rw [hring, slots_of_recast h, hcancel]
      rw [hcut, List.map_append, List.map_singleton] at hspan
      exact hspan.shrink (by simpa using hlen)
    · rw [hring, hcancel, ← h.length_eq]
      show x.ring.span - 1 = _
      omega

/-! ## Every move -/

theorem Group.fetches_of_nil (hw : y.window = []) (h : y.ring.span = 0) : y.Fetches := by
  constructor <;> simp [hw, h]

theorem stopRunning_ring (mode : StopMode) (x : Group) :
    (x.stopRunning mode).ring = x.cancelFetch.ring ∧ (x.stopRunning mode).state = .stopping := by
  cases mode <;> exact ⟨rfl, rfl⟩

theorem Group.finishStop_cases (x : Group) : x.finishStop = x
    ∨ (x.state = .stopping ∧ (∀ e ∈ x.window, e.st = .retiring)
      ∧ x.finishStop = { x with state := .stopped }.notify .stopped) := by
  unfold Group.finishStop
  split
  · next h =>
    simp only [Bool.and_eq_true, Group.allRetiring, List.all_eq_true, beq_iff_eq] at h
    exact .inr ⟨h.1, h.2, rfl⟩
  · exact .inl rfl

theorem Group.MayFetch.keeps_ring (h : x.MayFetch) (hx : x.RingLaw) : x.beginFetch.RingLaw := by
  obtain ⟨hspan, hf⟩ := Group.ringLaw_iff.1 hx
  have hlen := hf.spans (GroupState.fetches_spans h.state)
  refine Group.ringLaw_iff.2 ⟨?_, ⟨fun _ => ?_, fun e he => ?_, fun _ _ _ => h.state, fun hu => ?_⟩⟩
  · show Ring.Spans _ ((x.window ++ [_]).map Entry.slot)
    rw [List.map_append]
    exact hspan.grow (by simpa using hlen) h.span h.available
  · show x.ring.span + 1 = (x.window ++ [_]).length
    rw [hlen, List.length_append, List.length_singleton]
  · have hlast : e ∈ (x.window ++ [_]).dropLast := he
    rw [List.dropLast_concat] at hlast
    exact h.none e hlast
  · have hst := h.state
    rw [show x.state = .unbound from hu] at hst
    cases hst

/-- Every move keeps the law of a group's ring, where sets fire ARMED groups only. -/
theorem Group.Move.keeps_ring (hA : A) (h : Group.Move A n x y) (hx : x.RingLaw) : y.RingLaw := by
  obtain ⟨hspan, hf⟩ := Group.ringLaw_iff.1 hx
  have nofetch : x.state.fetches = false → ∀ e ∈ x.window, e.st ≠ .fetching := fun hst e he he' => by
    rw [hf.fetching e he he'] at hst
    cases hst
  cases h with
  | alike h => exact hx.of_same h.recast h.ring h.state
  | settleFetch f hf' => exact hx.of_same (settleFetch_recast hf' x) rfl rfl
  | retireSlot e =>
    exact hx.of_same (modSlot_recast e.slot (f := fun e => { e with st := .retiring }) (fun _ => ⟨rfl, nofun⟩) x) rfl rfl
  | finishStop =>
    rcases x.finishStop_cases with h | ⟨-, hall, h⟩
    · rw [h]
      exact hx
    · rw [h]
      exact hx.of_recast (List.forall₂_same.2 fun _ _ => ⟨rfl, id⟩) rfl nofun
        (fun e he hst => by rw [hall e he] at hst; cases hst) nofun
  | takeover slot _ _ e _ hst =>
    exact hx.of_recast (takeover_recast .ok slot e.slot _ _ x) rfl (fun _ => hf.spans (by rw [hst]; rfl)) (fun _ _ _ => rfl) nofun
  | starve _ hst =>
    exact hx.of_recast (endActive_recast .ok x) rfl (fun _ => hf.spans (by rw [hst]; rfl)) (fun _ _ _ => rfl) nofun
  | resume sat e _ hst =>
    exact hx.of_recast (beginRecord_recast e.slot sat x) rfl (fun _ => hf.spans (by rw [hst]; rfl)) (fun _ _ _ => rfl) nofun
  | fire sat e _ _ hst =>
    exact hx.of_recast (beginRecord_recast e.slot sat x) rfl (fun _ => hf.spans (by rw [hst hA]; rfl)) (fun _ _ _ => rfl) nofun
  | stopEnding status => exact hx.of_same (recast_trans (endActive_recast status x) (retireWaiting_recast _)) rfl rfl
  | stopRunning mode _ hst =>
    obtain ⟨hring, hstate⟩ := stopRunning_ring mode x
    exact hx.of_unfetched (stopRunning_recast mode x) hring (fun _ => by rw [hst]; rfl) (by rw [hstate]; nofun)
  | stopStarved _ hst => exact hx.of_unfetched (cancelAndRetire_recast x) rfl (fun _ => by rw [hst]; rfl) nofun
  | disarm => exact hx.of_unfetched (cancelAndRetire_recast x) rfl nofun nofun
  | clear h hy _ hy' =>
    refine hx.of_unfetched h.recast h.ring (fun hs => ?_) hy'
    rw [(GroupState.not_fetches_of_atRest hy).2] at hs
    cases hs
  | rest state _ _ hx' _ hy hy' =>
    refine hx.of_recast (List.forall₂_same.2 fun _ _ => ⟨rfl, id⟩) rfl (fun hs => ?_) (fun e he hst => ?_) fun hu => absurd hu hy'
    · rw [show (state.spansWindow = false) from (GroupState.not_fetches_of_atRest hy).2] at hs
      cases hs
    · exact absurd hst (nofetch (GroupState.not_fetches_of_atRest hx').1 e he)
  | discard _ hst =>
    have hrest : x.state.fetches = false ∧ x.state.spansWindow = false ∧ x.state ≠ .unbound := by
      rcases hst with h | h <;> rw [h] <;> decide
    obtain ⟨hfet, hsp, hun⟩ := hrest
    have hkeep : ∀ ring : Ring, Group.Fetches { x with ring := ring } := fun ring =>
      ⟨fun hs => (by rw [show x.state.spansWindow = true from hs] at hsp; cases hsp), hf.youngest, hf.fetching, hf.unbound⟩
    unfold Group.discard
    dsimp only
    split
    · next hw =>
      refine Group.ringLaw_iff.2 ⟨?_, hkeep _⟩
      rw [List.isEmpty_iff.1 hw] at hspan ⊢
      exact hspan.discard_nil
    · next hw =>
      refine Group.ringLaw_iff.2 ⟨hspan.discard fun h => hw ?_, hkeep _⟩
      rw [List.map_eq_nil_iff.1 h]
      rfl
  | leave g e rest _ hw =>
    rw [Group.leave_eq hw]
    rw [hw, List.map_cons] at hspan
    refine Group.ringLaw_iff.2 ⟨?_, ⟨fun hs => ?_, fun d hd => ?_, fun d hd hst => ?_, fun hu => ?_⟩⟩
    · have := hspan.leave
      rwa [List.isEmpty_map] at this
    · have hlen := hf.spans hs
      rw [hw, List.length_cons] at hlen
      cases rest with
      | nil => rfl
      | cons a l =>
        show x.ring.span - 1 = (a :: l).length
        omega
    · refine hf.youngest d ?_
      rw [hw]
      cases rest with
      | nil => cases hd
      | cons a l => exact List.mem_cons_of_mem _ hd
    · exact hf.fetching d (hw ▸ List.mem_cons_of_mem _ hd) hst
    · rw [hf.unbound hu] at hw
      cases hw
  | tail i _ hi ha =>
    refine Group.ringLaw_iff.2 ⟨⟨hspan.retire, hi, hspan.span, hspan.fetch, hspan.order, hspan.length, hspan.empty, ?_⟩,
      ⟨hf.spans, hf.youngest, hf.fetching, hf.unbound⟩⟩
    show ringCount x.ring.size x.ring.retire i = 0 ∨ x.ring.span ≤ ringCount x.ring.size x.ring.retire i
    omega
  | arm _ _ _ hw =>
    refine hx.of_recast (List.forall₂_same.2 fun _ _ => ⟨rfl, id⟩) rfl (fun _ => ?_) (fun _ _ _ => rfl) nofun
    rw [hspan.empty (by rw [hw]; rfl), hw]
    rfl
  | bind ring state _ _ hring hst =>
    obtain ⟨hsize, htail, hfetch, hretire, hzero⟩ := hring
    have hw : x.window = [] := by
      rcases hst with ⟨hst, -⟩ | ⟨-, hw, -⟩
      · exact hf.unbound hst
      · exact hw
    refine Group.ringLaw_iff.2 ⟨?_, Group.fetches_of_nil hw hzero⟩
    show Ring.Spans ring (x.window.map Entry.slot)
    rw [hw]
    refine ⟨by omega, by omega, by omega, ?_, rfl, Nat.zero_le _, fun _ => hzero, .inr (hzero ▸ Nat.zero_le _)⟩
    rw [hfetch, hretire, hzero, Nat.zero_mod]
  | unbind _ _ _ hw =>
    refine Group.ringLaw_iff.2 ⟨⟨hspan.retire, hspan.tail, hspan.span, hspan.fetch, hspan.order, hspan.length, hspan.empty,
      hspan.behind⟩, Group.fetches_of_nil hw (hspan.empty (by rw [hw]; rfl))⟩
  | reset => exact Group.ringLaw_iff.2 ⟨⟨by decide, by decide, by decide, by decide, rfl, by decide, fun _ => rfl, .inr (by decide)⟩,
      Group.fetches_of_nil rfl rfl⟩

end Sys2Proof.Machine
end

section
/-! PROOF. What the shared operations do to the groups, as moves, and to the bounds of the queues. -/

namespace Sys2Proof.Machine

/-- What an operation of the sequencers or the capture path does to a state: its groups move and keep their holding
queues, the capture queue and the result queue stay within their capacities, no set joins, and the result writer's
write stays where it is. -/
structure State.Goes (armedOnly : Prop) (n : Nat) (s t : State) : Prop where
  moves : ∀ g, Group.Moves armedOnly n (s.group g) (t.group g)
  queues : ∀ g, (t.group g).queue = (s.group g).queue
  requests : s.captureQueue.length ≤ 16 → t.captureQueue.length ≤ 16
  results : s.writer.queue.length ≤ 4 → t.writer.queue.length ≤ 4
  write : t.writer.write = s.writer.write
  onBus : t.writer.onBus = s.writer.onBus
  sets : s.sets.length ≤ 4 → t.sets.length ≤ 4

section Operations

variable {A : Prop} {n : Nat} {s t u : State} {g : GroupId}

theorem State.Goes.refl (s : State) : State.Goes A n s s :=
  ⟨fun _ => .refl, fun _ => rfl, id, id, rfl, rfl, id⟩

theorem State.Goes.trans (h : State.Goes A n s t) (h' : State.Goes A n t u) : State.Goes A n s u :=
  ⟨fun g => (h.moves g).trans (h'.moves g), fun g => (h'.queues g).trans (h.queues g), fun hs => h'.requests (h.requests hs),
    fun hs => h'.results (h.results hs), h'.write.trans h.write, h'.onBus.trans h.onBus, fun hs => h'.sets (h.sets hs)⟩

/-- What leaves the groups, the capture path and the sets alone. -/
theorem State.Goes.of_same (hg : t.groups = s.groups) (hc : t.captureQueue = s.captureQueue) (hw : t.writer = s.writer)
    (hs : t.sets.length ≤ s.sets.length) : State.Goes A n s t := by
  have hgroup : ∀ m, t.group m = s.group m := fun m => by rw [State.group, hg]; rfl
  exact ⟨fun m => hgroup m ▸ .refl, fun m => by rw [hgroup], fun h => hc ▸ h, fun h => hw ▸ h, by rw [hw], by rw [hw],
    hs.trans⟩

/-- What moves the capture path alone. -/
theorem State.Goes.of_groups (hg : t.groups = s.groups) (hc : s.captureQueue.length ≤ 16 → t.captureQueue.length ≤ 16)
    (hw : s.writer.queue.length ≤ 4 → t.writer.queue.length ≤ 4) (hwrite : t.writer.write = s.writer.write)
    (hbus : t.writer.onBus = s.writer.onBus) (hs : t.sets = s.sets) : State.Goes A n s t := by
  have hgroup : ∀ m, t.group m = s.group m := fun m => by rw [State.group, hg]; rfl
  exact ⟨fun m => hgroup m ▸ .refl, fun m => by rw [hgroup], hc, hw, hwrite, hbus, fun h => hs ▸ h⟩

/-- One group moves. -/
theorem State.Goes.modGroup {f : Group → Group} (h : Group.Move A n (s.group g) (f (s.group g)))
    (hq : (f (s.group g)).queue = (s.group g).queue) : State.Goes A n s (s.modGroup g f) := by
  refine ⟨fun m => ?_, fun m => ?_, id, id, rfl, rfl, id⟩
  · rw [State.group_modGroup]
    split
    · next hm => subst hm; exact .single h
    · exact .refl
  · rw [State.group_modGroup]
    split
    · next hm => subst hm; exact hq
    · rfl

/-! ## Entries -/

theorem Group.Alike.refl (x : Group) : x.Alike x :=
  ⟨rfl, rfl, rfl, List.forall₂_same.2 fun _ _ => ⟨rfl, rfl, rfl⟩, fun _ => id⟩

/-- Changes of one slot's counts and flags. -/
theorem Group.alike_modSlot (x : Group) (slot : Nat) {f : Entry → Entry} (hf : ∀ e : Entry, e.Alike (f e)) :
    x.Alike (x.modSlot slot f) := by
  refine ⟨rfl, rfl, rfl, forall₂_map _ fun e _ => ?_, fun _ => id⟩
  split
  · exact hf e
  · exact ⟨rfl, rfl, rfl⟩

theorem goes_modEntry (s : State) (ref : EntryRef) {f : Entry → Entry} (hf : ∀ e : Entry, e.Alike (f e)) :
    State.Goes A n s (s.modEntry ref f) :=
  .modGroup (.alike ((s.group ref.group).alike_modSlot ref.slot hf)) rfl

/-! ## The capture path -/

theorem goes_converterTake (s : State) : State.Goes A n s s.converterTake := by
  refine .of_groups s.groups_converterTake (fun h => ?_) (by simp) (by simp) (by simp) (by simp)
  unfold State.converterTake
  split
  · split
    · exact h
    · next hq => rw [hq, List.length_cons] at h; exact Nat.le_of_succ_le h
  · exact h

theorem goes_offerRequest (s : State) (r : Request) : State.Goes A n s (s.offerRequest r) := by
  unfold State.offerRequest
  split
  · next h =>
    refine State.Goes.trans ?_ (goes_converterTake _)
    refine .of_groups rfl (fun _ => ?_) id rfl rfl rfl
    show (s.captureQueue ++ [r]).length ≤ 16
    rw [List.length_append]
    exact h
  · exact goes_modEntry s _ fun _ => ⟨rfl, rfl, rfl⟩

theorem goes_triggerPoint (s : State) (g : GroupId) (j : Nat) : State.Goes A n s (s.triggerPoint g j) := by
  unfold State.triggerPoint
  split
  · exact .refl s
  · split
    · dsimp only
      split
      · exact goes_modEntry s _ fun _ => ⟨rfl, rfl, rfl⟩
      · refine State.Goes.trans ?_ (goes_offerRequest _ _)
        exact goes_modEntry s _ fun _ => ⟨rfl, rfl, rfl⟩
    · exact .refl s

theorem goes_foldl {α : Type} (f : State → α → State) (h : ∀ s a, State.Goes A n s (f s a)) (l : List α) (s : State) :
    State.Goes A n s (l.foldl f s) := by
  induction l generalizing s with
  | nil => exact .refl s
  | cons a l ih => exact (h s a).trans (ih _)

theorem goes_triggers (s : State) (g : GroupId) : State.Goes A n s (s.triggers g) :=
  goes_foldl _ (fun s j => goes_triggerPoint s g j) _ s

theorem goes_offerHeld (s : State) : State.Goes A n s s.offerHeld := by
  unfold State.offerHeld
  split
  · split
    · next r _ _ h =>
      refine State.Goes.trans ?_ (goes_converterTake _)
      refine .of_groups rfl id (fun _ => ?_) rfl rfl rfl
      show (s.writer.queue ++ [r]).length ≤ 4
      rw [List.length_append]
      exact h
    · exact .refl s
  · exact .refl s

theorem goes_chooseJob (s : State) : State.Goes A n s s.chooseJob := by
  unfold State.chooseJob
  split
  · split
    · exact .refl s
    · next hq =>
      refine .of_groups rfl id (fun h => ?_) rfl rfl rfl
      rw [hq, List.length_cons] at h
      exact Nat.le_of_succ_le h
  · split
    · exact .refl s
    · exact .of_groups rfl id id rfl rfl rfl
  · exact .refl s

/-- The test of a DRAINING record lists it for its fill, or retires it (R106, R110). -/
theorem goes_drainOne (s : State) (ref : EntryRef) : State.Goes A n s (s.drainOne ref) := by
  rcases s.drainOne_cases ref with ⟨h, -⟩ | ⟨e, -, -, -, -, -, h⟩ | ⟨e, he, hst, -, -, -, h⟩
  · rw [h]
    exact .refl s
  · rw [h]
    exact .of_groups rfl id id rfl rfl rfl
  · rw [h]
    have hslot : e.slot = ref.slot := by simpa using List.find?_some he
    refine .modGroup ?_ rfl
    rw [← hslot]
    exact .retireSlot e _ (List.mem_of_find?_eq_some he) hst

theorem goes_drain (s : State) : State.Goes A n s s.drain := goes_foldl _ goes_drainOne _ s

theorem goes_pumpOnce (s : State) : State.Goes A n s s.pumpOnce :=
  (goes_drain s).trans ((goes_converterTake _).trans ((goes_offerHeld _).trans (goes_chooseJob _)))

theorem goes_pumpRounds (k : Nat) (s : State) : State.Goes A n s (State.pumpRounds k s) := by
  induction k generalizing s with
  | zero => exact .refl s
  | succ k ih => exact (goes_pumpOnce s).trans (ih _)

theorem Group.finishStop_queue (x : Group) : x.finishStop.queue = x.queue := by
  unfold Group.finishStop
  split <;> rfl

theorem goes_pump (s : State) : State.Goes A n s s.pump := by
  unfold State.pump
  split
  · exact (goes_pumpRounds 8 s).trans
      (goes_foldl _ (fun t g => .modGroup (.finishStop (t.group g)) (Group.finishStop_queue _)) _ _)
  · exact .refl s

/-! ## Endings -/

theorem goes_endPost (s : State) (g : GroupId) (e : Entry) : State.Goes A n s (s.endPost g e) := by
  unfold State.endPost
  split
  · exact .refl s
  · refine State.Goes.trans ?_ (goes_modEntry _ _ (f := Entry.saturate _) fun _ => ⟨rfl, rfl, rfl⟩)
    exact .of_same rfl rfl rfl (Nat.le_refl _)

/-- A group whose capture work has been removed (R95, R111). -/
def Group.removed (s : State) (g : GroupId) (ending : SegStatus) (x : Group) : Group :=
  { x with window := x.window.map (s.retiredByRemoval g ending) }

theorem State.retiredByRemoval_slot (s : State) (g : GroupId) (ending : SegStatus) (e : Entry) :
    (s.retiredByRemoval g ending e).slot = e.slot := by
  unfold State.retiredByRemoval
  split <;> rfl

/-- The states of entries under a removal: DRAINING and ACTIVE ones retire (R95). -/
theorem State.retiredByRemoval_st (s : State) (g : GroupId) (ending : SegStatus) (e : Entry) :
    (s.retiredByRemoval g ending e).st = if e.st = .active ∨ e.st = .draining then .retiring else e.st := by
  unfold State.retiredByRemoval
  cases hst : e.st <;> simp [hst]

theorem State.retiredByRemoval_status (s : State) (g : GroupId) (ending : SegStatus) (e : Entry) :
    (s.retiredByRemoval g ending e).status = if e.st = .active then some ending else e.status := by
  unfold State.retiredByRemoval
  cases hst : e.st <;> simp

theorem Group.unfetched_removed (s : State) (g : GroupId) (ending : SegStatus) (x : Group) :
    (x.removed s g ending).unfetched = x.unfetched.map (s.retiredByRemoval g ending) := by
  unfold Group.unfetched Group.removed
  rw [List.filter_map]
  congr 1
  refine List.filter_congr fun e _ => ?_
  show ((s.retiredByRemoval g ending e).st != .fetching) = _
  rw [State.retiredByRemoval_st]
  cases e.st <;> rfl

theorem Group.ring_cancelFetch_of_unfetched {x y : Group} (hr : y.ring = x.ring) (h : y.hasFetching = x.hasFetching) :
    y.cancelFetch.ring = x.cancelFetch.ring := by
  unfold Group.cancelFetch
  rw [h]
  split
  · simp only [hr]
  · exact hr

theorem Group.hasFetching_map {f : Entry → Entry} (hf : ∀ e, (f e).st = .fetching ↔ e.st = .fetching) {x y : Group}
    (hw : y.window = x.window.map f) : y.hasFetching = x.hasFetching := by
  unfold Group.hasFetching
  rw [hw, List.any_map]
  refine List.any_congr rfl fun e => ?_
  by_cases h : e.st = .fetching
  · simp [h, (hf e).2 h]
  · simp [h, mt (hf e).1 h]

/-- What removes a group's work and clears it out leaves every record RETIRING with its status (R33, R40, R122). -/
theorem clearedBy_removed (s : State) (g : GroupId) (ending : SegStatus) (x : Group) {y : Group}
    (hw : y.window = (x.removed s g ending).clearOut.window) (hr : y.ring = (x.removed s g ending).clearOut.ring)
    (hc : y.counter = 0 ∧ y.slope = .up) (hp : y.pendingStop = .noStop) : x.ClearedBy ending y := by
  refine ⟨?_, hr.trans ?_, hc, hp⟩
  · rw [hw]
    show List.Forall₂ _ _ ((x.removed s g ending).cancelFetch.window.map _)
    rw [Group.window_cancelFetch, Group.unfetched_removed, List.map_map]
    refine forall₂_map _ fun e he => ?_
    have hst := s.retiredByRemoval_st g ending e
    have hstatus := s.retiredByRemoval_status g ending e
    have hslot := s.retiredByRemoval_slot g ending e
    have hne := (mem_unfetched.1 he).2
    dsimp only [Function.comp]
    generalize s.retiredByRemoval g ending e = d at hst hstatus hslot
    cases he : e.st <;> simp_all [Entry.ClearedBy]
  · refine Group.ring_cancelFetch_of_unfetched rfl (Group.hasFetching_map (f := s.retiredByRemoval g ending) (fun e => ?_) rfl)
    rw [State.retiredByRemoval_st]
    cases e.st <;> simp

/-- The end of the ACTIVE record before a group is cleared out (R34, R38). -/
theorem Group.ClearedBy.of_endActive {status ending : SegStatus} {x y : Group} (h : (x.endActive status).ClearedBy ending y) :
    x.ClearedBy status y := by
  obtain ⟨hw, hr, hc, hp⟩ := h
  have hun : (x.endActive status).unfetched =
      x.unfetched.map fun e => if e.st == .active then { e with st := .draining, status := some status } else e := by
    unfold Group.unfetched Group.endActive
    rw [List.filter_map]
    congr 1
    refine List.filter_congr fun e _ => ?_
    dsimp only [Function.comp]
    cases he : e.st <;> simp [he]
    rfl
  refine ⟨?_, hr.trans ?_, hc, hp⟩
  · rw [hun, List.forall₂_map_left_iff] at hw
    refine hw.imp fun e f hef => ?_
    clear hw hr hun
    cases he : e.st <;> simp_all [Entry.ClearedBy]
  · refine Group.ring_cancelFetch_of_unfetched rfl (Group.hasFetching_map (f := fun e =>
      if e.st == .active then { e with st := .draining, status := some status } else e) (fun e => ?_) rfl)
    cases he : e.st <;> simp [he]

/-- A removal of a group's work with the clearing out of the group. -/
theorem goes_clearOut {s : State} {ending ending' : SegStatus} {f : Group → Group} (g : GroupId)
    (hclear : (s.group g).ClearedBy ending (f ((s.group g).removed s g ending')))
    (hrest : (f ((s.group g).removed s g ending')).state.atRest = true) (hx : (s.group g).state ≠ .unbound)
    (hy : (f ((s.group g).removed s g ending')).state ≠ .unbound) (harmed : (s.group g).state = .armed → 1 ≤ n)
    (htrip : ((f ((s.group g).removed s g ending')).state = .tripped ↔ (s.group g).state = .tripped) ∨ 2 ≤ n)
    (hq : (f ((s.group g).removed s g ending')).queue = (s.group g).queue) :
    State.Goes A n s ((s.removeWork g ending').modGroup g f) := by
  have hgroup : ∀ m, ((s.removeWork g ending').modGroup g f).group m =
      if m = g then f ((s.group g).removed s g ending') else s.group m := by
    intro m
    have hremoved : ∀ k, (s.removeWork g ending').group k = (s.modGroup g (Group.removed s g ending')).group k := fun _ => rfl
    rw [State.group_modGroup, hremoved, State.group_modGroup]
    split
    · next h => subst h; rfl
    · rfl
  refine ⟨fun m => ?_, fun m => ?_, fun h => (List.length_filter_le _ _).trans h,
    fun h => (List.length_filter_le _ _).trans h, rfl, rfl, id⟩
  · rw [hgroup]
    split
    · next h => subst h; exact .single (.clear hclear hrest hx hy harmed htrip)
    · exact .refl
  · rw [hgroup]
    split
    · next h => subst h; exact hq
    · rfl

/-! ## Sets -/

/-- A fold whose step at an index changes that group alone changes each of distinct groups once. -/
theorem group_foldl_each (step : State → GroupId → State) (f : GroupId → Group → Group)
    (hstep : ∀ (s : State) (m k : GroupId), (step s m).group k = if k = m then f m (s.group k) else s.group k)
    {l : List GroupId} (hl : l.Nodup) (s : State) (k : GroupId) :
    (l.foldl step s).group k = if k ∈ l then f k (s.group k) else s.group k := by
  induction l generalizing s with
  | nil => rfl
  | cons m l ih =>
    obtain ⟨hm, hl⟩ := List.nodup_cons.1 hl
    rw [List.foldl_cons, ih hl, hstep]
    by_cases hk : k = m
    · subst hk
      simp [hm]
    · simp [hk]

theorem allGroups_nodup : allGroups.Nodup := by decide

/-- What the breaking of a set does to a member (R42, R78). -/
def Group.breakOut (leaves : Bool) (x : Group) : Group :=
  (if !leaves && x.state == .armed then { x.cancelFetch.retireWaiting with state := .stopped } else x).notify .setBroken

/-- The groups after the breaking of a set: its members alone change, each once (R42). -/
theorem State.breakSet_group (s : State) (g k : GroupId) : (s.breakSet g).group k =
    if ((s.sets.find? fun t => t.members.getLsbD g).any fun t => t.members.getLsbD k) = true
    then (s.group k).breakOut (k == g) else s.group k := by
  cases h : s.sets.find? fun t => t.members.getLsbD g with
  | none => rw [State.breakSet_of_none h]; rfl
  | some t =>
    rw [State.breakSet_of_some h, group_foldl_each (breakMember t.members g)
      (fun m x => if t.members.getLsbD m then x.breakOut (m == g) else x) (fun s m k => ?_) allGroups_nodup,
      if_pos (mem_allGroups k)]
    · rfl
    · unfold breakMember
      split
      · rw [State.group_modGroup]
        split
        · next hk => subst hk; rfl
        · rfl
      · split <;> rfl

theorem State.breakSet_sets (s : State) (g : GroupId) : (s.breakSet g).sets = s.sets.filter fun t => !t.members.getLsbD g := by
  cases h : s.sets.find? fun t => t.members.getLsbD g with
  | none =>
    rw [State.breakSet_of_none h]
    exact (List.filter_eq_self.2 fun t ht => by simpa using List.find?_eq_none.1 h t ht).symm
  | some t =>
    rw [State.breakSet_of_some h]
    refine foldl_keeps State.sets _ (fun u m => ?_) _ _
    unfold breakMember
    split <;> rfl

theorem State.breakSet_captureQueue (s : State) (g : GroupId) : (s.breakSet g).captureQueue = s.captureQueue := by
  cases h : s.sets.find? fun t => t.members.getLsbD g with
  | none => rw [State.breakSet_of_none h]
  | some t =>
    rw [State.breakSet_of_some h]
    refine foldl_keeps State.captureQueue _ (fun u m => ?_) _ _
    unfold breakMember
    split <;> rfl

theorem State.breakSet_writer (s : State) (g : GroupId) : (s.breakSet g).writer = s.writer := by
  cases h : s.sets.find? fun t => t.members.getLsbD g with
  | none => rw [State.breakSet_of_none h]
  | some t =>
    rw [State.breakSet_of_some h]
    refine foldl_keeps State.writer _ (fun u m => ?_) _ _
    unfold breakMember
    split <;> rfl

theorem Group.alike_notify (x : Group) (k : NoticeKind) : x.Alike (x.notify k) :=
  ⟨rfl, rfl, rfl, List.forall₂_same.2 fun _ _ => ⟨rfl, rfl, rfl⟩, fun _ => id⟩

theorem Group.cancelFetch_queue (x : Group) : x.cancelFetch.queue = x.queue := by
  unfold Group.cancelFetch
  split <;> rfl

theorem Group.breakOut_moves (hn : 1 ≤ n) (leaves : Bool) (x : Group) :
    Group.Moves A n x (x.breakOut leaves) ∧ (x.breakOut leaves).queue = x.queue := by
  unfold Group.breakOut
  split
  · next h =>
    simp only [Bool.and_eq_true, beq_iff_eq] at h
    exact ⟨.tail (.single (.disarm x hn h.2)) (.alike (Group.alike_notify _ _)), x.cancelFetch_queue⟩
  · exact ⟨.single (.alike (Group.alike_notify _ _)), rfl⟩

theorem goes_breakSet (hn : 1 ≤ n) (s : State) (g : GroupId) : State.Goes A n s (s.breakSet g) := by
  refine ⟨fun k => ?_, fun k => ?_, fun h => s.breakSet_captureQueue g ▸ h, fun h => s.breakSet_writer g ▸ h,
    by rw [s.breakSet_writer], by rw [s.breakSet_writer], ?_⟩
  · rw [State.breakSet_group]
    split
    · exact (Group.breakOut_moves hn _ _).1
    · exact .refl
  · rw [State.breakSet_group]
    split
    · exact (Group.breakOut_moves (A := A) hn _ _).2
    · rfl
  · rw [s.breakSet_sets]
    exact (List.length_filter_le _ _).trans

end Operations

end Sys2Proof.Machine
end

section
/-! PROOF. What the sequencers, the converter and the result writer do to the groups, as moves. -/

namespace Sys2Proof.Machine

section Operations

variable {A : Prop} {n : Nat} {s t u : State} {g : GroupId}

/-! ## Faults, trips, aborts and stops -/

/-- What a fault, a trip and an abort make of the group: its work removed, its window cleared out, in a new state with
or without a notice. -/
theorem goes_clearOut_to (g : GroupId) (ending : SegStatus) (state : GroupState) (notices : NoticeSet → NoticeSet)
    (hrest : state.atRest = true) (hx : (s.group g).state ≠ .unbound) (hy : state ≠ .unbound)
    (harmed : (s.group g).state = .armed → 1 ≤ n)
    (htrip : (state = .tripped ↔ (s.group g).state = .tripped) ∨ 2 ≤ n) :
    State.Goes A n s ((s.removeWork g ending).modGroup g fun x =>
      { x.clearOut with state := state, notices := notices x.notices }) :=
  goes_clearOut g (ending := ending) (clearedBy_removed s g ending _ rfl rfl ⟨rfl, rfl⟩ rfl) hrest hx hy harmed htrip
    (Group.cancelFetch_queue _)

theorem Group.notices_clearOut (x : Group) : x.clearOut.notices = x.notices := by
  show x.cancelFetch.notices = x.notices
  unfold Group.cancelFetch
  split <;> rfl

theorem Group.clearOut_to_eq (x : Group) (state : GroupState) (k : NoticeKind) :
    { x.clearOut with state := state }.notify k =
      { x.clearOut with state := state, notices := (fun m : NoticeSet => m.add k) x.notices } := by
  show ({ x.clearOut with state := state, notices := x.clearOut.notices.add k } : Group) = _
  rw [x.notices_clearOut]

theorem State.faultGroup_eq (s : State) (g : GroupId) : s.faultGroup g =
    if (s.group g).state = .armed then
      ((s.removeWork g .aborted).modGroup g fun x => { x.clearOut with state := .faulted }.notify .faulted).breakSet g
    else (s.removeWork g .aborted).modGroup g fun x => { x.clearOut with state := .faulted }.notify .faulted := by
  unfold State.faultGroup
  by_cases h : (s.group g).state = .armed <;> simp [h]

theorem goes_faultGroup (hst : (s.group g).state.spansWindow = true) (hn : (s.group g).state = .armed → 1 ≤ n) :
    State.Goes A n s (s.faultGroup g) := by
  have hx : (s.group g).state ≠ .unbound ∧ (s.group g).state ≠ .tripped := by
    constructor <;> intro h <;> rw [h] at hst <;> cases hst
  have hclear : State.Goes A n s
      ((s.removeWork g .aborted).modGroup g fun x => { x.clearOut with state := .faulted }.notify .faulted) := by
    simp only [Group.clearOut_to_eq]
    exact goes_clearOut_to g .aborted .faulted _ rfl hx.1 nofun hn (.inl ⟨nofun, fun h => absurd h hx.2⟩)
  rw [State.faultGroup_eq]
  split
  · next h => exact hclear.trans (goes_breakSet (hn h) _ g)
  · exact hclear

theorem goes_tripGroup (hn : 2 ≤ n) (s : State) (g : GroupId) : State.Goes A n s (s.tripGroup g) := by
  have hclear : (s.group g).state ≠ .unbound → State.Goes A n s
      ((s.removeWork g .tripped).modGroup g fun x => { x.clearOut with state := .tripped }.notify .tripped) := fun hx => by
    simp only [Group.clearOut_to_eq]
    exact goes_clearOut_to g .tripped .tripped _ rfl hx nofun (fun _ => by omega) (.inr hn)
  have hrest : (s.group g).state.atRest = true → (s.group g).state ≠ .unbound →
      State.Goes A n s (s.modGroup g fun x => { x with state := .tripped }.notify .tripped) := fun hr hx => by
    refine ⟨fun m => ?_, fun m => ?_, id, id, rfl, rfl, id⟩
    · rw [State.group_modGroup]
      split
      · next h =>
        subst h
        exact .tail (.single (.rest .tripped _ hn hr hx rfl nofun)) (.alike (Group.alike_notify _ _))
      · exact .refl
    · rw [State.group_modGroup]
      split <;> rfl
  cases h : (s.group g).state with
  | unbound => rw [State.tripGroup_of_out (.inl h)]; exact .refl s
  | tripped => rw [State.tripGroup_of_out (.inr h)]; exact .refl s
  | stopped => rw [State.tripGroup_of_resting (.inl h)]; exact hrest (by rw [h]; rfl) (by rw [h]; nofun)
  | faulted => rw [State.tripGroup_of_resting (.inr h)]; exact hrest (by rw [h]; rfl) (by rw [h]; nofun)
  | armed =>
    rw [State.tripGroup_of_armed h]
    exact (hclear (by rw [h]; nofun)).trans (goes_breakSet (by omega) _ g)
  | running => rw [State.tripGroup_of_running (.inl h)]; exact hclear (by rw [h]; nofun)
  | starved => rw [State.tripGroup_of_running (.inr (.inl h))]; exact hclear (by rw [h]; nofun)
  | stopping => rw [State.tripGroup_of_running (.inr (.inr h))]; exact hclear (by rw [h]; nofun)

/-- The notices that an ABORT adds in each state (R40). -/
def abortNotices (before : GroupState) (k : NoticeSet) : NoticeSet :=
  match before with
  | .armed | .running | .starved | .stopping | .faulted => k.add .stopped
  | .stopped | .tripped | .unbound => k

theorem Group.abortNotice_eq (before state : GroupState) (x : Group) :
    Group.abortNotice before { x.clearOut with state := state } =
      { x.clearOut with state := state, notices := abortNotices before x.notices } := by
  have hn := x.notices_clearOut
  cases before <;> simp only [Group.abortNotice, abortNotices, Group.notify, hn]

theorem State.abortGroup_eq (s : State) (g : GroupId) : s.abortGroup g =
    if (s.group g).state = .armed then
      ((s.removeWork g .aborted).modGroup g fun x =>
        { x.clearOut with state := (s.group g).state.aborted, notices := abortNotices (s.group g).state x.notices }).breakSet g
    else (s.removeWork g .aborted).modGroup g fun x =>
      { x.clearOut with state := (s.group g).state.aborted, notices := abortNotices (s.group g).state x.notices } := by
  unfold State.abortGroup
  simp only [Group.abortNotice_eq]
  by_cases h : (s.group g).state = .armed <;> simp [h]

/-- The states that an ABORT leads to (R40). -/
theorem GroupState.aborted_facts {st : GroupState} (h : st ≠ .unbound) :
    st.aborted.atRest = true ∧ st.aborted ≠ .unbound ∧ (st.aborted = .tripped ↔ st = .tripped)
      ∧ (st.aborted = .stopped ∨ st.aborted = .tripped) := by
  cases st with
  | unbound => exact absurd rfl h
  | stopped | armed | running | starved | stopping | tripped | faulted => simp [GroupState.aborted, GroupState.atRest]

theorem goes_abortGroup (hx : (s.group g).state ≠ .unbound) (hn : (s.group g).state = .armed → 1 ≤ n) :
    State.Goes A n s (s.abortGroup g) := by
  obtain ⟨hrest, hun, htrip, -⟩ := GroupState.aborted_facts hx
  have hclear : State.Goes A n s ((s.removeWork g .aborted).modGroup g fun x =>
      { x.clearOut with state := (s.group g).state.aborted, notices := abortNotices (s.group g).state x.notices }) :=
    goes_clearOut_to g .aborted _ _ hrest hx hun hn (.inl htrip)
  rw [State.abortGroup_eq]
  split
  · next h => exact hclear.trans (goes_breakSet (hn h) _ g)
  · exact hclear

/-- The group that an ABORT leaves is STOPPED or TRIPPED (R40). -/
theorem State.abortGroup_state (hx : (s.group g).state ≠ .unbound) :
    ((s.abortGroup g).group g).state = .stopped ∨ ((s.abortGroup g).group g).state = .tripped := by
  obtain ⟨-, -, -, hst⟩ := GroupState.aborted_facts hx
  rw [State.abortGroup_eq]
  have hne : (s.group g).state.aborted ≠ .armed := by rcases hst with h | h <;> rw [h] <;> nofun
  split
  · rw [State.breakSet_group]
    split
    · unfold Group.breakOut
      rw [State.group_modGroup_same]
      split
      · exact .inl rfl
      · exact hst
    · rw [State.group_modGroup_same]; exact hst
  · rw [State.group_modGroup_same]; exact hst

theorem goes_discard (hst : (s.group g).state = .stopped ∨ (s.group g).state = .tripped) :
    State.Goes A n s (s.modGroup g Group.discard) := by
  refine .modGroup (.discard _ hst) ?_
  unfold Group.discard
  dsimp only
  split <;> rfl

theorem Group.stopRunning_queue (mode : StopMode) (x : Group) : (x.stopRunning mode).queue = x.queue := by
  cases mode <;> exact x.cancelFetch_queue

theorem goes_stopGroup (mode : StopMode) (hn : (s.group g).state = .armed → 1 ≤ n) :
    State.Goes A n s (s.stopGroup g mode) := by
  unfold State.stopGroup
  split
  · next h => exact .modGroup (.stopRunning mode _ h) (Group.stopRunning_queue mode _)
  · next h => exact .modGroup (.stopStarved _ h) (Group.cancelFetch_queue _)
  · next h =>
    refine State.Goes.trans ?_ (goes_breakSet (hn h) _ g)
    refine ⟨fun m => ?_, fun m => ?_, id, id, rfl, rfl, id⟩
    · rw [State.group_modGroup]
      split
      · next hm =>
        subst hm
        exact .tail (.single (.disarm _ (hn h) h)) (.alike (Group.alike_notify _ _))
      · exact .refl
    · rw [State.group_modGroup]
      split
      · exact Group.cancelFetch_queue _
      · rfl
  · exact .refl s

/-! ## Boundaries -/

/-- A group whose period is counted: its counts and its counter alone move (R29). -/
theorem Group.alike_countPeriod (x : Group) (slot : Nat) :
    x.Alike ((x.modSlot slot fun e => { e with periodsRun := satSucc32 e.periodsRun }).holdCounter) := by
  have h := x.alike_modSlot slot (f := fun e => { e with periodsRun := satSucc32 e.periodsRun }) fun _ => ⟨rfl, rfl, rfl⟩
  exact ⟨h.state, h.pending, h.ring, h.window, fun _ _ => ⟨rfl, rfl⟩⟩

/-- A takeover that is granted moves the group as one (R30). -/
theorem goes_takeover {e d : Entry} {u : State} (hst : (s.group g).state = .running) (hd : (s.group g).next? = some d)
    (hr : d.st = .ready) (h : s.takeover g e d = some u) : State.Goes A n s u := by
  unfold State.takeover at h
  dsimp only at h
  split at h
  · cases h
  · next tokens sats _ =>
    obtain rfl := Option.some.inj h
    generalize ((sats.take (endParts e.copy).length).any id) = endSat
    generalize ((sats.drop ((endParts e.copy).length + (claimParts d.copy).length)).any id) = startSat
    have hgroup : ∀ m, ((((State.modGroup g (Group.endActive .ok) { s with tokens := tokens }).modEntry (e.ref g)
        (Entry.saturate endSat))).modGroup g (Group.beginRecord d.slot startSat)).group m =
        if m = g then ((((s.group g).endActive .ok).modSlot e.slot (Entry.saturate endSat)).beginRecord d.slot startSat)
          else s.group m := by
      intro m
      rw [State.group_modGroup]
      split
      · next hm =>
        subst hm
        rw [State.modEntry, Entry.ref, State.group_modGroup_same, State.group_modGroup_same]
        rfl
      · next hm =>
        rw [State.modEntry, Entry.ref, State.group_modGroup_ne _ _ hm, State.group_modGroup_ne _ _ hm]
        rfl
    refine ⟨fun m => ?_, fun m => ?_, id, id, rfl, rfl, id⟩
    · rw [hgroup]
      split
      · next hm => subst hm; exact .single (.takeover e.slot endSat startSat d _ hst hd hr)
      · exact .refl
    · rw [hgroup]
      split
      · next hm => subst hm; rfl
      · rfl

theorem State.endPost_group_state (s : State) (g m : GroupId) (e : Entry) : ((s.endPost g e).group m).state = (s.group m).state := by
  unfold State.endPost
  split
  · rfl
  · rw [State.modEntry, State.group_modGroup]
    split <;> rfl

theorem goes_starve (e : Entry) (hst : (s.group g).state = .running) : State.Goes A n s (s.starve g e) := by
  have hpost := s.endPost_group_state g g e
  unfold State.starve
  refine State.Goes.trans (goes_endPost s g e) ?_
  exact .modGroup (.starve _ (hpost.trans hst)) rfl

/-- The faulting of a group whose ACTIVE record ends with it (R34, R38). -/
theorem goes_end_faultGroup (status : SegStatus) (hst : (s.group g).state = .running ∨ (s.group g).state = .stopping) :
    State.Goes A n s ((s.modGroup g (Group.endActive status)).faultGroup g) := by
  have hgroup : (s.modGroup g (Group.endActive status)).group g = (s.group g).endActive status := State.group_modGroup_same ..
  have hstate : ((s.modGroup g (Group.endActive status)).group g).state = (s.group g).state := by rw [hgroup]; rfl
  have hna : ¬((s.modGroup g (Group.endActive status)).group g).state = .armed := by
    rw [hstate]; rcases hst with h | h <;> rw [h] <;> nofun
  rw [State.faultGroup_eq, if_neg hna]
  generalize hs' : s.modGroup g (Group.endActive status) = s' at hgroup hstate hna
  have hgroup' : ∀ m, ((s'.removeWork g .aborted).modGroup g fun x =>
      { x.clearOut with state := .faulted }.notify .faulted).group m = if m = g
        then { (((s.group g).endActive status).removed s' g .aborted).clearOut with state := .faulted }.notify .faulted
        else s.group m := by
    intro m
    have hremoved : ∀ k, (s'.removeWork g .aborted).group k = (s'.modGroup g (Group.removed s' g .aborted)).group k := fun _ => rfl
    rw [State.group_modGroup, hremoved, State.group_modGroup]
    split
    · next h => subst h; rw [hgroup]
    · next h => rw [← hs', State.group_modGroup_ne _ _ h]
  refine ⟨fun m => ?_, fun m => ?_, fun h => ?_, fun h => ?_, ?_, ?_, ?_⟩
  · rw [hgroup']
    split
    · next h =>
      subst h
      refine .single (.clear (ending := status) ?_ rfl ?_ nofun ?_ (.inl ⟨nofun, fun h => ?_⟩))
      · refine (clearedBy_removed s' m .aborted ((s.group m).endActive status) ?_ ?_ ⟨?_, ?_⟩ ?_).of_endActive
        all_goals rfl
      · rcases hst with h | h <;> rw [h] <;> nofun
      · rcases hst with h | h <;> rw [h] <;> nofun
      · rcases hst with h' | h' <;> rw [h'] at h <;> cases h
    · exact .refl
  · rw [hgroup']
    split
    · next h =>
      subst h
      exact Group.cancelFetch_queue (((s.group m).endActive status).removed s' m .aborted)
    · rfl
  all_goals subst hs'
  · exact (List.length_filter_le _ _).trans h
  · exact (List.length_filter_le _ _).trans h
  · rfl
  · rfl
  · exact id

theorem goes_endAndFault (e : Entry) (hst : (s.group g).state = .running) : State.Goes A n s (s.endAndFault g e) := by
  have hpost := s.endPost_group_state g g e
  unfold State.endAndFault
  exact (goes_endPost s g e).trans (goes_end_faultGroup .ok (.inl (hpost.trans hst)))

theorem goes_runningBoundary (e : Entry) (hst : (s.group g).state = .running) :
    State.Goes A n s (s.runningBoundary g e) := by
  have htake : ∀ {d : Entry} {v : State}, (s.group g).next? = some d → d.st = .ready → State.Goes A n s v →
      State.Goes A n s ((s.takeover g e d).getD v) := by
    intro d v hd hr hv
    cases h : s.takeover g e d with
    | none => exact hv
    | some u => exact goes_takeover hst hd hr h
  unfold State.runningBoundary
  split
  · next d hd =>
    split
    · next hr =>
      have hr : d.st = .ready := by simpa using hr
      split
      · exact htake hd hr (.refl s)
      · split
        · exact .refl s
        · exact htake hd hr (goes_modEntry s _ (f := Entry.extend) fun _ => ⟨rfl, rfl, rfl⟩)
    · split
      · exact .refl s
      · exact goes_endAndFault e hst
  · split
    · exact .refl s
    · exact goes_starve e hst

theorem State.modGroup_modGroup (s : State) (g : GroupId) (f f' : Group → Group) :
    (s.modGroup g f).modGroup g f' = s.modGroup g fun x => f' (f x) := by
  unfold State.modGroup
  rw [State.group_setGroup_same]
  simp [State.setGroup]

theorem goes_stopEnding (e : Entry) {status : SegStatus} (hs : status = .ok ∨ status = .cut)
    (hst : (s.group g).state = .stopping) : State.Goes A n s (s.stopEnding g e status) := by
  have hpost : State.Goes A n s (if (status == .ok) = true then s.endPost g e else s)
      ∧ ((if (status == .ok) = true then s.endPost g e else s).group g).state = .stopping := by
    split
    · exact ⟨goes_endPost s g e, (s.endPost_group_state g g e).trans hst⟩
    · exact ⟨.refl s, hst⟩
  unfold State.stopEnding
  dsimp only
  generalize (if (status == .ok) = true then s.endPost g e else s) = v at hpost
  refine hpost.1.trans ?_
  split
  · exact goes_end_faultGroup status (.inr hpost.2)
  · have heq : (v.modGroup g (Group.endActive status)).modGroup g
        (fun x => { x.retireWaiting.holdCounter with pendingStop := .noStop }) = v.modGroup g fun x =>
          { (x.endActive status).retireWaiting.holdCounter with pendingStop := .noStop } := by
      rw [State.modGroup_modGroup]
    rw [heq]
    exact .modGroup (.stopEnding status hs _ hpost.2) rfl

theorem goes_stoppingBoundary (e : Entry) (hst : (s.group g).state = .stopping) :
    State.Goes A n s (s.stoppingBoundary g e) := by
  unfold State.stoppingBoundary
  split
  · exact goes_stopEnding e (by split <;> simp) hst
  · split
    · exact goes_stopEnding e (.inl rfl) hst
    · exact .refl s
  · exact .refl s

theorem goes_boundary (e : Entry) (hst : (s.group g).state = .running ∨ (s.group g).state = .stopping) :
    State.Goes A n s (s.boundary g e) := by
  have hcount : State.Goes A n s (s.modGroup g fun x =>
      (x.modSlot e.slot fun e => { e with periodsRun := satSucc32 e.periodsRun }).holdCounter) :=
    .modGroup (.alike (Group.alike_countPeriod _ e.slot)) rfl
  have hstate : ((s.modGroup g fun x =>
      (x.modSlot e.slot fun e => { e with periodsRun := satSucc32 e.periodsRun }).holdCounter).group g).state =
      (s.group g).state := by rw [State.group_modGroup_same]; rfl
  unfold State.boundary
  dsimp only
  refine hcount.trans ?_
  rw [← hstate] at hst
  split
  · next h => exact goes_stoppingBoundary _ (by simpa using h)
  · next h => exact goes_runningBoundary _ (hst.resolve_right (by simpa using h))

theorem goes_tickOutputs (s : State) (g : GroupId) : State.Goes A n s (s.tickOutputs g) := .of_same rfl rfl rfl (Nat.le_refl _)

theorem goes_enterOutputs (s : State) (g : GroupId) : State.Goes A n s (s.enterOutputs g) := .of_same rfl rfl rfl (Nat.le_refl _)

theorem goes_markTick (s : State) (g : GroupId) : State.Goes A n s (s.markTick g) := .of_same rfl rfl rfl (Nat.le_refl _)

theorem goes_afterBoundary (s : State) (g : GroupId) : State.Goes A n s (s.afterBoundary g) := by
  unfold State.afterBoundary
  split
  · exact (goes_tickOutputs s g).trans (goes_triggers _ g)
  · exact .refl s

theorem Group.running_of_atBoundary {x : Group} (h : x.atBoundary = true) : x.state = .running ∨ x.state = .stopping := by
  unfold Group.atBoundary at h
  split at h
  · rw [Bool.and_eq_true] at h
    exact ((Group.producing_iff x).1 h.1).2
  · cases h

theorem goes_periodBoundary (hb : (s.group g).atBoundary = true) : State.Goes A n s (s.periodBoundary g) := by
  unfold State.periodBoundary
  split
  · exact .refl s
  · refine State.Goes.trans ?_ (goes_pump _)
    refine State.Goes.trans ?_ (goes_afterBoundary _ g)
    refine State.Goes.trans (goes_markTick s g) ?_
    exact goes_boundary (s := s.markTick g) _ (Group.running_of_atBoundary hb)

/-! ## Ticks -/

/-- A counter step of a group with an ACTIVE record (R48). -/
theorem Group.alike_stepCounter (P : Nat) {x : Group} (h : x.hasActive = true) : x.Alike (x.stepCounter P) := by
  have hpos := (Group.hasActive_iff_activeCount_pos x).1 h
  rw [Group.stepCounter_eq]
  exact ⟨rfl, rfl, rfl, List.forall₂_same.2 fun _ _ => ⟨rfl, rfl, rfl⟩, fun h0 => absurd h0 (by omega)⟩

theorem goes_stepTick (s : State) (g : GroupId) : State.Goes A n s (s.stepTick g) := by
  unfold State.stepTick
  split
  · exact .refl s
  · next e _ =>
    split
    · next hp =>
      have halike := Group.alike_stepCounter (Seg.period e.copy) ((Group.producing_iff _).1 hp).1
      refine State.Goes.trans ?_ (goes_triggers _ g)
      refine State.Goes.trans ?_ (goes_tickOutputs _ g)
      exact .modGroup (.alike halike) (by rw [Group.stepCounter_eq])
    · exact .refl s

theorem goes_resume (hr : (s.group g).atResume = true) : State.Goes A n s (s.resume g) := by
  simp only [Group.atResume, Bool.and_eq_true, beq_iff_eq] at hr
  unfold State.resume
  split
  · exact .refl s
  · next d hd =>
    have hready : d.st = .ready := by
      have h := hr.2
      rw [Group.nextReady, hd] at h
      simpa using h
    dsimp only
    split
    · exact .refl s
    · next tokens sats _ =>
      refine State.Goes.trans ?_ (goes_triggers _ g)
      refine State.Goes.trans ?_ (goes_enterOutputs _ g)
      refine State.Goes.trans (t := { s with tokens := tokens }) (.of_same rfl rfl rfl (Nat.le_refl _)) ?_
      refine State.Goes.modGroup (g := g) ?_ ?_
      · exact .resume _ d _ hr.1 hd hready
      · rfl

/-! ## The converter and the result writer -/

theorem goes_convTick (s : State) (v : BitVec 12) : State.Goes A n s (s.convTick v) := by
  unfold State.convTick
  dsimp only
  split <;> exact .of_same rfl rfl rfl (Nat.le_refl _)

theorem goes_offerResult (s : State) (r : ConvResult) : State.Goes A n s (s.offerResult r) := by
  unfold State.offerResult
  dsimp only
  split
  · next h =>
    refine .of_groups rfl id (fun _ => ?_) rfl rfl rfl
    show (s.writer.queue ++ [r]).length ≤ 4
    rw [List.length_append]
    exact h
  · exact .of_same rfl rfl rfl (Nat.le_refl _)

theorem goes_conversionEnd (s : State) : State.Goes A n s s.conversionEnd := by
  unfold State.conversionEnd
  split
  · exact .refl s
  · dsimp only
    split
    · exact .of_same rfl rfl rfl (Nat.le_refl _)
    · exact (goes_offerResult s _).trans (goes_pump _)

theorem goes_endJob (s : State) (ref : EntryRef) : State.Goes A n s (s.endJob ref) := by
  unfold State.endJob
  split
  · exact .of_groups rfl id id rfl rfl rfl
  · exact .refl s

theorem goes_countWord (s : State) (w : WordOnBus) : State.Goes A n s (s.countWord w) := by
  have hcount : State.Goes A n s (s.modEntry w.ref fun e =>
      { e with wordsWritten := e.wordsWritten + 1, crc := crcWord e.crc w.word }) :=
    goes_modEntry s _ fun _ => ⟨rfl, rfl, rfl⟩
  unfold State.countWord
  dsimp only
  split
  · split
    · exact hcount.trans (goes_endJob _ _)
    · exact hcount
  · exact hcount

theorem goes_faultWord (s : State) (w : WordOnBus) : State.Goes A n s (s.faultWord w) := by
  unfold State.faultWord
  refine State.Goes.trans ?_ (goes_endJob _ _)
  exact goes_modEntry s _ fun _ => ⟨rfl, rfl, rfl⟩

/-- The answer to a result write, once the write has left the bus (R107, R108). -/
theorem goes_resultAnswered {f : WordOnBus → State → State} (hf : ∀ w s, State.Goes A n s (f w s)) (s : State) :
    State.Goes A n s.wordAnswered (s.resultAnswered f) := by
  unfold State.resultAnswered
  split
  · exact .refl _
  · refine State.Goes.trans ?_ (goes_pump _)
    split
    · exact .refl _
    · exact hf _ _

end Operations

end Sys2Proof.Machine
end

section
/-! PROOF. What one step does to the groups and to the bounds of the queues. -/

namespace Sys2Proof.Machine

/-- What an effect does to a state: each group begins a read or moves, and no queue outgrows its capacity. -/
structure State.Leads (armedOnly : Prop) (s t : State) : Prop where
  turns : ∀ g, Group.Turn armedOnly (s.group g) (t.group g)
  queues : ∀ g, (s.group g).queue.length ≤ 4 → (t.group g).queue.length ≤ 4
  requests : s.captureQueue.length ≤ 16 → t.captureQueue.length ≤ 16
  results : s.writer.queue.length ≤ 4 → t.writer.queue.length ≤ 4
  sets : s.sets.length ≤ 4 → t.sets.length ≤ 4

section Leading

variable {A : Prop} {n : Nat} {s t u : State} {g : GroupId}

theorem Group.Turn.refl (x : Group) : Group.Turn A x x := .moves .refl

theorem State.Goes.leads (h : State.Goes A 2 s t) : State.Leads A s t :=
  ⟨fun g => .moves (h.moves g), fun g hq => h.queues g ▸ hq, h.requests, h.results, h.sets⟩

theorem State.Leads.of_groups (hg : t.groups = s.groups) (hc : t.captureQueue = s.captureQueue)
    (hw : t.writer.queue = s.writer.queue) (hs : t.sets = s.sets) : State.Leads A s t := by
  have hgroup : ∀ m, t.group m = s.group m := fun m => by rw [State.group, hg]; rfl
  exact ⟨fun m => hgroup m ▸ .refl _, fun m h => hgroup m ▸ h, fun h => hc ▸ h, fun h => hw ▸ h, fun h => hs ▸ h⟩

/-- One group takes a turn. -/
theorem State.Leads.modGroup {f : Group → Group} (h : Group.Turn A (s.group g) (f (s.group g)))
    (hq : (s.group g).queue.length ≤ 4 → (f (s.group g)).queue.length ≤ 4) : State.Leads A s (s.modGroup g f) := by
  refine ⟨fun m => ?_, fun m => ?_, id, id, id⟩
  · rw [State.group_modGroup]
    split
    · next hm => subst hm; exact h
    · exact .refl _
  · rw [State.group_modGroup]
    split
    · next hm => subst hm; exact hq
    · exact id

/-- What leaves the groups, the capture path and the sets alone may come after. -/
theorem State.Leads.then_same (h : State.Leads A s t) (hg : u.groups = t.groups) (hc : u.captureQueue = t.captureQueue)
    (hw : u.writer.queue = t.writer.queue) (hs : u.sets = t.sets) : State.Leads A s u := by
  have hgroup : ∀ m, u.group m = t.group m := fun m => by rw [State.group, hg]; rfl
  exact ⟨fun m => hgroup m ▸ h.turns m, fun m hq => hgroup m ▸ h.queues m hq, fun hq => hc ▸ h.requests hq,
    fun hq => hw ▸ h.results hq, fun hq => hs ▸ h.sets hq⟩

/-! ## The firing of a set -/

/-- The triggers of a group move no other group. -/
theorem State.triggers_group_ne (s : State) {m : GroupId} (h : m ≠ g) : (s.triggers g).group m = s.group m := by
  cases he : (s.group g).active? with
  | none => rw [triggers_of_no_active he]
  | some e => exact (triggers_countsAt he).others m h

/-- The group that a firing makes of a member (R28, R77). -/
def Group.fired (slot : Nat) (sat : Bool) (x : Group) : Group :=
  { x.beginRecord slot sat with presc := 0 }.notify .started

theorem State.fireMember_of_first {posters : List (GroupId × Bool)} {e : Entry} (h : s.first? g = some e) :
    State.fireMember posters s g =
      ((((s.modGroup g (Group.fired e.slot (posters.any fun q => q.1 == g && q.2))).markTick g).enterOutputs g).triggers g) := by
  unfold State.fireMember
  rw [h]
  rfl

theorem State.fireMember_group_ne (posters : List (GroupId × Bool)) (s : State) {m : GroupId} (h : m ≠ g) :
    (State.fireMember posters s g).group m = s.group m := by
  cases hf : s.first? g with
  | none => unfold State.fireMember; rw [hf]
  | some e =>
    rw [State.fireMember_of_first hf, State.triggers_group_ne _ h]
    exact State.group_modGroup_ne s _ h

theorem goes_fireMember (hn : 1 ≤ n) (posters : List (GroupId × Bool)) (hA : A → (s.group g).state = .armed)
    (hr : ∀ e, s.first? g = some e → e.st = .ready) : State.Goes A n s (State.fireMember posters s g) := by
  cases hf : s.first? g with
  | none => unfold State.fireMember; rw [hf]; exact .refl s
  | some e =>
    rw [State.fireMember_of_first hf]
    refine State.Goes.trans ?_ (goes_triggers _ g)
    refine State.Goes.trans ?_ (goes_enterOutputs _ g)
    refine State.Goes.trans ?_ (goes_markTick _ g)
    refine State.Goes.modGroup ?_ ?_
    · exact .fire _ e _ hn hA hf (hr e hf)
    · rfl

/-- The members of a ready set fire one after the other, each from the state it had before (R77). -/
theorem goes_fireMembers (hn : 1 ≤ n) (posters : List (GroupId × Bool)) {l : List GroupId} (hl : l.Nodup) :
    ∀ {s : State}, (∀ m ∈ l, (A → (s.group m).state = .armed) ∧ ∀ e, s.first? m = some e → e.st = .ready) →
      State.Goes A n s (l.foldl (State.fireMember posters) s) := by
  induction l with
  | nil => exact fun _ => .refl _
  | cons m l ih =>
    intro s h
    obtain ⟨hm, hl⟩ := List.nodup_cons.1 hl
    obtain ⟨harmed, hready⟩ := h m (List.mem_cons_self ..)
    refine (goes_fireMember hn posters harmed hready).trans (ih hl fun k hk => ?_)
    have hkeep : (State.fireMember posters s m).group k = s.group k :=
      State.fireMember_group_ne posters s fun he => hm (he ▸ hk)
    have hfirst : (State.fireMember posters s m).first? k = s.first? k := by rw [State.first?, hkeep]; rfl
    rw [hkeep, hfirst]
    exact h k (List.mem_cons_of_mem _ hk)

theorem StartSet.groups_nodup (t : StartSet) : t.groups.Nodup := allGroups_nodup.filter _

theorem StartSet.mem_groups {t : StartSet} {m : GroupId} : m ∈ t.groups ↔ t.members.getLsbD m = true := by
  simp [StartSet.groups, mem_allGroups]

theorem State.setOf_some {t : StartSet} (h : s.setOf g = some t) : t ∈ s.sets ∧ t.members.getLsbD g = true :=
  ⟨List.mem_of_find?_eq_some h, by simpa using List.find?_some h⟩

/-- The members of a pending set are ARMED (R72). -/
theorem SetLaw.armed (hs : SetLaw s) {t : StartSet} (ht : t ∈ s.sets) {m : GroupId} (hm : t.members.getLsbD m = true) :
    (s.group m).state = .armed := by
  have h := hs m
  by_contra hne
  rw [if_neg hne, State.setsNaming, List.length_eq_zero_iff, List.filter_eq_nil_iff] at h
  exact h t ht hm

theorem State.setReady_iff {t : StartSet} : s.setReady t = true ↔
    ∀ m ∈ t.groups, ∃ e, s.first? m = some e ∧ e.st = .ready := by
  unfold State.setReady
  rw [List.all_eq_true]
  refine forall₂_congr fun m _ => ?_
  cases s.first? m <;> simp

/-- A set that is due fires ready members, which the set law says are ARMED (R75). -/
theorem goes_fireSet (hn : 1 ≤ n) (hd : s.setDue g = true) (hA : A → SetLaw s) : State.Goes A n s (s.fireSet g) := by
  unfold State.setDue at hd
  unfold State.fireSet
  split
  · exact .refl s
  · next t ht =>
    rw [ht] at hd
    simp only [Bool.and_eq_true] at hd
    split
    · refine State.Goes.of_same rfl rfl rfl ?_
      exact (List.length_map ..).le
    · refine State.Goes.trans ?_
        (goes_fireMembers hn _ t.groups_nodup fun m hm => ⟨fun ha => ?_, fun e he => ?_⟩)
      · refine State.Goes.of_same rfl rfl rfl ?_
        exact List.length_filter_le ..
      · exact (hA ha).armed (State.setOf_some ht).1 (StartSet.mem_groups.1 hm)
      · obtain ⟨e', he', hst⟩ := State.setReady_iff.1 hd.2 m hm
        have he'' : s.first? m = some e := he
        rw [he'] at he''
        exact Option.some.inj he'' ▸ hst

/-! ## The trip unit -/

theorem goes_levelChange (s : State) (l : LineId) : State.Goes A 2 s (s.levelChange l) := by
  rw [levelChange_eq]
  have hline : State.Goes A 2 s (s.setLine l (s.line l).change) := .of_same rfl rfl rfl (Nat.le_refl _)
  split
  · split
    · refine State.Goes.trans ?_ (goes_pump _)
      refine State.Goes.trans ?_ (goes_foldl _ (fun t m => goes_tripGroup (Nat.le_refl 2) t m) _ _)
      exact .of_same rfl rfl rfl (Nat.le_refl _)
    · exact .of_same rfl rfl rfl (Nat.le_refl _)
  · exact hline

theorem goes_judgeSample (s : State) (l : LineId) (level : Level) : State.Goes A 2 s (s.judgeSample l level) := by
  unfold State.judgeSample
  split
  · exact goes_levelChange s l
  · exact .of_same rfl rfl rfl (Nat.le_refl _)

/-- As `Goes`, but for the result writer's write, which settling works out. -/
structure State.Shifts (armedOnly : Prop) (s t : State) : Prop where
  moves : ∀ g, Group.Moves armedOnly 2 (s.group g) (t.group g)
  queues : ∀ g, (t.group g).queue = (s.group g).queue
  requests : s.captureQueue.length ≤ 16 → t.captureQueue.length ≤ 16
  results : s.writer.queue.length ≤ 4 → t.writer.queue.length ≤ 4
  sets : s.sets.length ≤ 4 → t.sets.length ≤ 4

theorem State.Goes.shifts (h : State.Goes A 2 s t) : State.Shifts A s t :=
  ⟨h.moves, h.queues, h.requests, h.results, h.sets⟩

theorem State.Shifts.leads (h : State.Shifts A s t) : State.Leads A s t :=
  ⟨fun g => .moves (h.moves g), fun g hq => h.queues g ▸ hq, h.requests, h.results, h.sets⟩

theorem State.Shifts.trans (h : State.Shifts A s t) (h' : State.Shifts A t u) : State.Shifts A s u :=
  ⟨fun g => (h.moves g).trans (h'.moves g), fun g => (h'.queues g).trans (h.queues g), fun hs => h'.requests (h.requests hs),
    fun hs => h'.results (h.results hs), fun hs => h'.sets (h.sets hs)⟩

theorem shifts_settle (s : State) : State.Shifts A s s.settle := ⟨fun _ => .refl, fun _ => rfl, id, id, id⟩

theorem shifts_lineStep (s : State) (l : LineId) : State.Shifts A s (s.lineStep l) := by
  unfold State.lineStep
  split
  · exact (State.Goes.refl s).shifts
  · exact (goes_judgeSample s l _).shifts.trans (shifts_settle _)

theorem shifts_finishSample (s : State) : State.Shifts A s s.finishSample :=
  foldl_inv (State.Shifts A s) _ (fun t l h => h.trans (shifts_lineStep t l)) _ _ (State.Goes.refl s).shifts

/-! ## Administrative commands -/

/-- The binding of a ring, as moves (R22, R155). -/
theorem Group.bind_moves (cmd : Slot32) (tripped : Bool) {x : Group}
    (hst : x.state = .unbound ∨ (x.state = .stopped ∧ x.window = [])) : Group.Moves A 2 x (x.bind cmd tripped) := by
  have hring : 0 < (boundRing (Cmd.base cmd) (Cmd.number cmd)).size ∧ (boundRing (Cmd.base cmd) (Cmd.number cmd)).tail = 0
      ∧ (boundRing (Cmd.base cmd) (Cmd.number cmd)).fetch = 0 ∧ (boundRing (Cmd.base cmd) (Cmd.number cmd)).retire = 0
      ∧ (boundRing (Cmd.base cmd) (Cmd.number cmd)).span = 0 := ⟨Nat.two_pow_pos _, rfl, rfl, rfl, rfl⟩
  unfold Group.bind
  dsimp only
  rcases hst with hst | ⟨hst, hw⟩
  · rw [if_pos (by simp [hst])]
    split
    · exact .tail (.single (.bind _ .tripped x (fun _ => Nat.le_refl _) hring (.inl ⟨hst, .inr rfl⟩)))
        (.alike (Group.alike_notify _ _))
    · exact .single (.bind _ .stopped x (fun _ => Nat.le_refl _) hring (.inl ⟨hst, .inl rfl⟩))
  · rw [if_neg (by simp [hst])]
    exact .single (.bind _ x.state x (fun _ => Nat.le_refl _) hring (.inr ⟨hst, hw, hst⟩))

theorem Group.bind_queue (cmd : Slot32) (tripped : Bool) (x : Group) : (x.bind cmd tripped).queue = x.queue := by
  unfold Group.bind
  dsimp only
  split
  · split <;> rfl
  · rfl

/-- The end of a trip condition (R126). -/
theorem Group.clearTrip_moves (x : Group) : Group.Moves A 2 x x.clearTrip ∧ x.clearTrip.queue = x.queue := by
  unfold Group.clearTrip
  split
  · next h =>
    have hst : x.state = .tripped := by simpa using h
    refine ⟨.tail (.single (.rest .stopped x (Nat.le_refl _) (by rw [hst]; rfl) (by rw [hst]; nofun) rfl nofun))
      (.alike (Group.alike_notify _ _)), rfl⟩
  · exact ⟨.refl, rfl⟩

theorem State.Shifts.modGroup {f : Group → Group} (h : Group.Moves A 2 (s.group g) (f (s.group g)))
    (hq : (f (s.group g)).queue = (s.group g).queue) : State.Shifts A s (s.modGroup g f) := by
  refine ⟨fun m => ?_, fun m => ?_, id, id, id⟩
  · rw [State.group_modGroup]
    split
    · next hm => subst hm; exact h
    · exact .refl
  · rw [State.group_modGroup]
    split
    · next hm => subst hm; exact hq
    · rfl

theorem shifts_start (members : Byte) (hroom : s.sets.length < 4)
    (hnamed : ∀ m : GroupId, members.getLsbD m = true → (s.group m).state = .stopped ∧ (s.group m).window = []) :
    State.Shifts A s ((maskGroups members).foldl
      (fun (t : State) (m : GroupId) => t.modGroup m fun x => { x with state := .armed })
      { s with sets := s.sets ++ [{ members := members.extractLsb' 0 4 }] }) := by
  have hgroup : ∀ m, ((maskGroups members).foldl
      (fun (t : State) (m : GroupId) => t.modGroup m fun x => { x with state := .armed })
      { s with sets := s.sets ++ [{ members := members.extractLsb' 0 4 }] }).group m =
      if m ∈ maskGroups members then { s.group m with state := .armed } else s.group m := fun m =>
    group_foldl_modGroup _ (maskGroups_nodup _) _ m
  refine ⟨fun m => ?_, fun m => ?_, fun h => ?_, fun h => ?_, fun _ => ?_⟩
  · rw [hgroup]
    split
    · next hm =>
      obtain ⟨hst, hw⟩ := hnamed m (List.mem_filter.1 hm).2
      exact .single (.arm _ (by decide) hst hw)
    · exact .refl
  · rw [hgroup]
    split <;> rfl
  all_goals rw [foldl_modGroup_eq]
  · exact h
  · exact h
  · show (s.sets ++ [_]).length ≤ 4
    rw [List.length_append, List.length_singleton]
    exact hroom

theorem Serves.shifts (h : Serves s u) : State.Shifts A s u := by
  have alike : ∀ {v : State} {g : GroupId} {f : Group → Group}, (s.group g).Alike (f (s.group g)) →
      (f (s.group g)).queue = (s.group g).queue → State.Shifts A s (s.modGroup g f) := fun h hq =>
    .modGroup (.single (.alike h)) hq
  have same : State.Shifts A s s := (State.Goes.refl s).shifts
  cases h with
  | nothing | setPair | setConverter | setTrip | setToken => exact ⟨same.moves, same.queues, id, id, id⟩
  | bind g cmd _ _ hst => exact .modGroup (Group.bind_moves cmd _ hst) (Group.bind_queue cmd _ _)
  | unbind g _ hst hw => exact .modGroup (.single (.unbind _ (Nat.le_refl _) hst hw)) rfl
  | setGroup g d mode =>
    have h : State.Shifts A s (s.modGroup g fun x => { x with d := d, mode := mode, presc := 0 }) :=
      .modGroup (.single (.alike ⟨rfl, rfl, rfl, List.forall₂_same.2 fun _ _ => ⟨rfl, rfl, rfl⟩, fun _ => id⟩)) rfl
    exact ⟨h.moves, h.queues, id, id, id⟩
  | start members _ hroom hnamed => exact shifts_start members hroom fun m hm => (hnamed m hm).2
  | stop g mode => exact ((goes_stopGroup mode fun _ => by decide).trans (goes_pump _)).shifts
  | abort g _ hst => exact ((goes_abortGroup hst fun _ => by decide).trans (goes_pump _)).shifts
  | discard g _ hst =>
    exact ((goes_abortGroup hst fun _ => by decide).trans
      ((goes_discard (State.abortGroup_state hst)).trans (goes_pump _))).shifts
  | clearTrip l =>
    refine foldl_inv (State.Shifts A s) _ (fun t g ht => ?_) _ _ ⟨same.moves, same.queues, id, id, id⟩
    split
    · exact ht
    · exact ht.trans (.modGroup (Group.clearTrip_moves _).1 (Group.clearTrip_moves (A := A) _).2)
  | finishSample => exact shifts_finishSample s

/-! ## Every effect -/

theorem goes_reset_groups (hg : ∀ m, t.group m = {}) (hc : t.captureQueue = []) (hw : t.writer.queue = [])
    (hs : t.sets = []) : State.Leads A s t :=
  ⟨fun m => hg m ▸ .moves (.single (.reset _ (Nat.le_refl _))), fun m _ => hg m ▸ Nat.zero_le _, fun _ => hc ▸ Nat.zero_le _,
    fun _ => hw ▸ Nat.zero_le _, fun _ => hs ▸ Nat.zero_le _⟩

/-- A granted group's fetcher may read (R23). -/
theorem Group.mayFetch_of_granted (h : s.granted (.fetcher g) = true) : (s.group g).MayFetch := by
  have hasks := ((State.granted_iff s (.fetcher g)).1 h).2
  have hasks : s.fetcherAsks g = true := by simpa [State.asking] using List.find?_some hasks
  obtain ⟨-, hst, hlen, hno, hspan, -, hav⟩ := (State.fetcherAsks_iff s g).1 hasks
  exact ⟨by rcases hst with h | h | h <;> rw [h] <;> rfl, hlen, hno, hspan, hav⟩

theorem settlesFetch_fetched (slot : Slot64) (valid : Bool) : SettlesFetch (Entry.fetched slot valid) := by
  cases valid
  · exact ⟨fun _ => rfl, fun _ => .inr ⟨rfl, .inl rfl⟩⟩
  · exact ⟨fun _ => rfl, fun _ => .inl ⟨rfl, rfl⟩⟩

theorem settlesFetch_fetchFailed : SettlesFetch Entry.fetchFailed :=
  ⟨fun _ => rfl, fun _ => .inr ⟨rfl, .inr rfl⟩⟩

theorem Group.spansWindow_of_readFaults {x : Group} (h : x.readFaults = true) : x.state.spansWindow = true := by
  simp only [Group.readFaults, Bool.or_eq_true, Bool.and_eq_true, beq_iff_eq] at h
  rcases h with ⟨h, -⟩ | ⟨h, -⟩ <;> rw [h] <;> rfl

theorem goes_readAnswered (hn : 1 ≤ n) {f : Entry → Entry} (hf : SettlesFetch f) (s : State) (g : GroupId) :
    State.Goes A n s (s.readAnswered g f) := by
  have hans : State.Goes A n s (s.answered (.fetcher g)) := .of_same rfl rfl rfl (Nat.le_refl _)
  unfold State.readAnswered
  dsimp only
  split
  · have hsettle : State.Goes A n s ((s.answered (.fetcher g)).modGroup g (Group.settleFetch f)) := by
      refine hans.trans (State.Goes.modGroup ?_ ?_)
      · exact .settleFetch f hf _
      · rfl
    split
    · next h =>
      exact hsettle.trans ((goes_faultGroup (Group.spansWindow_of_readFaults h) fun _ => hn).trans (goes_pump _))
    · exact hsettle
  · exact hans

theorem State.leaveDue_head {e : Entry} {rest : List Entry} (h : s.leaveDue g = true) (hw : (s.group g).window = e :: rest) :
    e.st = .retiring ∧ (e.silent = true ∨ (s.group g).queue.length < 4) := by
  unfold State.leaveDue at h
  rw [hw] at h
  simp only [List.head?_cons, Bool.and_eq_true, Bool.or_eq_true, decide_eq_true_eq] at h
  exact ⟨((State.canRetire_iff s g e).1 h.1.2).1, h.2⟩

theorem leads_leave (h : s.leaveDue g = true) : State.Leads A s (s.modGroup g (Group.leave g)) := by
  cases hw : (s.group g).window with
  | nil => unfold State.leaveDue at h; rw [hw] at h; cases h
  | cons e rest =>
    obtain ⟨hr, hroom⟩ := State.leaveDue_head h hw
    refine .modGroup (.moves (.single (.leave g e rest _ hw hr))) fun hq => ?_
    rw [Group.leave_eq hw]
    dsimp only
    split
    · exact hq
    · next hs =>
      rw [List.length_append]
      exact hroom.resolve_left hs

theorem leads_notice (h : s.noticeDue g = true) : State.Leads A s (s.modGroup g (Group.queueNotice g)) := by
  simp only [State.noticeDue, Bool.and_eq_true, decide_eq_true_eq] at h
  refine .modGroup (.moves (.single (.alike ⟨rfl, rfl, rfl, List.forall₂_same.2 fun _ _ => ⟨rfl, rfl, rfl⟩, fun _ => id⟩)))
    fun _ => ?_
  show ((s.group g).queue ++ [_]).length ≤ 4
  rw [List.length_append]
  exact h.1.2

theorem leads_issueWord (s : State) : State.Leads A s s.issueWord := by
  unfold State.issueWord
  split
  · exact (State.Goes.refl s).leads
  · split
    · exact (State.Goes.refl s).leads
    · next j _ _ e _ =>
      have h : State.Goes A 2 s (s.modEntry j.ref fun e => { e with nextPos := e.nextPos + 1 }) :=
        goes_modEntry s _ fun _ => ⟨rfl, rfl, rfl⟩
      exact h.leads.then_same rfl rfl rfl rfl

theorem leads_popQueue (v : Server) (s : State) : State.Leads A s (s.popQueue v) := by
  cases v with
  | group g =>
    show State.Leads A s (s.modGroup g fun x => { x with queue := x.queue.tail })
    refine .modGroup (.moves (.single (.alike ?_))) fun h => ?_
    · exact ⟨rfl, rfl, rfl, List.forall₂_same.2 fun _ _ => ⟨rfl, rfl, rfl⟩, fun _ => id⟩
    · show (s.group g).queue.tail.length ≤ 4
      rw [List.length_tail]
      omega
  | admin => exact .of_groups rfl rfl rfl rfl

theorem leads_resultAnswered {f : WordOnBus → State → State} (hf : ∀ w s, State.Goes A 2 s (f w s)) (s : State) :
    State.Leads A s (s.resultAnswered f) := by
  have h := (goes_resultAnswered hf s).leads
  exact ⟨h.turns, h.queues, h.requests, h.results, h.sets⟩

theorem Group.tail_move {x : Group} {i : Nat} (h : i < x.ring.size)
    (ha : ¬(0 < ringCount x.ring.size x.ring.retire i ∧ ringCount x.ring.size x.ring.retire i < x.ring.span)) :
    Group.Turn A x { x with ring := { x.ring with tail := i } } := .moves (.single (.tail i x h ha))

/-- What every effect does to the groups and the bounds of the queues; `A` says whether sets fire ARMED groups only. -/
theorem Effect.leads (h : Effect s u) (hA : A → SetLaw s) : State.Leads A s u := by
  have same : ∀ {v : State}, v.groups = s.groups → v.captureQueue = s.captureQueue → v.writer.queue = s.writer.queue →
      v.sets = s.sets → State.Leads A s v := fun h1 h2 h3 h4 => .of_groups h1 h2 h3 h4
  cases h with
  | powerOn | controllerReset => exact goes_reset_groups (fun m => reset_group m) rfl rfl rfl
  | groupTail g i _ h =>
    simp only [State.groupTailAccepted, Bool.and_eq_true, decide_eq_true_eq, Bool.not_eq_true', Bool.and_eq_false_iff,
      decide_eq_false_iff_not] at h
    exact .modGroup (Group.tail_move h.1.2 fun ha => by omega) id
  | fetch g _ h =>
    have hf : State.Leads A s (s.modGroup g Group.beginFetch) := .modGroup (.fetch _ (Group.mayFetch_of_granted h)) id
    exact hf.then_same rfl rfl rfl rfl
  | readOk g slot valid => exact (goes_readAnswered (by decide) (settlesFetch_fetched slot valid) s g).leads
  | readError g => exact (goes_readAnswered (by decide) settlesFetch_fetchFailed s g).leads
  | tick g => exact ((goes_markTick s g).trans (goes_stepTick _ g)).leads
  | boundary g _ _ hb => exact (goes_periodBoundary hb).leads
  | resume g _ _ hr => exact ((goes_markTick s g).trans (goes_resume (s := s.markTick g) hr)).leads
  | fire g _ h => exact (goes_fireSet (by decide) h hA).leads
  | converterTick v => exact (goes_convTick s v).leads
  | conversionEnd => exact (goes_conversionEnd s).leads
  | issueWord => exact leads_issueWord s
  | countWord => exact leads_resultAnswered (fun w s => goes_countWord s w) s
  | faultWord => exact leads_resultAnswered (fun w s => goes_faultWord s w) s
  | leave g _ h => exact leads_leave h
  | notice g _ h => exact leads_notice h
  | issueEntry v => exact (leads_popQueue v s).then_same rfl rfl rfl rfl
  | judge l level => exact (goes_judgeSample s l level).leads
  | command cmd status value _ v _ hu =>
    have h : State.Leads A s.received v := hu.shifts.leads
    exact ⟨h.turns, h.queues, h.requests, h.results, h.sets⟩
  | window | ringcfg | started | adminTail | release | expiry | commandRead | commandError | entryOk | entryError | sample =>
    exact same rfl rfl rfl rfl

end Leading

/-! ## Every step -/

theorem Group.alike_passClock (ctrl : Ctrl) (x : Group) : x.Alike (x.passClock ctrl) := by
  cases ctrl <;> exact ⟨rfl, rfl, rfl, List.forall₂_same.2 fun _ _ => ⟨rfl, rfl, rfl⟩, fun _ => id⟩

theorem leads_passClock {A : Prop} (s : State) : State.Leads A s s.passClock := by
  refine ⟨fun m => ?_, fun m h => ?_, id, id, fun h => ?_⟩
  · rw [State.passClock_group]
    exact .moves (.single (.alike (Group.alike_passClock _ _)))
  · rw [State.passClock_group]
    unfold Group.passClock
    cases s.ctrl <;> exact h
  · exact (List.length_map ..).trans_le h

/-- What one step does to the groups and the bounds of the queues. -/
theorem step_leads {A : Prop} {s t : State} (hA : A → SetLaw s) (h : step s = .next t) : State.Leads A s t := by
  refine step_reaches (fun v => ∃ q, v = { s with pending := q }) (State.Leads A s) ?_ ?_ ?_ ?_ ?_ ?_ ⟨s.pending, rfl⟩ h
  · rintro _ q ⟨_, rfl⟩
    exact ⟨q, rfl⟩
  · rintro _ ⟨_, rfl⟩
    exact .of_groups rfl rfl rfl rfl
  · rintro _ r ⟨_, rfl⟩
    exact .of_groups rfl rfl rfl rfl
  · rintro _ r ⟨_, rfl⟩
    exact .of_groups rfl rfl rfl rfl
  · rintro _ u ⟨_, rfl⟩ hu
    have hl := hu.leads (A := A) hA
    exact ⟨hl.turns, hl.queues, hl.requests, hl.results, hl.sets⟩
  · rintro _ ⟨q, rfl⟩
    have hl := leads_passClock (A := A) { s with pending := q }
    exact ⟨hl.turns, hl.queues, hl.requests, hl.results, hl.sets⟩

/-! ## O11 -/

/-- Settles O11: whatever joins a queue or a table joins one that has room. -/
theorem everyStepKeepsQueuesBounded : Obligations.EveryStepKeepsQueuesBounded := by
  unfold Obligations.EveryStepKeepsQueuesBounded
  rintro s t ⟨hrequests, hresults, hsets, hqueues⟩ h
  have hl := step_leads (A := False) False.elim h
  exact ⟨hl.requests hrequests, hl.results hresults, hl.sets hsets, fun g => hl.queues g (hqueues g)⟩

/-! ## The laws of a group -/

/-- What a group's beginning a read and its moves keep, its turns keep. -/
theorem Group.Turn.keeps {A : Prop} {x y : Group} (P : Group → Prop) (h : Group.Turn A x y)
    (hfetch : ∀ {z : Group}, z.MayFetch → P z → P z.beginFetch)
    (hmove : ∀ {z w : Group}, Group.Move A 2 z w → P z → P w) (hx : P x) : P y := by
  cases h with
  | fetch h => exact hfetch h hx
  | moves h =>
    induction h with
    | refl => exact hx
    | tail _ h ih => exact hmove h ih

/-- A turn keeps the statuses of a window of distinct slots. -/
theorem Group.Turn.keeps_statuses {A : Prop} {x y : Group} (h : Group.Turn A x y) (hd : x.SlotsDistinct) (hx : x.StatusesOk) :
    y.StatusesOk := by
  cases h with
  | fetch => exact hx.beginFetch
  | moves h =>
    have both : y.SlotsDistinct ∧ y.StatusesOk := by
      induction h with
      | refl => exact ⟨hd, hx⟩
      | tail _ hmove ih => exact ⟨hmove.keeps_slots ih.1, hmove.keeps_statuses ih.1 ih.2⟩
    exact both.2

/-- Settles O8: the twelfth law move by move; the statuses where the slots of the windows are distinct. -/
theorem everyStepKeepsRestingWindowsRetiring : Obligations.EveryStepKeepsRestingWindowsRetiring := by
  unfold Obligations.EveryStepKeepsRestingWindowsRetiring
  constructor
  · intro s t hs h g
    exact ((step_leads (A := False) False.elim h).turns g).keeps Group.RestLaw (fun h hz => h.keeps_rest hz)
      (fun h hz => h.keeps_rest hz) (hs g)
  · intro s t hring hs h g
    exact ((step_leads (A := False) False.elim h).turns g).keeps_statuses (hring g).slotsDistinct (hs g)

/-- Settles O17: the ring law move by move, where the set law says that what fires is ARMED. -/
theorem everyStepKeepsWindowsBetweenRetireAndTail : Obligations.EveryStepKeepsWindowsBetweenRetireAndTail := by
  unfold Obligations.EveryStepKeepsWindowsBetweenRetireAndTail
  intro s t hset hring h g
  exact ((step_leads (A := True) (fun _ => hset) h).turns g).keeps Group.RingLaw (fun h hz => h.keeps_ring hz)
    (fun h hz => h.keeps_ring trivial hz) (hring g)

/-- Settles O10: the law of the ACTIVE record move by move, in windows of distinct slots. -/
theorem everyStepKeepsOneActiveRecord : Obligations.EveryStepKeepsOneActiveRecord := by
  unfold Obligations.EveryStepKeepsOneActiveRecord
  intro s t hring hset hactive h g
  have both := ((step_leads (A := True) (fun _ => hset) h).turns g).keeps (fun x => x.RingLaw ∧ x.ActiveLaw)
    (fun h hz => ⟨h.keeps_ring hz.1, hz.2.beginFetch⟩)
    (fun h hz => ⟨h.keeps_ring trivial hz.1, h.keeps_active trivial hz.1.slotsDistinct hz.2⟩) ⟨hring g, hactive g⟩
  exact both.2

/-- The laws of a group that its order leans on. -/
structure Group.Lawful (x : Group) : Prop where
  ring : x.RingLaw
  active : x.ActiveLaw
  rest : x.RestLaw
  ordered : Ordered x.window

/-- Settles O9: the bounds move by move, and the order with the laws it leans on. -/
theorem everyStepKeepsWindowsBoundedAndOrdered : Obligations.EveryStepKeepsWindowsBoundedAndOrdered := by
  unfold Obligations.EveryStepKeepsWindowsBoundedAndOrdered
  constructor
  · intro s t hs h g
    exact ((step_leads (A := False) False.elim h).turns g).keeps Group.BoundLaw (fun h _ => h.keeps_bounds)
      (fun h hz => h.keeps_bounds hz) (hs g)
  · intro s t hring hactive hset hrest horder h g
    have hlawful : (t.group g).Lawful := ((step_leads (A := True) (fun _ => hset) h).turns g).keeps Group.Lawful
      (fun h hz => ⟨h.keeps_ring hz.ring, hz.active.beginFetch, h.keeps_rest hz.rest, hz.ordered.beginFetch⟩)
      (fun h hz => ⟨h.keeps_ring trivial hz.ring, h.keeps_active trivial hz.ring.slotsDistinct hz.active, h.keeps_rest hz.rest,
        h.keeps_order hz.ring.slotsDistinct hz.active hz.rest hz.ordered⟩)
      ⟨hring g, hactive g, hrest g, horder g⟩
    exact hlawful.ordered

end Sys2Proof.Machine
end

section
/-! PROOF. The completion ring (R142) and the bus port (R137, R146): what each effect does to the unreleased entries
and to the outstanding transactions. -/

namespace Sys2Proof.Machine

/-! ## The unreleased entries -/

/-- No entry is written to the completion ring. -/
structure State.KeepsUnreleased (s t : State) : Prop where
  off : t.ctrl = .off → s.ctrl = .off
  code : t.cplCode = s.cplCode
  unreleased : t.cpl.unreleased ≤ s.cpl.unreleased

section Unreleased

variable {s t u : State}

theorem State.KeepsUnreleased.refl (s : State) : s.KeepsUnreleased s := ⟨id, rfl, Nat.le_refl _⟩

theorem State.KeepsUnreleased.trans (h : s.KeepsUnreleased t) (h' : t.KeepsUnreleased u) : s.KeepsUnreleased u :=
  ⟨fun ho => h.off (h'.off ho), h'.code.trans h.code, h'.unreleased.trans h.unreleased⟩

theorem State.KeepsUnreleased.of_same (hctrl : t.ctrl = s.ctrl) (hcode : t.cplCode = s.cplCode)
    (hcpl : t.cpl.unreleased = s.cpl.unreleased) : s.KeepsUnreleased t :=
  ⟨fun ho => hctrl ▸ ho, hcode, hcpl.le⟩

theorem State.KeepsUnreleased.of_fixed (h : t.fixed = s.fixed) : s.KeepsUnreleased t :=
  .of_same (congrArg Fixed.ctrl h) (congrArg Fixed.cplCode h) (congrArg (fun f => f.cpl.unreleased) h)

theorem State.KeepsUnreleased.law (h : s.KeepsUnreleased t) (hs : CompletionLaw s) : CompletionLaw t := by
  obtain ⟨hsize, hoff⟩ := hs
  refine ⟨?_, fun ho => Nat.le_zero.1 (hoff (h.off ho) ▸ h.unreleased)⟩
  rw [State.cplSize, h.code]
  exact h.unreleased.trans hsize

theorem keepsUnreleased_answered (s : State) (r : Requester) : s.KeepsUnreleased (s.answered r) := .of_same rfl rfl rfl

theorem keepsUnreleased_judgeSample (s : State) (l : LineId) (level : Level) : s.KeepsUnreleased (s.judgeSample l level) := by
  unfold State.judgeSample
  split
  · have h := fixed_levelChange s l
    exact .of_same (congrArg Fixed.ctrl h) (congrArg Fixed.cplCode h) (congrArg (fun f => f.cpl.unreleased) h)
  · exact .of_same rfl rfl rfl

theorem keepsUnreleased_lineStep (s : State) (l : LineId) : s.KeepsUnreleased (s.lineStep l) := by
  unfold State.lineStep
  split
  · exact .refl s
  · exact (keepsUnreleased_judgeSample s l _).trans (.of_same rfl rfl rfl)

theorem Serves.keepsUnreleased (h : Serves s u) : s.KeepsUnreleased u := by
  cases h with
  | stop | abort | discard => exact .of_fixed (by simp)
  | start => rw [foldl_modGroup_eq]; exact .of_same rfl rfl rfl
  | clearTrip =>
    refine foldl_inv (State.KeepsUnreleased s) _ (fun t g ht => ?_) _ _ (.of_same rfl rfl rfl)
    split
    · exact ht
    · exact ht.trans (.of_same rfl rfl rfl)
  | finishSample => exact foldl_inv (State.KeepsUnreleased s) _ (fun t l ht => ht.trans (keepsUnreleased_lineStep t l)) _ _ (.refl s)
  | nothing | bind | unbind | setGroup | setPair | setConverter | setTrip | setToken => exact .of_same rfl rfl rfl

/-! ## What the answers leave of the fixed part -/

theorem fixed_readAnswered (s : State) (g : GroupId) (f : Entry → Entry) :
    (s.readAnswered g f).fixed = (s.answered (.fetcher g)).fixed := by
  unfold State.readAnswered
  dsimp only
  split
  · split <;> simp
  · rfl

theorem fixed_resultAnswered {f : WordOnBus → State → State} (hf : ∀ w s, (f w s).fixed = s.fixed) (s : State) :
    (s.resultAnswered f).fixed = (s.answered .resultWriter).fixed := by
  have hword : s.wordAnswered.fixed = (s.answered .resultWriter).fixed := rfl
  unfold State.resultAnswered
  split
  · rfl
  · rw [State.fixed_pump]
    split
    · rfl
    · rw [hf, hword]

/-! ## O13 -/

/-- A granted completion write finds room in the ring (R142). -/
theorem unreleased_of_granted (hs : Settled s) (h : s.granted .completionWriter = true) :
    s.ctrl = .running ∧ s.cpl.unreleased < s.cplSize := by
  have hask : s.cpl.state = .asking := by
    simpa [State.asking] using List.find?_some ((State.granted_iff s .completionWriter).1 h).2
  have hstate : s.settledCpl = s.cpl.state := congrArg (fun t : State => t.cpl.state) hs
  have hmay : s.cplMayAsk = true := by
    by_contra hn
    rw [State.settledCpl, hask, if_neg (by decide), if_neg hn] at hstate
    cases hstate
  simp only [State.cplMayAsk, Bool.and_eq_true, decide_eq_true_eq, State.isRunning, beq_iff_eq] at hmay
  exact ⟨hmay.1.1, hmay.2⟩

/-- From a settled state every effect keeps the unreleased entries within the ring. -/
theorem Effect.keeps_completions (h : Effect s u) (hset : Settled s) (hs : CompletionLaw s) : CompletionLaw u := by
  have keeps : ∀ {v : State}, s.KeepsUnreleased v → CompletionLaw v := fun h => h.law hs
  cases h with
  | powerOn | controllerReset => exact ⟨Nat.zero_le _, fun _ => rfl⟩
  | started => exact ⟨Nat.zero_le _, nofun⟩
  | ringcfg adm cpl _ h =>
    have hzero := hs.2 h
    exact ⟨hzero ▸ Nat.zero_le _, fun _ => hzero⟩
  | release n k => exact keeps ⟨id, rfl, Nat.sub_le _ _⟩
  | issueEntry v e rest txn _ h =>
    obtain ⟨hrun, hroom⟩ := unreleased_of_granted hset h
    cases v <;> exact ⟨hroom, fun hoff => by cases hrun.symm.trans hoff⟩
  | readOk | readError =>
    exact keeps ((keepsUnreleased_answered s _).trans (.of_fixed (fixed_readAnswered s _ _)))
  | countWord =>
    exact keeps ((keepsUnreleased_answered s _).trans
      (.of_fixed (fixed_resultAnswered (fun w s => s.fixed_countWord w) s)))
  | faultWord =>
    exact keeps ((keepsUnreleased_answered s _).trans
      (.of_fixed (fixed_resultAnswered (fun w s => s.fixed_faultWord w) s)))
  | issueWord =>
    unfold State.issueWord
    split
    · exact hs
    · split
      · exact hs
      · exact keeps (.of_same rfl rfl rfl)
  | tick | boundary | resume | fire | converterTick | conversionEnd => exact keeps (.of_fixed (by simp))
  | judge => exact keeps (keepsUnreleased_judgeSample s _ _)
  | command cmd status value _ v _ hu =>
    have hserved : s.KeepsUnreleased v := (keepsUnreleased_answered s _).trans hu.keepsUnreleased
    exact keeps (hserved.trans (.of_same rfl rfl rfl))
  | commandError | entryError => exact keeps ⟨nofun, rfl, Nat.le_refl _⟩
  | window | groupTail | adminTail | fetch | expiry | leave | notice | commandRead | entryOk | sample =>
    exact keeps (.of_same rfl rfl rfl)

end Unreleased

/-- The waiting commands are no part of what settling reads. -/
theorem settled_pending {s : State} (hs : Settled s) (q : List Instr) : Settled { s with pending := q } :=
  settled_of_same hs ⟨rfl, rfl, fun _ => rfl⟩ rfl rfl rfl rfl rfl rfl rfl rfl rfl rfl

/-- Settles O13: a write is granted only where the ring has room. -/
theorem everyStepKeepsUnreleasedEntriesWithinTheRing : Obligations.EveryStepKeepsUnreleasedEntriesWithinTheRing := by
  unfold Obligations.EveryStepKeepsUnreleasedEntriesWithinTheRing
  intro s t hset hs h
  exact step_reaches (fun s => Settled s ∧ CompletionLaw s) CompletionLaw (fun _ q h => ⟨settled_pending h.1 q, h.2⟩)
    (fun _ h => h.2) (fun _ _ h => h.2) (fun _ _ h => h.2) (fun _ _ h hu => hu.keeps_completions h.1 h.2) (fun _ h => h.2)
    ⟨hset, hs⟩ h

end Sys2Proof.Machine
end

section
/-! PROOF. One outstanding transaction per requester (R146), and room for the entry of the command on the bus (R137). -/

namespace Sys2Proof.Machine

/-! ## The outstanding transactions -/

section Outstanding

variable {s t u : State} {r : Requester}

theorem State.outstandingCount_of_bus (h : t.bus = s.bus) (r : Requester) : t.outstandingCount r = s.outstandingCount r := by
  rw [State.outstandingCount, h, State.outstandingCount]

theorem State.outstandingCount_of_issued {x : BusTxn} (h : t.bus = s.bus ++ [x]) (hx : x.late = false) (r : Requester) :
    t.outstandingCount r = s.outstandingCount r + if x.requester = r then 1 else 0 := by
  rw [State.outstandingCount, h, List.filter_append, List.length_append, State.outstandingCount]
  by_cases hr : x.requester = r <;> simp [hr, hx]

theorem State.outstandingCount_le_of_sublist (h : t.bus.Sublist s.bus) (r : Requester) :
    t.outstandingCount r ≤ s.outstandingCount r := (h.filter _).length_le

/-- A reset marks every outstanding transaction (R150). -/
theorem State.outstandingCount_of_late (h : t.bus = lateBus s.bus) (r : Requester) : t.outstandingCount r = 0 := by
  rw [State.outstandingCount, h, List.length_eq_zero_iff, List.filter_eq_nil_iff, lateBus]
  simp

theorem State.outstandingCount_eq_zero (h : s.outstanding r = false) : s.outstandingCount r = 0 := by
  rw [State.outstanding, List.any_eq_false] at h
  rw [State.outstandingCount, List.length_eq_zero_iff, List.filter_eq_nil_iff]
  exact h

/-- An answer that is taken removes one transaction of its requester. -/
theorem State.outstandingCount_answered (h : s.outstanding r = true) :
    (s.answered r).outstandingCount r + 1 = s.outstandingCount r := by
  rw [State.outstanding, List.any_eq_true] at h
  obtain ⟨x, hx, hp⟩ := h
  obtain ⟨y, l₁, l₂, hl₁, hy, hl, he⟩ := List.exists_of_eraseP (p := fun t : BusTxn => t.requester == r && !t.late) hx hp
  have hbus : (s.answered r).bus = l₁ ++ l₂ := he
  rw [State.outstandingCount, State.outstandingCount, hbus, hl]
  simp only [List.filter_append, List.length_append]
  rw [List.filter_cons_of_pos (by exact hy), List.length_cons, Nat.add_assoc]

/-! ## Effects that issue nothing -/

/-- No transaction is issued and no requester leaves ON_BUS. -/
structure State.KeepsBus (s t : State) : Prop where
  count : ∀ r, t.outstandingCount r ≤ s.outstandingCount r
  cpl : s.cpl.state = .onBus → t.cpl.state = .onBus
  write : s.writer.write = .onBus → t.writer.write = .onBus
  admin : s.admin.state = .onBus → t.admin.state = .onBus
  queue : t.admin.queue.length ≤ s.admin.queue.length

theorem State.KeepsBus.refl (s : State) : s.KeepsBus s := ⟨fun _ => Nat.le_refl _, id, id, id, Nat.le_refl _⟩

theorem State.KeepsBus.trans (h : s.KeepsBus t) (h' : t.KeepsBus u) : s.KeepsBus u :=
  ⟨fun r => (h'.count r).trans (h.count r), fun hb => h'.cpl (h.cpl hb), fun hb => h'.write (h.write hb),
    fun hb => h'.admin (h.admin hb), h'.queue.trans h.queue⟩

theorem State.KeepsBus.of_same (hbus : t.bus = s.bus) (hcpl : t.cpl.state = s.cpl.state)
    (hwrite : t.writer.write = s.writer.write) (hadmin : t.admin = s.admin) : s.KeepsBus t :=
  ⟨fun r => (State.outstandingCount_of_bus hbus r).le, fun h => hcpl ▸ h, fun h => hwrite ▸ h, fun h => hadmin ▸ h,
    hadmin ▸ Nat.le_refl _⟩

/-- The rules of the groups and of the capture path leave the fixed part and the writer's write alone. -/
theorem State.KeepsBus.of_goes {A : Prop} {n : Nat} (hf : t.fixed = s.fixed) (h : State.Goes A n s t) : s.KeepsBus t :=
  .of_same (congrArg Fixed.bus hf) (congrArg (fun f => f.cpl.state) hf) h.write (congrArg Fixed.admin hf)

theorem busPart_le {count count' : Nat} {b b' : BusState} (hcount : count' ≤ count) (hb : b = .onBus → b' = .onBus)
    (h : count ≤ if b = .onBus then 1 else 0) : count' ≤ if b' = .onBus then 1 else 0 := by
  by_cases hon : b = .onBus
  · rw [if_pos hon] at h
    rw [if_pos (hb hon)]
    exact hcount.trans h
  · rw [if_neg hon] at h
    exact (hcount.trans h).trans (Nat.zero_le _)

theorem State.KeepsBus.law (h : s.KeepsBus t) (hs : BusLaw s) : BusLaw t := by
  obtain ⟨hfetch, hcpl, hwrite, hadmin, hroom⟩ := hs
  exact ⟨fun g => (h.count _).trans (hfetch g), busPart_le (h.count _) h.cpl hcpl, busPart_le (h.count _) h.write hwrite,
    busPart_le (h.count _) h.admin hadmin, (Nat.add_le_add h.queue (h.count _)).trans hroom⟩

theorem keepsBus_answered (s : State) (r : Requester) : s.KeepsBus (s.answered r) :=
  ⟨State.outstandingCount_le_of_sublist List.eraseP_sublist, id, id, id, Nat.le_refl _⟩

theorem keepsBus_dropLate (s : State) (r : Requester) : s.KeepsBus (s.dropLate r) :=
  ⟨State.outstandingCount_le_of_sublist List.eraseP_sublist, id, id, id, Nat.le_refl _⟩

/-- Settling withdraws no request that is on the bus. -/
theorem keepsBus_settle (s : State) : s.KeepsBus s.settle := by
  refine ⟨fun _ => Nat.le_refl _, fun h => ?_, fun h => ?_, fun h => ?_, Nat.le_refl _⟩
  · show s.settledCpl = .onBus
    simp [State.settledCpl, h]
  · show s.settledWriter = .onBus
    simp [State.settledWriter, h]
  · show s.settledAdmin = .onBus
    simp [State.settledAdmin, h]

theorem keepsBus_judgeSample (s : State) (l : LineId) (level : Level) : s.KeepsBus (s.judgeSample l level) := by
  have hgoes := goes_judgeSample (A := False) s l level
  unfold State.judgeSample at hgoes ⊢
  split at hgoes
  · next h =>
    rw [if_pos h]
    have hf := fixed_levelChange s l
    exact .of_same (congrArg Fixed.bus hf) (congrArg (fun f => f.cpl.state) hf) hgoes.write (congrArg Fixed.admin hf)
  · next h =>
    rw [if_neg h]
    exact .of_same rfl rfl rfl rfl

theorem keepsBus_lineStep (s : State) (l : LineId) : s.KeepsBus (s.lineStep l) := by
  unfold State.lineStep
  split
  · exact .refl s
  · exact (keepsBus_judgeSample s l _).trans (keepsBus_settle _)

theorem Serves.keepsBus (h : Serves s u) : s.KeepsBus u := by
  cases h with
  | stop g mode _ hst =>
    exact .of_goes (by simp) ((goes_stopGroup (A := False) (n := 2) mode fun _ => by decide).trans (goes_pump _))
  | abort g _ hst =>
    exact .of_goes (by simp) ((goes_abortGroup (A := False) (n := 2) hst fun _ => by decide).trans (goes_pump _))
  | discard g _ hst =>
    have habort := goes_abortGroup (A := False) (n := 2) hst fun _ => by decide
    refine .of_goes (A := False) (n := 2) (by simp) (State.Goes.trans ?_ (goes_pump _))
    exact habort.trans (goes_discard (State.abortGroup_state hst))
  | start => rw [foldl_modGroup_eq]; exact .of_same rfl rfl rfl rfl
  | clearTrip =>
    refine foldl_inv (State.KeepsBus s) _ (fun t g ht => ?_) _ _ (.of_same rfl rfl rfl rfl)
    split
    · exact ht
    · exact ht.trans (.of_same rfl rfl rfl rfl)
  | finishSample => exact foldl_inv (State.KeepsBus s) _ (fun t l ht => ht.trans (keepsBus_lineStep t l)) _ _ (.refl s)
  | nothing | bind | unbind | setGroup | setPair | setConverter | setTrip | setToken => exact .of_same rfl rfl rfl rfl

/-! ## The grants -/

theorem asking_of_granted (h : s.granted r = true) : s.asking r = true := List.find?_some ((State.granted_iff s r).1 h).2

/-- A requester that is not ON_BUS has nothing outstanding. -/
theorem busPart_eq_zero {count : Nat} {b : BusState} (h : count ≤ if b = .onBus then 1 else 0) (hb : b = .asking) :
    count = 0 := by
  rw [if_neg (by rw [hb]; decide)] at h
  exact Nat.le_zero.1 h

/-- The administrative processor asks while its holding queue has room (R137). -/
theorem adminRoom_of_granted (hset : Settled s) (h : s.granted .adminProcessor = true) : s.admin.queue.length < 4 := by
  have hask : s.admin.state = .asking := by simpa [State.asking] using asking_of_granted h
  have hstate : s.settledAdmin = s.admin.state := congrArg (fun t : State => t.admin.state) hset
  have hmay : s.adminMayAsk = true := by
    by_contra hn
    rw [State.settledAdmin, hask, if_neg (by decide), if_neg hn] at hstate
    cases hstate
  simp only [State.adminMayAsk, Bool.and_eq_true, decide_eq_true_eq] at hmay
  exact hmay.2

theorem busLaw_of_late (h : t.bus = lateBus s.bus) (hq : t.admin.queue = []) : BusLaw t := by
  have hzero := State.outstandingCount_of_late h
  have hpart : ∀ (r : Requester) (b : BusState), t.outstandingCount r ≤ if b = .onBus then 1 else 0 :=
    fun r _ => (hzero r).le.trans (Nat.zero_le _)
  exact ⟨fun g => (hzero (.fetcher g)).le.trans (Nat.zero_le _), hpart _ _, hpart _ _, hpart _ _, by rw [hzero, hq]; decide⟩

theorem busLaw_fetch (hs : BusLaw s) {g : GroupId} (h : s.granted (.fetcher g) = true) {x : BusTxn}
    (hx : x.requester = .fetcher g ∧ x.late = false) (hbus : t.bus = s.bus ++ [x]) (hcpl : t.cpl = s.cpl)
    (hwrite : t.writer = s.writer) (hadmin : t.admin = s.admin) : BusLaw t := by
  obtain ⟨hfetch, hc, hw, ha, hroom⟩ := hs
  have hasks : s.fetcherAsks g = true := asking_of_granted h
  obtain ⟨-, -, -, -, -, hout, -⟩ := (State.fetcherAsks_iff s g).1 hasks
  have hcount := State.outstandingCount_of_issued hbus hx.2
  simp only [hx.1] at hcount
  refine ⟨fun m => ?_, ?_, ?_, ?_, ?_⟩
  · rw [hcount]
    by_cases hm : m = g
    · rw [hm, State.outstandingCount_eq_zero hout]
      split <;> decide
    · rw [if_neg fun he => hm (Requester.fetcher.inj he).symm]
      exact hfetch m
  · simpa [hcount, hcpl] using hc
  · simpa [hcount, hwrite] using hw
  · simpa [hcount, hadmin] using ha
  · simpa [hcount, hadmin] using hroom

theorem busLaw_word (hs : BusLaw s) (h : s.granted .resultWriter = true) {x : BusTxn}
    (hx : x.requester = .resultWriter ∧ x.late = false) (hbus : t.bus = s.bus ++ [x]) (hcpl : t.cpl = s.cpl)
    (hwrite : t.writer.write = .onBus) (hadmin : t.admin = s.admin) : BusLaw t := by
  obtain ⟨hfetch, hc, hw, ha, hroom⟩ := hs
  have hzero := busPart_eq_zero hw (by simpa [State.asking] using asking_of_granted h)
  have hcount := State.outstandingCount_of_issued hbus hx.2
  simp only [hx.1] at hcount
  exact ⟨fun m => by simpa [hcount] using hfetch m, by simpa [hcount, hcpl] using hc, by simp [hcount, hzero, hwrite],
    by simpa [hcount, hadmin] using ha, by simpa [hcount, hadmin] using hroom⟩

theorem busLaw_command (hset : Settled s) (hs : BusLaw s) (h : s.granted .adminProcessor = true) {x : BusTxn}
    (hx : x.requester = .adminProcessor ∧ x.late = false) (hbus : t.bus = s.bus ++ [x]) (hcpl : t.cpl = s.cpl)
    (hwrite : t.writer = s.writer) (hadmin : t.admin.state = .onBus) (hqueue : t.admin.queue = s.admin.queue) : BusLaw t := by
  obtain ⟨hfetch, hc, hw, ha, -⟩ := hs
  have hzero := busPart_eq_zero ha (by simpa [State.asking] using asking_of_granted h)
  have hroom := adminRoom_of_granted hset h
  have hcount := State.outstandingCount_of_issued hbus hx.2
  simp only [hx.1] at hcount
  exact ⟨fun m => by simpa [hcount] using hfetch m, by simpa [hcount, hcpl] using hc, by simpa [hcount, hwrite] using hw,
    by simp [hcount, hzero, hadmin], by simpa [hcount, hzero, hqueue] using hroom⟩

theorem busLaw_entry (hs : BusLaw s) (h : s.granted .completionWriter = true) {x : BusTxn}
    (hx : x.requester = .completionWriter ∧ x.late = false) (hbus : t.bus = s.bus ++ [x]) (hcpl : t.cpl.state = .onBus)
    (hwrite : t.writer = s.writer) (hadmin : t.admin.state = s.admin.state)
    (hqueue : t.admin.queue.length ≤ s.admin.queue.length) : BusLaw t := by
  obtain ⟨hfetch, hc, hw, ha, hroom⟩ := hs
  have hzero := busPart_eq_zero hc (by simpa [State.asking] using asking_of_granted h)
  have hcount := State.outstandingCount_of_issued hbus hx.2
  simp only [hx.1] at hcount
  refine ⟨fun m => by simpa [hcount] using hfetch m, by simp [hcount, hzero, hcpl], by simpa [hcount, hwrite] using hw,
    by simpa [hcount, hadmin] using ha, ?_⟩
  have hadm : t.outstandingCount .adminProcessor = s.outstandingCount .adminProcessor := by simp [hcount]
  omega

/-! ## The answers -/

/-- The counts after an answer that is taken: that of its requester is 0. -/
theorem count_answered_eq_zero (hs : BusLaw s) (h : s.outstanding r = true) : (s.answered r).outstandingCount r = 0 := by
  obtain ⟨hfetch, hc, hw, ha, -⟩ := hs
  have hone := State.outstandingCount_answered h
  have hle : s.outstandingCount r ≤ 1 := by
    cases r with
    | fetcher g => exact hfetch g
    | completionWriter => exact hc.trans (by split <;> decide)
    | resultWriter => exact hw.trans (by split <;> decide)
    | adminProcessor => exact ha.trans (by split <;> decide)
  omega

theorem busLaw_wordAnswered (hs : BusLaw s) (h : s.outstanding .resultWriter = true) : BusLaw s.wordAnswered := by
  obtain ⟨hfetch, hc, hw, ha, hroom⟩ := (keepsBus_answered s .resultWriter).law hs
  exact ⟨hfetch, hc, (count_answered_eq_zero hs h).le.trans (Nat.zero_le _), ha, hroom⟩

theorem busLaw_resultAnswered {f : WordOnBus → State → State} (hf : ∀ w s, (f w s).fixed = s.fixed)
    (hg : ∀ w s, State.Goes False 0 s (f w s)) (hs : BusLaw s) (h : s.outstanding .resultWriter = true) :
    BusLaw (s.resultAnswered f) := by
  refine State.KeepsBus.law ?_ (busLaw_wordAnswered hs h)
  exact .of_goes (fixed_resultAnswered hf s) (goes_resultAnswered hg s)

/-- The entry of a command that was on the bus finds room in the admin holding queue (R137, R138). -/
theorem busLaw_report (hs : BusLaw s) (h : s.outstanding .adminProcessor = true) (hu : s.received.KeepsBus u)
    (cmd : Slot32) (status : AdminStatus) (value : BitVec 128) : BusLaw (u.report cmd status value) := by
  obtain ⟨hfetch, hc, hw, -, -⟩ := hu.law ((keepsBus_answered s .adminProcessor).law hs)
  have hzero : u.outstandingCount .adminProcessor = 0 := Nat.le_zero.1 (count_answered_eq_zero hs h ▸ hu.count .adminProcessor)
  have hroom : s.admin.queue.length + s.outstandingCount .adminProcessor ≤ 4 := hs.2.2.2.2
  have hone := State.outstandingCount_answered h
  have hqueue : u.admin.queue.length ≤ s.admin.queue.length := hu.queue
  refine ⟨hfetch, hc, hw, hzero.le.trans (Nat.zero_le _), ?_⟩
  show (u.admin.queue ++ [_]).length + u.outstandingCount .adminProcessor ≤ 4
  rw [List.length_append, List.length_singleton]
  omega

theorem busLaw_entryOk (hs : BusLaw s) (h : s.outstanding .completionWriter = true) {v : State}
    (hbus : v.bus = (s.answered .completionWriter).bus) (hwrite : v.writer = s.writer) (hadmin : v.admin = s.admin) :
    BusLaw v := by
  obtain ⟨hfetch, -, hw, ha, hroom⟩ := (keepsBus_answered s .completionWriter).law hs
  have hcount := State.outstandingCount_of_bus hbus
  refine ⟨fun g => (hcount _).le.trans (hfetch g), ?_, ?_, ?_, ?_⟩
  · rw [hcount, count_answered_eq_zero hs h]
    exact Nat.zero_le _
  · rw [hcount, hwrite]; exact hw
  · rw [hcount, hadmin]; exact ha
  · rw [hcount, hadmin]; exact hroom

/-! ## O14 -/

/-- From a settled state every effect keeps one outstanding transaction per requester. -/
theorem Effect.keeps_bus (h : Effect s u) (hset : Settled s) (hs : BusLaw s) : BusLaw u := by
  have keeps : ∀ {v : State}, s.KeepsBus v → BusLaw v := fun h => h.law hs
  cases h with
  | powerOn | controllerReset => exact busLaw_of_late rfl rfl
  | fetch g _ h => exact busLaw_fetch hs h ⟨rfl, rfl⟩ rfl rfl rfl rfl
  | issueWord _ h =>
    unfold State.issueWord
    split
    · exact hs
    · split
      · exact hs
      · exact busLaw_word hs h ⟨rfl, rfl⟩ rfl rfl rfl rfl
  | commandRead _ h => exact busLaw_command hset hs h ⟨rfl, rfl⟩ rfl rfl rfl rfl rfl
  | issueEntry v e rest txn _ h _ ht =>
    cases v with
    | group => exact busLaw_entry hs h ht rfl rfl rfl rfl (Nat.le_refl _)
    | admin => exact busLaw_entry hs h ht rfl rfl rfl rfl (List.tail_sublist _).length_le
  | readOk g slot valid =>
    refine keeps ((keepsBus_answered s (.fetcher g)).trans ?_)
    exact .of_same (congrArg Fixed.bus (fixed_readAnswered s g _))
      (congrArg (fun f => f.cpl.state) (fixed_readAnswered s g _))
      (goes_readAnswered (A := False) (Nat.le_refl 1) (settlesFetch_fetched slot valid) s g).write (congrArg Fixed.admin (fixed_readAnswered s g _))
  | readError g =>
    refine keeps ((keepsBus_answered s (.fetcher g)).trans ?_)
    exact .of_same (congrArg Fixed.bus (fixed_readAnswered s g _))
      (congrArg (fun f => f.cpl.state) (fixed_readAnswered s g _))
      (goes_readAnswered (A := False) (Nat.le_refl 1) settlesFetch_fetchFailed s g).write (congrArg Fixed.admin (fixed_readAnswered s g _))
  | countWord _ h => exact busLaw_resultAnswered (fun w s => s.fixed_countWord w) (fun w s => goes_countWord s w) hs h.outstanding
  | faultWord _ h => exact busLaw_resultAnswered (fun w s => s.fixed_faultWord w) (fun w s => goes_faultWord s w) hs h.outstanding
  | tick g =>
    exact keeps (.of_goes (A := False) (n := 2) (by simp) ((goes_markTick s g).trans (goes_stepTick _ g)))
  | boundary g _ _ hb => exact keeps (.of_goes (A := False) (n := 2) (by simp) (goes_periodBoundary hb))
  | resume g _ _ hr =>
    exact keeps (.of_goes (A := False) (n := 2) (by simp) ((goes_markTick s g).trans (goes_resume (s := s.markTick g) hr)))
  | fire g _ h => exact keeps (.of_goes (by simp) (goes_fireSet (A := False) (Nat.le_refl 1) h False.elim))
  | converterTick v => exact keeps (.of_goes (A := False) (n := 2) (by simp) (goes_convTick s v))
  | conversionEnd => exact keeps (.of_goes (A := False) (n := 2) (by simp) (goes_conversionEnd s))
  | judge => exact keeps (keepsBus_judgeSample s _ _)
  | command cmd status value _ v ha hu => exact busLaw_report hs ha.outstanding hu.keepsBus cmd status value
  | commandError => exact keeps ((keepsBus_answered s .adminProcessor).trans (.of_same rfl rfl rfl rfl))
  | entryError => exact keeps ((keepsBus_answered s .completionWriter).trans (.of_same rfl rfl rfl rfl))
  | entryOk _ h => exact busLaw_entryOk hs h.outstanding rfl rfl rfl
  | adminTail => exact keeps ⟨fun _ => Nat.le_refl _, id, id, id, Nat.le_refl _⟩
  | started => exact keeps ⟨fun _ => Nat.le_refl _, id, id, id, Nat.le_refl _⟩
  | window | ringcfg | groupTail | release | expiry | leave | notice | sample => exact keeps (.of_same rfl rfl rfl rfl)

end Outstanding

/-- The passing of a device clock moves nothing on the bus. -/
theorem keepsBus_passClock (s : State) : s.KeepsBus s.passClock := .of_same rfl rfl rfl rfl

/-- Settles O14: a requester that has a transaction outstanding does not ask, and settling withdraws none. -/
theorem everyStepKeepsOneTransactionPerRequester : Obligations.EveryStepKeepsOneTransactionPerRequester := by
  unfold Obligations.EveryStepKeepsOneTransactionPerRequester
  intro s t hset hs h
  exact step_reaches (fun s => Settled s ∧ BusLaw s) BusLaw (fun _ q h => ⟨settled_pending h.1 q, h.2⟩) (fun _ h => h.2)
    (fun s r h => (keepsBus_dropLate s r).law h.2) (fun s r h => (keepsBus_answered s r).law h.2)
    (fun _ u h hu => (keepsBus_settle u).law (hu.keeps_bus h.1 h.2)) (fun s h => (keepsBus_passClock s).law h.2)
    ⟨hset, hs⟩ h

end Sys2Proof.Machine
end

section
/-! PROOF. The moves that leave who is ARMED, who is TRIPPED and who is UNBOUND as it is, and the set law (R72). -/

namespace Sys2Proof.Machine

/-! ## The state of a group -/

section States

variable {A : Prop} {n : Nat} {x y : Group}

theorem Group.discard_state (x : Group) : x.discard.state = x.state := by
  unfold Group.discard
  dsimp only
  split <;> rfl

theorem Group.leave_state (g : GroupId) (x : Group) : (x.leave g).state = x.state := by
  unfold Group.leave
  split <;> rfl

theorem Group.stopRunning_state (mode : StopMode) (x : Group) : (x.stopRunning mode).state = .stopping := by
  cases mode <;> rfl

theorem GroupState.atRest_ne {st : GroupState} (h : st.atRest = true) : st ≠ .armed := by
  rintro rfl
  cases h

/-- No move of level 0 arms or disarms. -/
theorem Group.Move.armed_iff (h : Group.Move A 0 x y) : y.state = .armed ↔ x.state = .armed := by
  have off : ∀ {a b : GroupState}, a ≠ .armed → b ≠ .armed → (a = .armed ↔ b = .armed) :=
    fun ha hb => ⟨fun h => absurd h ha, fun h => absurd h hb⟩
  cases h with
  | alike h => rw [h.state]
  | settleFetch | retireSlot | tail => exact Iff.rfl
  | finishStop =>
    rcases x.finishStop_cases with h | ⟨hst, -, h⟩
    · rw [h]
    · rw [h]; exact off nofun (by rw [hst]; nofun)
  | takeover slot _ _ e _ hst | starve _ hst | resume _ e _ hst | stopStarved _ hst => exact off nofun (by rw [hst]; nofun)
  | stopEnding _ _ _ hst => exact Iff.rfl
  | stopRunning mode _ hst => rw [Group.stopRunning_state]; exact off nofun (by rw [hst]; nofun)
  | clear _ hy _ _ harmed => exact off (GroupState.atRest_ne hy) fun ha => absurd (harmed ha) (by decide)
  | discard => rw [Group.discard_state]
  | leave => rw [Group.leave_state]
  | bind ring state _ _ _ hst =>
    rcases hst with ⟨hx, h | h⟩ | ⟨hx, -, h⟩ <;> exact off (by show state ≠ .armed; rw [h]; nofun) (by rw [hx]; nofun)
  | fire _ _ _ hn | disarm _ hn | rest _ _ hn | arm _ hn | unbind _ hn | reset _ hn => exact absurd hn (by decide)

theorem Group.Moves.armed_iff (h : Group.Moves A 0 x y) : y.state = .armed ↔ x.state = .armed := by
  induction h with
  | refl => exact Iff.rfl
  | tail _ h ih => exact h.armed_iff.trans ih

/-- Where sets fire ARMED groups only, no move of level 1 trips, binds or releases. -/
theorem Group.Move.tripped_iff (h : Group.Move True 1 x y) :
    (y.state = .tripped ↔ x.state = .tripped) ∧ (y.state = .unbound ↔ x.state = .unbound) := by
  have off : ∀ {a b : GroupState}, (a ≠ .tripped ∧ a ≠ .unbound) → (b ≠ .tripped ∧ b ≠ .unbound) →
      (a = .tripped ↔ b = .tripped) ∧ (a = .unbound ↔ b = .unbound) :=
    fun ha hb => ⟨⟨fun h => absurd h ha.1, fun h => absurd h hb.1⟩, ⟨fun h => absurd h ha.2, fun h => absurd h hb.2⟩⟩
  cases h with
  | alike h => rw [h.state]; exact ⟨Iff.rfl, Iff.rfl⟩
  | settleFetch | retireSlot | tail | stopEnding => exact ⟨Iff.rfl, Iff.rfl⟩
  | finishStop =>
    rcases x.finishStop_cases with h | ⟨hst, -, h⟩
    · rw [h]; exact ⟨Iff.rfl, Iff.rfl⟩
    · rw [h]; exact off ⟨nofun, nofun⟩ (by rw [hst]; exact ⟨nofun, nofun⟩)
  | takeover slot _ _ e _ hst | starve _ hst | resume _ e _ hst | stopStarved _ hst | disarm _ _ hst | arm _ _ hst =>
    exact off ⟨nofun, nofun⟩ (by rw [hst]; exact ⟨nofun, nofun⟩)
  | fire _ e _ _ hst => exact off ⟨nofun, nofun⟩ (by rw [hst trivial]; exact ⟨nofun, nofun⟩)
  | stopRunning mode _ hst => rw [Group.stopRunning_state]; exact off ⟨nofun, nofun⟩ (by rw [hst]; exact ⟨nofun, nofun⟩)
  | clear _ _ hx hy _ htrip =>
    exact ⟨htrip.resolve_right (by decide), fun h => absurd h hy, fun h => absurd h hx⟩
  | discard => rw [Group.discard_state]; exact ⟨Iff.rfl, Iff.rfl⟩
  | leave => rw [Group.leave_state]; exact ⟨Iff.rfl, Iff.rfl⟩
  | bind ring state _ hn _ hst =>
    rcases hst with ⟨hx, -⟩ | ⟨hx, -, h⟩
    · exact absurd (hn hx) (by decide)
    · exact off (by show state ≠ _ ∧ state ≠ _; rw [h]; exact ⟨nofun, nofun⟩) (by rw [hx]; exact ⟨nofun, nofun⟩)
  | rest _ _ hn | unbind _ hn | reset _ hn => exact absurd hn (by decide)

theorem Group.Moves.tripped_iff (h : Group.Moves True 1 x y) :
    (y.state = .tripped ↔ x.state = .tripped) ∧ (y.state = .unbound ↔ x.state = .unbound) := by
  induction h with
  | refl => exact ⟨Iff.rfl, Iff.rfl⟩
  | tail _ h ih => exact ⟨h.tripped_iff.1.trans ih.1, h.tripped_iff.2.trans ih.2⟩

end States

/-! ## The sets that name a group -/

section Sets

variable {s t u : State} {g : GroupId}

theorem setLaw_of_same (hs : SetLaw s) (hsets : t.sets = s.sets)
    (hst : ∀ m, (t.group m).state = .armed ↔ (s.group m).state = .armed) : SetLaw t := by
  intro m
  rw [State.setsNaming, hsets]
  simp only [hst m]
  exact hs m

theorem setLaw_of_goes {A : Prop} (hs : SetLaw s) (h : State.Goes A 0 s t) (hsets : t.sets = s.sets) : SetLaw t :=
  setLaw_of_same hs hsets fun m => (h.moves m).armed_iff

/-- Of the pending sets that name a group the set law leaves one. -/
theorem SetLaw.unique (hs : SetLaw s) {a b : StartSet} (ha : a ∈ s.sets) (hb : b ∈ s.sets)
    (hag : a.members.getLsbD g = true) (hbg : b.members.getLsbD g = true) : a = b := by
  have hone := hs g
  rw [if_pos (hs.armed ha hag), State.setsNaming, List.length_eq_one_iff] at hone
  obtain ⟨c, hc⟩ := hone
  have hmem : ∀ d ∈ s.sets, d.members.getLsbD g = true → d = c := fun d hd hdg =>
    List.mem_singleton.1 (hc ▸ List.mem_filter.2 ⟨hd, hdg⟩)
  exact (hmem a ha hag).trans (hmem b hb hbg).symm

/-- Without the set that names a group, its members are named by none, and every other group by what named it. -/
theorem SetLaw.naming_without (hs : SetLaw s) {a : StartSet} (ha : a ∈ s.sets) (hag : a.members.getLsbD g = true)
    (ht : t.sets = s.sets.filter fun b => !b.members.getLsbD g) (m : GroupId) :
    t.setsNaming m = if a.members.getLsbD m = true then 0 else s.setsNaming m := by
  rw [State.setsNaming, ht, List.filter_filter]
  split
  · next hm =>
    rw [List.length_eq_zero_iff, List.filter_eq_nil_iff]
    intro b hb hbm
    simp only [Bool.and_eq_true, Bool.not_eq_true'] at hbm
    rw [hs.unique hb ha hbm.1 hm, hag] at hbm
    cases hbm.2
  · next hm =>
    rw [State.setsNaming]
    congr 1
    refine List.filter_congr fun b hb => ?_
    cases hbg : b.members.getLsbD g with
    | false => exact Bool.and_true _
    | true => rw [hs.unique hb ha hbg hag, Bool.eq_false_iff.2 hm]; rfl

/-- A group that has left ARMED takes its set with it, whose other members stop (R42, R78). -/
theorem setLaw_breakSet (hs : SetLaw s) (hsets : t.sets = s.sets) (hothers : ∀ m, m ≠ g → (t.group m).state = (s.group m).state)
    (hg : (t.group g).state ≠ .armed) : SetLaw (t.breakSet g) := by
  intro m
  cases hf : s.sets.find? fun a => a.members.getLsbD g with
  | none =>
    have hnone := List.find?_eq_none.1 hf
    have hbreak : t.breakSet g = t := State.breakSet_of_none (by rw [hsets]; exact hf)
    rw [hbreak]
    by_cases hm : m = g
    · subst hm
      rw [if_neg hg, State.setsNaming, hsets, List.length_eq_zero_iff, List.filter_eq_nil_iff]
      exact hnone
    · rw [State.setsNaming, hsets, hothers m hm]
      exact hs m
  | some a =>
    have ha := List.mem_of_find?_eq_some hf
    have hag : a.members.getLsbD g = true := by simpa using List.find?_some hf
    rw [hs.naming_without ha hag ((State.breakSet_sets t g).trans (by rw [hsets])), State.breakSet_group, hsets, hf]
    by_cases ham : a.members.getLsbD m = true
    · have hstate : ((t.group m).breakOut (m == g)).state ≠ .armed := by
        unfold Group.breakOut
        split
        · nofun
        · next h =>
          intro harmed
          have harmed : (t.group m).state = .armed := harmed
          by_cases hm : m = g
          · exact hg (hm ▸ harmed)
          · exact h (by simp [hm, harmed])
      rw [if_pos ham, Option.any_some, if_pos ham, if_neg hstate]
    · have hm : m ≠ g := fun h => ham (h ▸ hag)
      rw [if_neg ham, Option.any_some, if_neg ham, hothers m hm]
      exact hs m

/-- The groups after a group's work has been removed and the group changed. -/
theorem State.removeWork_modGroup_group_ne (s : State) (ending : SegStatus) (f : Group → Group) {m : GroupId} (h : m ≠ g) :
    ((s.removeWork g ending).modGroup g f).group m = s.group m := by
  have hremoved : (s.removeWork g ending).group m = (s.modGroup g (Group.removed s g ending)).group m := rfl
  rw [State.group_modGroup_ne _ _ h, hremoved, State.group_modGroup_ne _ _ h]

/-- A fault, a trip or an abort of a group (R33, R40, R122) keeps the set law: an ARMED group takes its set along. -/
theorem setLaw_clearOut (hs : SetLaw s) (ending : SegStatus) {f : Group → Group} (hf : ∀ x, (f x).state ≠ .armed) :
    SetLaw (if (s.group g).state = .armed then ((s.removeWork g ending).modGroup g f).breakSet g
      else (s.removeWork g ending).modGroup g f) := by
  have hg : (((s.removeWork g ending).modGroup g f).group g).state ≠ .armed := by
    rw [State.group_modGroup_same]
    exact hf _
  split
  · exact setLaw_breakSet hs rfl (fun m hm => by rw [State.removeWork_modGroup_group_ne s ending f hm]) hg
  · next h =>
    refine setLaw_of_same hs rfl fun m => ?_
    by_cases hm : m = g
    · subst hm
      exact ⟨fun h => absurd h hg, fun h' => absurd h' h⟩
    · rw [State.removeWork_modGroup_group_ne s ending f hm]

theorem setLaw_faultGroup (hs : SetLaw s) (g : GroupId) : SetLaw (s.faultGroup g) := by
  rw [State.faultGroup_eq]
  exact setLaw_clearOut hs _ fun _ => nofun

theorem setLaw_abortGroup (hs : SetLaw s) (g : GroupId) : SetLaw (s.abortGroup g) := by
  rw [State.abortGroup_eq]
  refine setLaw_clearOut hs _ fun _ => ?_
  show (s.group g).state.aborted ≠ .armed
  cases (s.group g).state <;> simp [GroupState.aborted]

theorem setLaw_modGroup (hs : SetLaw s) {f : Group → Group} (hf : (f (s.group g)).state = .armed ↔ (s.group g).state = .armed) :
    SetLaw (s.modGroup g f) := by
  refine setLaw_of_same hs rfl fun m => ?_
  rw [State.group_modGroup]
  split
  · next h => subst h; exact hf
  · exact Iff.rfl

theorem setLaw_tripGroup (hs : SetLaw s) (g : GroupId) : SetLaw (s.tripGroup g) := by
  have off : ∀ st, (s.group g).state = st → st ≠ .armed → SetLaw (s.modGroup g fun x => { x with state := .tripped }.notify .tripped) :=
    fun st h hst => setLaw_modGroup hs ⟨nofun, fun ha => absurd (h.symm.trans ha) hst⟩
  have hclear := setLaw_clearOut (g := g) hs .tripped (f := fun x => { x.clearOut with state := .tripped }.notify .tripped)
    fun _ h => by cases h
  cases h : (s.group g).state with
  | unbound => rw [State.tripGroup_of_out (.inl h)]; exact hs
  | tripped => rw [State.tripGroup_of_out (.inr h)]; exact hs
  | stopped => rw [State.tripGroup_of_resting (.inl h)]; exact off _ h nofun
  | faulted => rw [State.tripGroup_of_resting (.inr h)]; exact off _ h nofun
  | armed => rw [State.tripGroup_of_armed h]; rwa [if_pos h] at hclear
  | running => rw [State.tripGroup_of_running (.inl h)]; rwa [if_neg (by rw [h]; nofun)] at hclear
  | starved => rw [State.tripGroup_of_running (.inr (.inl h))]; rwa [if_neg (by rw [h]; nofun)] at hclear
  | stopping => rw [State.tripGroup_of_running (.inr (.inr h))]; rwa [if_neg (by rw [h]; nofun)] at hclear

theorem setLaw_stopGroup (hs : SetLaw s) (g : GroupId) (mode : StopMode) : SetLaw (s.stopGroup g mode) := by
  unfold State.stopGroup
  split
  · next h =>
    refine setLaw_modGroup hs ?_
    rw [Group.stopRunning_state, h]
    exact ⟨nofun, nofun⟩
  · next h => exact setLaw_modGroup hs (by rw [h]; exact ⟨nofun, nofun⟩)
  · refine setLaw_breakSet hs rfl (fun m hm => ?_) ?_
    · rw [State.group_modGroup_ne _ _ hm]
    · rw [State.group_modGroup_same]; nofun
  · exact hs

theorem setLaw_pump (hs : SetLaw s) : SetLaw s.pump := setLaw_of_goes (A := False) hs (goes_pump s) s.sets_pump

end Sets

end Sys2Proof.Machine
end

section
/-! PROOF. Every step keeps the set law (R72). -/

namespace Sys2Proof.Machine

section Sets

variable {s t u : State} {g : GroupId}

/-- Marks on the sets leave who is named as it is. -/
theorem setLaw_of_marked (hs : SetLaw s) {f : StartSet → StartSet} (hf : ∀ a, (f a).members = a.members)
    (hsets : t.sets = s.sets.map f) (hst : ∀ m, (t.group m).state = (s.group m).state) : SetLaw t := by
  intro m
  have hcomp : ((fun a : StartSet => a.members.getLsbD m) ∘ f) = fun a => a.members.getLsbD m := funext fun a => by
    rw [Function.comp_apply, hf]
  rw [State.setsNaming, hsets, List.filter_map, List.length_map, hst, hcomp]
  exact hs m

/-! ## The firing of a set -/

theorem State.fireMember_state (posters : List (GroupId × Bool)) (s : State) {e : Entry} (h : s.first? g = some e) :
    ((State.fireMember posters s g).group g).state ≠ .armed := by
  rw [State.fireMember_of_first h]
  refine mt ((goes_triggers (A := False) (n := 0) _ g).moves g).armed_iff.1 ?_
  rw [State.enterOutputs_group, State.markTick_group, State.group_modGroup_same]
  nofun

/-- A fold over members fires each of them and no other group (R77). -/
theorem fireMembers_states (posters : List (GroupId × Bool)) {l : List GroupId} (hl : l.Nodup) :
    ∀ {s : State}, (∀ m ∈ l, ∃ e, s.first? m = some e) →
      (∀ m, m ∉ l → (l.foldl (State.fireMember posters) s).group m = s.group m)
        ∧ ∀ m ∈ l, ((l.foldl (State.fireMember posters) s).group m).state ≠ .armed := by
  induction l with
  | nil => exact fun _ => ⟨fun _ _ => rfl, nofun⟩
  | cons k l ih =>
    intro s h
    obtain ⟨hk, hl⟩ := List.nodup_cons.1 hl
    obtain ⟨e, he⟩ := h k (List.mem_cons_self ..)
    have hkeep : ∀ m, m ≠ k → (State.fireMember posters s k).group m = s.group m := fun m hm =>
      State.fireMember_group_ne posters s hm
    have hfirst : ∀ m ∈ l, ∃ e, (State.fireMember posters s k).first? m = some e := fun m hm => by
      obtain ⟨e, he⟩ := h m (List.mem_cons_of_mem _ hm)
      exact ⟨e, by rw [State.first?, hkeep m fun hmk => hk (hmk ▸ hm)]; exact he⟩
    obtain ⟨hout, hin⟩ := ih hl hfirst
    refine ⟨fun m hm => ?_, fun m hm => ?_⟩
    · rw [List.mem_cons, not_or] at hm
      exact (hout m hm.2).trans (hkeep m hm.1)
    · rcases List.mem_cons.1 hm with rfl | hm
      · rw [List.foldl_cons, hout m hk]
        exact State.fireMember_state posters s he
      · exact hin m hm

theorem State.sets_fireMembers (posters : List (GroupId × Bool)) (l : List GroupId) (s : State) :
    (l.foldl (State.fireMember posters) s).sets = s.sets :=
  foldl_keeps State.sets _ (fun s m => s.sets_fireMember posters m) l s

/-- A set that fires leaves the table with its members ARMED no more (R77). -/
theorem setLaw_fireSet (hs : SetLaw s) (hd : s.setDue g = true) : SetLaw (s.fireSet g) := by
  unfold State.setDue at hd
  unfold State.fireSet
  split
  · exact hs
  · next a ha =>
    rw [ha] at hd
    simp only [Bool.and_eq_true] at hd
    split
    · exact setLaw_of_marked hs (fun b => by split <;> rfl) rfl fun _ => rfl
    · next tokens sats _ =>
      obtain ⟨hmem, hag⟩ := State.setOf_some ha
      generalize (s.setPosters a).zip (List.drop (s.setClaims a).length sats) = posters
      generalize hv : ({ s with tokens := tokens, sets := _ } : State) = v
      have hsets : v.sets = s.sets.filter fun b => !b.members.getLsbD g := by rw [← hv]
      have hgroup : ∀ m, v.group m = s.group m := fun m => by rw [← hv]; rfl
      obtain ⟨hout, hin⟩ := fireMembers_states posters a.groups_nodup (s := v) fun m hm => by
        obtain ⟨e, he, -⟩ := State.setReady_iff.1 hd.2 m hm
        exact ⟨e, by rw [State.first?, hgroup]; exact he⟩
      intro m
      rw [hs.naming_without hmem hag ((State.sets_fireMembers posters a.groups v).trans hsets)]
      split
      · next ham => rw [if_neg (hin m (StartSet.mem_groups.2 ham))]
      · next ham =>
        rw [hout m (mt StartSet.mem_groups.1 ham), hgroup]
        exact hs m

/-! ## START -/

/-- The group of a START command's set are those of its mask. -/
theorem getLsbD_members (members : Byte) (m : GroupId) : (members.extractLsb' 0 4).getLsbD m = members.getLsbD m := by
  simp [m.isLt]

theorem setLaw_start (hs : SetLaw s) (members : Byte) (hnamed : ∀ m : GroupId, members.getLsbD m = true → (s.group m).state = .stopped) :
    SetLaw ((maskGroups members).foldl (fun (t : State) (m : GroupId) => t.modGroup m fun x => { x with state := .armed })
      { s with sets := s.sets ++ [{ members := members.extractLsb' 0 4 }] }) := by
  intro m
  rw [group_foldl_modGroup _ (maskGroups_nodup _)]
  have hsets : ((maskGroups members).foldl (fun (t : State) (m : GroupId) => t.modGroup m fun x => { x with state := .armed })
      { s with sets := s.sets ++ [{ members := members.extractLsb' 0 4 }] }).sets =
      s.sets ++ [{ members := members.extractLsb' 0 4 }] := by rw [foldl_modGroup_eq]
  have hin : m ∈ maskGroups members ↔ members.getLsbD m = true :=
    ⟨fun h => (List.mem_filter.1 h).2, fun h => List.mem_filter.2 ⟨mem_allGroups m, h⟩⟩
  have hbefore : s.setsNaming m = _ := hs m
  rw [State.setsNaming, hsets, List.filter_append, List.length_append]
  by_cases hm : members.getLsbD m = true
  · rw [if_neg (by rw [hnamed m hm]; nofun)] at hbefore
    rw [if_pos (hin.2 hm), if_pos rfl, List.filter_cons_of_pos (by rw [getLsbD_members]; exact hm)]
    exact congrArg (· + 1) hbefore
  · rw [if_neg (mt hin.1 hm), List.filter_cons_of_neg (by rw [getLsbD_members]; exact hm)]
    exact hbefore

/-! ## Every effect -/

theorem setLaw_levelChange (hs : SetLaw s) (l : LineId) : SetLaw (s.levelChange l) := by
  rw [levelChange_eq]
  have same : ∀ {v : State}, v.groups = s.groups → v.sets = s.sets → SetLaw v := fun hg hsets =>
    setLaw_of_same hs hsets fun m => by rw [State.group, hg]; exact Iff.rfl
  split
  · split
    · exact setLaw_pump (foldl_inv SetLaw _ (fun t m ht => setLaw_tripGroup ht m) _ _ (same rfl rfl))
    · exact same rfl rfl
  · exact same rfl rfl

theorem setLaw_judgeSample (hs : SetLaw s) (l : LineId) (level : Level) : SetLaw (s.judgeSample l level) := by
  unfold State.judgeSample
  split
  · exact setLaw_levelChange hs l
  · exact hs

theorem setLaw_lineStep (hs : SetLaw s) (l : LineId) : SetLaw (s.lineStep l) := by
  unfold State.lineStep
  split
  · exact hs
  · exact setLaw_judgeSample hs l _

theorem Group.bind_armed_iff (cmd : Slot32) (tripped : Bool) {x : Group} (h : x.state = .unbound ∨ x.state = .stopped) :
    (x.bind cmd tripped).state = .armed ↔ x.state = .armed := by
  unfold Group.bind
  rcases h with h | h
  · rw [if_pos (by rw [h]; rfl), h]
    split <;> exact ⟨nofun, nofun⟩
  · rw [if_neg (by rw [h]; decide)]

theorem Group.clearTrip_armed_iff (x : Group) : x.clearTrip.state = .armed ↔ x.state = .armed := by
  unfold Group.clearTrip
  split
  · next h =>
    rw [beq_iff_eq] at h
    rw [h]
    exact ⟨nofun, nofun⟩
  · exact Iff.rfl

theorem Serves.keeps_sets (h : Serves s u) (hs : SetLaw s) : SetLaw u := by
  cases h with
  | nothing | setPair | setConverter | setTrip | setToken => exact hs
  | bind g cmd _ _ hst => exact setLaw_modGroup hs (Group.bind_armed_iff cmd _ (hst.imp_right And.left))
  | unbind g _ hst => exact setLaw_modGroup hs (by rw [hst]; exact ⟨nofun, nofun⟩)
  | setGroup g d mode => exact setLaw_modGroup (f := fun x => { x with d := d, mode := mode, presc := 0 }) hs Iff.rfl
  | start members _ _ hnamed => exact setLaw_start hs members fun m hm => (hnamed m hm).2.1
  | stop g mode => exact setLaw_pump (setLaw_stopGroup hs g mode)
  | abort g => exact setLaw_pump (setLaw_abortGroup hs g)
  | discard g => exact setLaw_pump (setLaw_modGroup (setLaw_abortGroup hs g) (by rw [Group.discard_state]))
  | clearTrip l =>
    refine foldl_inv SetLaw _ (fun t g ht => ?_) _ _ hs
    split
    · exact ht
    · exact setLaw_modGroup ht (Group.clearTrip_armed_iff _)
  | finishSample => exact foldl_inv SetLaw _ (fun t l ht => setLaw_lineStep ht l) _ _ hs

theorem setLaw_readAnswered (hs : SetLaw s) (g : GroupId) (f : Entry → Entry) : SetLaw (s.readAnswered g f) := by
  have hsettle : SetLaw ((s.answered (.fetcher g)).modGroup g (Group.settleFetch f)) :=
    setLaw_modGroup (s := s.answered (.fetcher g)) hs Iff.rfl
  unfold State.readAnswered
  dsimp only
  split
  · split
    · exact setLaw_pump (setLaw_faultGroup hsettle g)
    · exact hsettle
  · exact hs

theorem setLaw_resultAnswered {f : WordOnBus → State → State} (hf : ∀ w s, (f w s).sets = s.sets)
    (hg : ∀ w s, State.Goes False 0 s (f w s)) (hs : SetLaw s) : SetLaw (s.resultAnswered f) := by
  have hword : SetLaw s.wordAnswered := hs
  unfold State.resultAnswered
  split
  · exact hword
  · refine setLaw_pump ?_
    split
    · exact hword
    · exact setLaw_of_goes hword (hg _ _) (hf _ _)

theorem setLaw_endPost (hs : SetLaw s) (g : GroupId) (e : Entry) : SetLaw (s.endPost g e) :=
  setLaw_of_goes hs (goes_endPost (A := False) s g e) (s.sets_endPost g e)

theorem setLaw_end_faultGroup (hs : SetLaw s) (g : GroupId) (status : SegStatus) :
    SetLaw ((s.modGroup g (Group.endActive status)).faultGroup g) :=
  setLaw_faultGroup (setLaw_modGroup (f := Group.endActive status) hs Iff.rfl) g

theorem setLaw_takeover (hs : SetLaw s) {v : State} (hv : SetLaw v) {e d : Entry} (hst : (s.group g).state = .running)
    (hd : (s.group g).next? = some d) (hr : d.st = .ready) : SetLaw ((s.takeover g e d).getD v) := by
  cases h : s.takeover g e d with
  | none => exact hv
  | some u => exact setLaw_of_goes hs (goes_takeover (A := False) hst hd hr h) (s.sets_takeover g e d u h)

theorem setLaw_runningBoundary (hs : SetLaw s) (e : Entry) (hst : (s.group g).state = .running) :
    SetLaw (s.runningBoundary g e) := by
  have hextend : SetLaw (s.modEntry (e.ref g) Entry.extend) :=
    setLaw_modGroup (g := g) (f := fun x => x.modSlot e.slot Entry.extend) hs Iff.rfl
  unfold State.runningBoundary
  split
  · next d hd =>
    split
    · next hr =>
      have hr : d.st = .ready := by simpa using hr
      split
      · exact setLaw_takeover hs hs hst hd hr
      · split
        · exact hs
        · exact setLaw_takeover hs hextend hst hd hr
    · split
      · exact hs
      · exact setLaw_end_faultGroup (setLaw_endPost hs g e) g .ok
  · split
    · exact hs
    · exact setLaw_of_goes hs (goes_starve (A := False) e hst) (s.sets_starve g e)

theorem setLaw_stopEnding (hs : SetLaw s) (g : GroupId) (e : Entry) (status : SegStatus) :
    SetLaw (s.stopEnding g e status) := by
  have hpost : SetLaw (if (status == .ok) = true then s.endPost g e else s) := by
    split
    · exact setLaw_endPost hs g e
    · exact hs
  unfold State.stopEnding
  dsimp only
  generalize (if (status == .ok) = true then s.endPost g e else s) = v at hpost
  split
  · exact setLaw_end_faultGroup hpost g status
  · exact setLaw_modGroup (f := fun x => { x.retireWaiting.holdCounter with pendingStop := .noStop })
      (setLaw_modGroup (f := Group.endActive status) hpost Iff.rfl) Iff.rfl

theorem setLaw_boundary (hs : SetLaw s) (e : Entry) (hst : (s.group g).state = .running ∨ (s.group g).state = .stopping) :
    SetLaw (s.boundary g e) := by
  have hstate : ((s.modGroup g fun x =>
      (x.modSlot e.slot fun e => { e with periodsRun := satSucc32 e.periodsRun }).holdCounter).group g).state =
      (s.group g).state := by rw [State.group_modGroup_same]; rfl
  have hcount : SetLaw (s.modGroup g fun x =>
      (x.modSlot e.slot fun e => { e with periodsRun := satSucc32 e.periodsRun }).holdCounter) :=
    setLaw_modGroup hs Iff.rfl
  unfold State.boundary
  dsimp only
  rw [← hstate] at hst
  split
  · unfold State.stoppingBoundary
    split
    · exact setLaw_stopEnding hcount g _ _
    · split
      · exact setLaw_stopEnding hcount g _ _
      · exact hcount
    · exact hcount
  · next h => exact setLaw_runningBoundary hcount _ (hst.resolve_right (by simpa using h))

theorem setLaw_periodBoundary (hs : SetLaw s) (hb : (s.group g).atBoundary = true) : SetLaw (s.periodBoundary g) := by
  unfold State.periodBoundary
  split
  · exact hs
  · refine setLaw_pump (setLaw_of_goes ?_ (goes_afterBoundary (A := False) _ g) (State.sets_afterBoundary _ g))
    exact setLaw_boundary (s := s.markTick g) hs _ (Group.running_of_atBoundary hb)

theorem Effect.keeps_sets (h : Effect s u) (hs : SetLaw s) : SetLaw u := by
  cases h with
  | powerOn | controllerReset =>
    intro m
    have hm : (State.reset.group m).state ≠ .armed := by rw [reset_group]; nofun
    exact (if_neg hm).symm
  | groupTail g n => exact setLaw_modGroup (f := fun x => { x with ring := { x.ring with tail := n } }) hs Iff.rfl
  | fetch g => exact setLaw_modGroup (f := Group.beginFetch) hs Iff.rfl
  | readOk | readError => exact setLaw_readAnswered hs _ _
  | tick g => exact setLaw_of_goes hs (t := (s.markTick g).stepTick g) ((goes_markTick (A := False) s g).trans (goes_stepTick _ g)) (by simp)
  | boundary g _ _ hb => exact setLaw_periodBoundary hs hb
  | resume g _ _ hr =>
    exact setLaw_of_goes hs (t := (s.markTick g).resume g)
      ((goes_markTick (A := False) s g).trans (goes_resume (s := s.markTick g) hr)) (by simp)
  | fire g _ h => exact setLaw_fireSet hs h
  | converterTick v => exact setLaw_of_goes hs (goes_convTick (A := False) s v) (by simp)
  | conversionEnd => exact setLaw_of_goes hs (goes_conversionEnd (A := False) s) (by simp)
  | issueWord =>
    unfold State.issueWord
    split
    · exact hs
    · split
      · exact hs
      · next j _ _ e _ =>
        exact setLaw_modGroup (g := j.ref.group) (f := fun x => x.modSlot j.ref.slot fun e => { e with nextPos := e.nextPos + 1 }) hs Iff.rfl
  | countWord => exact setLaw_resultAnswered (fun w s => s.sets_countWord w) (fun w s => goes_countWord s w) hs
  | faultWord => exact setLaw_resultAnswered (fun w s => s.sets_faultWord w) (fun w s => goes_faultWord s w) hs
  | leave g => exact setLaw_modGroup hs (by rw [Group.leave_state])
  | notice g => exact setLaw_modGroup (f := Group.queueNotice g) hs Iff.rfl
  | issueEntry v =>
    cases v with
    | group g => exact setLaw_modGroup (g := g) (f := fun x => { x with queue := x.queue.tail }) hs Iff.rfl
    | admin => exact hs
  | judge => exact setLaw_judgeSample hs _ _
  | command _ _ _ _ _ _ hu => exact hu.keeps_sets hs
  | window | ringcfg | started | adminTail | release | expiry | commandRead | commandError | entryOk | entryError | sample =>
    exact hs

theorem setLaw_passClock (hs : SetLaw s) : SetLaw s.passClock := by
  refine setLaw_of_marked hs (f := fun a => { a with asked := false }) (fun _ => rfl) rfl fun m => ?_
  rw [State.passClock_group]
  unfold Group.passClock
  cases s.ctrl <;> rfl

/-- Settles O15: a group that leaves ARMED takes its set out of the table, and START names groups that no set names. -/
theorem everyStepKeepsArmedGroupsInOneSet : Obligations.EveryStepKeepsArmedGroupsInOneSet := by
  unfold Obligations.EveryStepKeepsArmedGroupsInOneSet
  intro s t hs h
  exact step_keeps_of_effects SetLaw (fun _ _ h => h) (fun _ _ h => h) (fun _ _ h => h) (fun _ h => h)
    (fun _ _ hs hu => hu.keeps_sets hs) (fun _ h => setLaw_passClock h) hs h

end Sets

end Sys2Proof.Machine
end

section
/-! PROOF. Every step keeps each bound group TRIPPED exactly while its trip condition holds (R122). -/

namespace Sys2Proof.Machine

section Trips

variable {s t u : State} {g : GroupId}

/-! ## The law from one state to another -/

theorem tripCondition_of_lines (h : t.lines = s.lines) (g : GroupId) : t.tripCondition g = s.tripCondition g := by
  simp only [State.tripCondition, State.line, h]

/-- Where no trip condition changes and no group is tripped, bound or released, the law stays; it says nothing in
HALTED. -/
theorem tripLaw_of_states (hs : TripLaw s) (hctrl : t.ctrl = s.ctrl ∨ t.ctrl = .halted)
    (hcond : ∀ m, t.tripCondition m = s.tripCondition m)
    (hst : ∀ m, ((t.group m).state = .tripped ↔ (s.group m).state = .tripped)
      ∧ ((t.group m).state = .unbound ↔ (s.group m).state = .unbound)) : TripLaw t := by
  obtain ⟨hrun, hoff⟩ := hs
  rcases hctrl with hctrl | hctrl
  · refine ⟨fun h m => ?_, fun h m => (hst m).2.2 (hoff (hctrl ▸ h) m)⟩
    have hm := hrun (hctrl ▸ h) m
    split
    · trivial
    · next hu =>
      rw [if_neg (mt (hst m).2.2 hu)] at hm
      rw [(hst m).1, hcond]
      exact hm
  · refine ⟨fun h => ?_, fun h => ?_⟩ <;> (rw [hctrl] at h; cases h)

theorem tripLaw_of_groups (hs : TripLaw s) (hctrl : t.ctrl = s.ctrl ∨ t.ctrl = .halted) (hlines : t.lines = s.lines)
    (hg : t.groups = s.groups) : TripLaw t :=
  tripLaw_of_states hs hctrl (tripCondition_of_lines hlines) fun m => by
    rw [State.group, hg]
    exact ⟨Iff.rfl, Iff.rfl⟩

theorem tripLaw_of_goes (hs : TripLaw s) (hctrl : t.ctrl = s.ctrl) (hlines : t.lines = s.lines) (h : State.Goes True 1 s t) :
    TripLaw t :=
  tripLaw_of_states hs (.inl hctrl) (tripCondition_of_lines hlines) fun m => (h.moves m).tripped_iff

theorem tripLaw_of_fixed (hs : TripLaw s) (hf : t.fixed = s.fixed) (h : State.Goes True 1 s t) : TripLaw t :=
  tripLaw_of_goes hs (congrArg Fixed.ctrl hf) (congrArg Fixed.lines hf) h

theorem tripLaw_modGroup (hs : TripLaw s) {f : Group → Group} (hf : (f (s.group g)).state = (s.group g).state) :
    TripLaw (s.modGroup g f) := by
  refine tripLaw_of_states hs (.inl rfl) (fun _ => rfl) fun m => ?_
  rw [State.group_modGroup]
  split
  · next h => subst h; rw [hf]; exact ⟨Iff.rfl, Iff.rfl⟩
  · exact ⟨Iff.rfl, Iff.rfl⟩

/-! ## Trips -/

/-- What a trip of some groups makes of a group's state: a bound group that is hit is TRIPPED. -/
structure TripsTo (hit : Prop) (before after : GroupState) : Prop where
  unbound : after = .unbound ↔ before = .unbound
  tripped : after = .tripped ↔ before = .tripped ∨ (hit ∧ before ≠ .unbound)

theorem TripsTo.trans {p q : Prop} {a b c : GroupState} (h : TripsTo p a b) (h' : TripsTo q b c) : TripsTo (p ∨ q) a c := by
  refine ⟨h'.unbound.trans h.unbound, ?_⟩
  simp only [h'.tripped, h.tripped, ne_eq, h.unbound]
  tauto

theorem tripsTo_of_moves {x y : Group} (h : Group.Moves True 1 x y) : TripsTo False x.state y.state :=
  ⟨h.tripped_iff.2, by rw [h.tripped_iff.1]; simp⟩

/-- The breaking of a set leaves the state of the group that leaves it. -/
theorem State.breakSet_state_self (s : State) (g : GroupId) : ((s.breakSet g).group g).state = (s.group g).state := by
  rw [State.breakSet_group]
  split
  · unfold Group.breakOut
    rw [if_neg (by simp)]
    rfl
  · rfl

/-- The tripping of a group trips it, where it is bound, and no other (R121). -/
theorem tripsTo_tripGroup (s : State) (g m : GroupId) : TripsTo (m = g) (s.group m).state ((s.tripGroup g).group m).state := by
  have hsame : ∀ {x : Group}, m ≠ g → x.state = (s.group m).state → TripsTo (m = g) (s.group m).state x.state :=
    fun hm h => h ▸ ⟨Iff.rfl, by simp [hm]⟩
  have hhit : ∀ {x : Group}, (s.group g).state ≠ .unbound → m = g → x.state = .tripped → TripsTo (m = g) (s.group m).state x.state := by
    intro x hu hm h
    subst hm
    rw [h]
    exact ⟨⟨nofun, fun h => absurd h hu⟩, by simp [hu]⟩
  have hclear : ∀ {f : Group → Group}, (∀ x, (f x).state = .tripped) → (s.group g).state ≠ .unbound →
      TripsTo (m = g) (s.group m).state (((s.removeWork g .tripped).modGroup g f).group m).state := by
    intro f hf hu
    by_cases hm : m = g
    · refine hhit hu hm ?_
      rw [hm, State.group_modGroup_same]
      exact hf _
    · refine hsame hm ?_
      rw [State.removeWork_modGroup_group_ne s _ _ hm]
  have hrest : (s.group g).state ≠ .unbound →
      TripsTo (m = g) (s.group m).state ((s.modGroup g fun x => { x with state := .tripped }.notify .tripped).group m).state := by
    intro hu
    by_cases hm : m = g
    · refine hhit hu hm ?_
      rw [hm, State.group_modGroup_same]
      rfl
    · refine hsame hm ?_
      rw [State.group_modGroup_ne _ _ hm]
  have hout : (s.group g).state = .unbound ∨ (s.group g).state = .tripped → TripsTo (m = g) (s.group m).state (s.group m).state := by
    intro h
    refine ⟨Iff.rfl, ⟨Or.inl, fun h' => h'.elim id fun ⟨hm, hu⟩ => ?_⟩⟩
    subst hm
    exact h.resolve_left hu
  have hrun : (s.group g).state = .running ∨ (s.group g).state = .starved ∨ (s.group g).state = .stopping →
      (s.group g).state ≠ .unbound := by
    rintro (h | h | h) <;> rw [h] <;> nofun
  cases h : (s.group g).state with
  | unbound => rw [State.tripGroup_of_out (.inl h)]; exact hout (.inl h)
  | tripped => rw [State.tripGroup_of_out (.inr h)]; exact hout (.inr h)
  | stopped => rw [State.tripGroup_of_resting (.inl h)]; exact hrest (by rw [h]; nofun)
  | faulted => rw [State.tripGroup_of_resting (.inr h)]; exact hrest (by rw [h]; nofun)
  | armed =>
    rw [State.tripGroup_of_armed h]
    have hu : (s.group g).state ≠ .unbound := by rw [h]; nofun
    by_cases hm : m = g
    · refine hhit hu hm ?_
      rw [hm, State.breakSet_state_self, State.group_modGroup_same]
      rfl
    · have hbreak := tripsTo_of_moves ((goes_breakSet (A := True) (Nat.le_refl 1)
        ((s.removeWork g .tripped).modGroup g fun x => { x.clearOut with state := .tripped }.notify .tripped) g).moves m)
      rw [State.removeWork_modGroup_group_ne s _ _ hm] at hbreak
      exact ⟨hbreak.unbound, by rw [hbreak.tripped]; simp [hm]⟩
  | running => rw [State.tripGroup_of_running (.inl h)]; exact hclear (fun _ => rfl) (hrun (.inl h))
  | starved => rw [State.tripGroup_of_running (.inr (.inl h))]; exact hclear (fun _ => rfl) (hrun (.inr (.inl h)))
  | stopping => rw [State.tripGroup_of_running (.inr (.inr h))]; exact hclear (fun _ => rfl) (hrun (.inr (.inr h)))

/-- Groups tripped one after the other. -/
theorem tripsTo_tripGroups (l : List GroupId) (m : GroupId) :
    ∀ s : State, TripsTo (m ∈ l) (s.group m).state ((l.foldl (fun t g => t.tripGroup g) s).group m).state := by
  induction l with
  | nil => exact fun s => ⟨Iff.rfl, by simp⟩
  | cons k l ih =>
    intro s
    have h := (tripsTo_tripGroup s k m).trans (ih (s.tripGroup k))
    rwa [← List.mem_cons] at h

/-- A level change takes no latch and no mask away. -/
theorem tripCondition_change (s : State) (l : LineId) {m : GroupId} (h : s.tripCondition m = true) :
    (s.setLine l (s.line l).change).tripCondition m = true := by
  obtain ⟨k, hlatch, hmask⟩ := (s.tripCondition_iff m).1 h
  refine (State.tripCondition_iff _ m).2 ⟨k, ?_⟩
  rw [State.line_setLine]
  split
  · next hkl =>
    subst hkl
    refine ⟨?_, hmask⟩
    show ((s.line k).latch || _) = true
    rw [hlatch]
    rfl
  · exact ⟨hlatch, hmask⟩

/-- A change of a line that does not trip changes no trip condition. -/
theorem tripCondition_change_of_not_trips {l : LineId} (h : ¬(s.line l).trips = true) (m : GroupId) :
    (s.setLine l (s.line l).change).tripCondition m = s.tripCondition m := by
  refine tripCondition_setLine_of_same (x := (s.line l).change) rfl ?_ m
  show ((s.line l).latch || (s.line l).trips) = (s.line l).latch
  rw [Bool.eq_false_iff.2 h, Bool.or_false]

theorem mem_newlyTripped {m : GroupId} : m ∈ newlyTripped s t ↔ t.tripCondition m = true ∧ s.tripCondition m = false := by
  simp [newlyTripped, mem_allGroups]

theorem tripLaw_levelChange (hs : TripLaw s) (l : LineId) : TripLaw (s.levelChange l) := by
  by_cases htrips : (s.line l).trips = true
  · by_cases hrun : s.ctrl = .running
    · rw [levelChange_eq, if_pos htrips, if_pos (by simpa [State.isRunning] using hrun)]
      generalize hv : (s.setLine l (s.line l).change).setEvt evtTrip = v
      have hgroup : ∀ m, v.group m = s.group m := fun m => by rw [← hv]; rfl
      have hcond : ∀ m, v.tripCondition m = (s.setLine l (s.line l).change).tripCondition m := fun m => by rw [← hv]; rfl
      have hto := fun m => tripsTo_tripGroups (newlyTripped s (s.setLine l (s.line l).change)) m v
      generalize hw : (newlyTripped s (s.setLine l (s.line l).change)).foldl (fun t g => t.tripGroup g) v = w at hto
      have hfixed : w.pump.fixed = v.fixed := by
        rw [State.fixed_pump, ← hw, foldl_keeps State.fixed _ State.fixed_tripGroup]
      refine ⟨fun _ m => ?_, fun hoff => ?_⟩
      · have hto := (hto m).trans (tripsTo_of_moves ((goes_pump w).moves m))
        rw [hgroup, or_false] at hto
        split
        · trivial
        · next hu =>
          have hbefore := hs.1 hrun m
          rw [if_neg (mt hto.unbound.2 hu)] at hbefore
          rw [hto.tripped, hbefore, tripCondition_of_lines (congrArg Fixed.lines hfixed), hcond, mem_newlyTripped]
          have hmono := tripCondition_change s l (m := m)
          have hne : (s.group m).state ≠ .unbound := mt hto.unbound.2 hu
          cases hc : s.tripCondition m <;> simp_all
      · have hctrl : w.pump.ctrl = v.ctrl := congrArg Fixed.ctrl hfixed
        have hctrl' : v.ctrl = s.ctrl := by rw [← hv]; rfl
        rw [hctrl, hctrl', hrun] at hoff
        cases hoff
    · rw [levelChange_eq, if_pos htrips, if_neg (by simpa [State.isRunning] using hrun)]
      exact ⟨fun h => absurd h hrun, hs.2⟩
  · rw [levelChange_of_not_trips htrips]
    exact tripLaw_of_states hs (.inl rfl) (tripCondition_change_of_not_trips htrips) fun _ => ⟨Iff.rfl, Iff.rfl⟩

theorem tripLaw_judgeSample (hs : TripLaw s) (l : LineId) (level : Level) : TripLaw (s.judgeSample l level) := by
  unfold State.judgeSample
  split
  · exact tripLaw_levelChange hs l
  · refine tripLaw_of_states hs (.inl rfl) (tripCondition_setLine_of_same ?_ ?_) fun _ => ⟨Iff.rfl, Iff.rfl⟩
    · rw [TripLine.countSample_eq]
    · rw [TripLine.countSample_eq]

theorem tripLaw_lineStep (hs : TripLaw s) (l : LineId) : TripLaw (s.lineStep l) := by
  unfold State.lineStep
  split
  · exact hs
  · exact tripLaw_of_groups (tripLaw_judgeSample hs l _) (.inl rfl) rfl rfl

theorem tripLaw_sampled (hs : TripLaw s) (pins : Vector Level 4) (hlines : t.lines = Vector.ofFn fun l => (s.line l).sampled (pins.get l))
    (hctrl : t.ctrl = s.ctrl) (hg : t.groups = s.groups) : TripLaw t := by
  refine tripLaw_of_states hs (.inl hctrl) (fun m => ?_) fun m => by rw [State.group, hg]; exact ⟨Iff.rfl, Iff.rfl⟩
  refine List.any_congr rfl fun l => ?_
  have hline : t.line l = (s.line l).sampled (pins.get l) := by simp [State.line, hlines, vector_get]
  have hsame : (t.line l).latch = (s.line l).latch ∧ (t.line l).mask = (s.line l).mask := by
    rw [hline]
    unfold TripLine.sampled
    split
    · exact ⟨rfl, rfl⟩
    · rw [TripLine.countSample_eq]; exact ⟨rfl, rfl⟩
  rw [hsame.1, hsame.2]

end Trips

end Sys2Proof.Machine
end

section
/-! PROOF. Every step keeps the trip law: the commands and the effects one by one (R121 to R126). -/

namespace Sys2Proof.Machine

section Trips

variable {s t u : State} {g : GroupId}

/-- What the law says of one group, without its case split. -/
theorem tripPart_iff {st : GroupState} {c : Prop} :
    (if st = .unbound then True else (st = .tripped ↔ c)) ↔ (st ≠ .unbound → (st = .tripped ↔ c)) := by
  by_cases h : st = .unbound <;> simp [h]

/-- A binding makes an UNBOUND group TRIPPED exactly under its trip condition (R154). -/
theorem tripLaw_bind (hs : TripLaw s) (hrun : s.ctrl = .running) (cmd : Slot32)
    (hst : (s.group g).state = .unbound ∨ (s.group g).state = .stopped) :
    TripLaw (s.modGroup g (Group.bind cmd (s.tripCondition g))) := by
  rcases hst with hst | hst
  · refine ⟨fun _ m => ?_, fun hoff => by cases hrun.symm.trans hoff⟩
    rw [State.group_modGroup]
    split
    · next hm =>
      subst hm
      have hbind : ((s.group m).bind cmd (s.tripCondition m)).state =
          if s.tripCondition m = true then .tripped else .stopped := by
        unfold Group.bind
        dsimp only
        rw [if_pos (by rw [hst]; rfl)]
        split <;> rfl
      rw [hbind, tripPart_iff]
      refine fun _ => ?_
      split
      · next hc => exact ⟨fun _ => hc, fun _ => rfl⟩
      · next hc => exact ⟨nofun, fun h => absurd h hc⟩
    · exact hs.1 hrun m
  · refine tripLaw_modGroup hs ?_
    unfold Group.bind
    rw [if_neg (by rw [hst]; decide)]

theorem tripLaw_unbind (hs : TripLaw s) (hrun : s.ctrl = .running) : TripLaw (s.modGroup g Group.unbind) := by
  refine ⟨fun _ m => ?_, fun hoff => by cases hrun.symm.trans hoff⟩
  rw [State.group_modGroup]
  split
  · exact (if_pos rfl).mpr trivial
  · exact hs.1 hrun m

theorem tripLaw_start (hs : TripLaw s) (members : Byte)
    (hnamed : ∀ m : GroupId, members.getLsbD m = true → (s.group m).state = .stopped) :
    TripLaw ((maskGroups members).foldl (fun (t : State) (m : GroupId) => t.modGroup m fun x => { x with state := .armed })
      { s with sets := s.sets ++ [{ members := members.extractLsb' 0 4 }] }) := by
  refine tripLaw_of_states hs (.inl ?_) (tripCondition_of_lines ?_) fun m => ?_
  · rw [foldl_modGroup_eq]
  · rw [foldl_modGroup_eq]
  · rw [group_foldl_modGroup _ (maskGroups_nodup _)]
    split
    · next hm =>
      have hst : (s.group m).state = .stopped := hnamed m (List.mem_filter.1 hm).2
      rw [hst]
      exact ⟨⟨nofun, nofun⟩, ⟨nofun, nofun⟩⟩
    · exact ⟨Iff.rfl, Iff.rfl⟩

/-- A TRIPPED group whose trip condition has become false is STOPPED (R126). -/
theorem tripLaw_clearTrip (hs : TripLaw s) (hrun : s.ctrl = .running) (l : LineId) :
    TripLaw (allGroups.foldl (fun t g => if (s.unlatch l).tripCondition g then t else t.modGroup g Group.clearTrip)
      (s.unlatch l)) := by
  have hlines : ∀ L : List GroupId, (L.foldl (fun (t : State) (g : GroupId) =>
      if (s.unlatch l).tripCondition g then t else t.modGroup g Group.clearTrip) (s.unlatch l)).fixed = (s.unlatch l).fixed :=
    fun L => foldl_keeps State.fixed _ (fun t g => by split <;> rfl) L _
  refine ⟨fun _ m => ?_, fun hoff => ?_⟩
  · rw [group_foldl_each _ (fun m x => if (s.unlatch l).tripCondition m = true then x else x.clearTrip) (fun t m k => ?_)
      allGroups_nodup, if_pos (mem_allGroups m), tripCondition_of_lines (congrArg Fixed.lines (hlines allGroups))]
    · have hgroup : (s.unlatch l).group m = s.group m := rfl
      have hbefore := hs.1 hrun m
      rw [tripPart_iff] at hbefore ⊢
      rw [hgroup]
      by_cases hc : (s.unlatch l).tripCondition m = true
      · rw [if_pos hc]
        intro hu
        rw [hbefore hu, State.tripCondition_of_unlatch hc, hc]
      · rw [if_neg hc, Group.clearTrip_eq]
        refine fun _ => ⟨fun h => ?_, fun h => absurd h hc⟩
        split at h
        · cases h
        · next hn => exact absurd h hn
    · by_cases hc : (s.unlatch l).tripCondition m = true
      · simp [hc]
      · simp only [hc]
        exact State.group_modGroup ..
  · have hctrl := congrArg Fixed.ctrl (hlines allGroups)
    have hoff' : s.ctrl = .off := hctrl.symm.trans hoff
    rw [hrun] at hoff'
    cases hoff'

theorem Serves.keeps_trips (h : Serves s u) (hs : TripLaw s) (hrun : s.ctrl = .running) : TripLaw u := by
  cases h with
  | nothing | setPair | setConverter | setToken => exact tripLaw_of_groups hs (.inl rfl) rfl rfl
  | bind g cmd _ _ hst => exact tripLaw_bind hs hrun cmd (hst.imp_right And.left)
  | unbind => exact tripLaw_unbind hs hrun
  | setGroup g d mode => exact tripLaw_modGroup (f := fun x => { x with d := d, mode := mode, presc := 0 }) hs rfl
  | setTrip l active n mask _ hl =>
    exact tripLaw_of_states hs (.inl rfl) (tripCondition_setLine_of_unlatched hl hl) fun _ => ⟨Iff.rfl, Iff.rfl⟩
  | start members _ _ hnamed => exact tripLaw_start hs members fun m hm => (hnamed m hm).2.1
  | stop g mode =>
    exact tripLaw_of_fixed hs (by simp) ((goes_stopGroup mode fun _ => Nat.le_refl 1).trans (goes_pump _))
  | abort g _ hst => exact tripLaw_of_fixed hs (by simp) ((goes_abortGroup hst fun _ => Nat.le_refl 1).trans (goes_pump _))
  | discard g _ hst =>
    refine tripLaw_of_fixed hs (by simp) (State.Goes.trans ?_ (goes_pump _))
    exact (goes_abortGroup hst fun _ => Nat.le_refl 1).trans (goes_discard (State.abortGroup_state hst))
  | clearTrip l => exact tripLaw_clearTrip hs hrun l
  | finishSample => exact foldl_inv TripLaw _ (fun t l ht => tripLaw_lineStep ht l) _ _ hs

theorem tripLaw_readAnswered (hs : TripLaw s) (g : GroupId) {f : Entry → Entry} (hf : SettlesFetch f) :
    TripLaw (s.readAnswered g f) :=
  tripLaw_of_goes hs (congrArg Fixed.ctrl (fixed_readAnswered s g f)) (congrArg Fixed.lines (fixed_readAnswered s g f))
    (goes_readAnswered (Nat.le_refl 1) hf s g)

theorem tripLaw_resultAnswered (hs : TripLaw s) {f : WordOnBus → State → State} (hf : ∀ w s, (f w s).fixed = s.fixed)
    (hg : ∀ w s, State.Goes True 1 s (f w s)) : TripLaw (s.resultAnswered f) := by
  have hword : TripLaw s.wordAnswered := tripLaw_of_groups hs (.inl rfl) rfl rfl
  exact tripLaw_of_goes hword (congrArg Fixed.ctrl (fixed_resultAnswered hf s)) (congrArg Fixed.lines (fixed_resultAnswered hf s))
    (goes_resultAnswered hg s)

theorem Effect.keeps_trips (h : Effect s u) (hset : SetLaw s) (hs : TripLaw s) : TripLaw u := by
  cases h with
  | powerOn | controllerReset =>
    refine ⟨nofun, fun _ m => ?_⟩
    have hm : (State.reset.group m).state = .unbound := by rw [reset_group]
    exact hm
  | started _ h => exact ⟨fun _ m => (if_pos (hs.2 h m)).mpr trivial, nofun⟩
  | groupTail g n => exact tripLaw_modGroup (f := fun x => { x with ring := { x.ring with tail := n } }) hs rfl
  | fetch g =>
    have h : TripLaw (s.modGroup g Group.beginFetch) := tripLaw_modGroup hs rfl
    exact tripLaw_of_groups h (.inl rfl) rfl rfl
  | readOk g slot valid => exact tripLaw_readAnswered hs g (settlesFetch_fetched slot valid)
  | readError g => exact tripLaw_readAnswered hs g settlesFetch_fetchFailed
  | tick g => exact tripLaw_of_fixed hs (by simp) ((goes_markTick s g).trans (goes_stepTick _ g))
  | boundary g _ _ hb => exact tripLaw_of_fixed hs (by simp) (goes_periodBoundary hb)
  | resume g _ _ hr =>
    exact tripLaw_of_fixed hs (by simp) ((goes_markTick s g).trans (goes_resume (s := s.markTick g) hr))
  | fire g _ h => exact tripLaw_of_fixed hs (by simp) (goes_fireSet (Nat.le_refl 1) h fun _ => hset)
  | converterTick v => exact tripLaw_of_fixed hs (by simp) (goes_convTick s v)
  | conversionEnd => exact tripLaw_of_fixed hs (by simp) (goes_conversionEnd s)
  | issueWord =>
    unfold State.issueWord
    split
    · exact hs
    · split
      · exact hs
      · next j _ _ e _ =>
        have h : TripLaw (s.modGroup j.ref.group fun x => x.modSlot j.ref.slot fun e => { e with nextPos := e.nextPos + 1 }) :=
          tripLaw_modGroup hs rfl
        exact tripLaw_of_groups h (.inl rfl) rfl rfl
  | countWord => exact tripLaw_resultAnswered hs (fun w s => s.fixed_countWord w) fun w s => goes_countWord s w
  | faultWord => exact tripLaw_resultAnswered hs (fun w s => s.fixed_faultWord w) fun w s => goes_faultWord s w
  | leave g => exact tripLaw_modGroup hs (Group.leave_state g _)
  | notice g => exact tripLaw_modGroup (f := Group.queueNotice g) hs rfl
  | issueEntry v =>
    cases v with
    | group g =>
      have h : TripLaw (s.modGroup g fun x => { x with queue := x.queue.tail }) := tripLaw_modGroup hs rfl
      exact tripLaw_of_groups h (.inl rfl) rfl rfl
    | admin => exact tripLaw_of_groups hs (.inl rfl) rfl rfl
  | sample pins => exact tripLaw_sampled hs pins rfl rfl rfl
  | judge => exact tripLaw_judgeSample hs _ _
  | command _ _ _ _ _ ha hu =>
    have hserved := hu.keeps_trips (tripLaw_of_groups hs (.inl rfl) rfl rfl) ha.running
    exact tripLaw_of_groups hserved (.inl rfl) rfl rfl
  | commandError | entryError => exact tripLaw_of_groups hs (.inr rfl) rfl rfl
  | window | ringcfg | adminTail | release | expiry | commandRead | entryOk => exact tripLaw_of_groups hs (.inl rfl) rfl rfl

theorem tripLaw_passClock (hs : TripLaw s) : TripLaw s.passClock := by
  refine tripLaw_of_states hs (.inl rfl) (tripCondition_of_lines rfl) fun m => ?_
  rw [State.passClock_group]
  unfold Group.passClock
  cases s.ctrl <;> exact ⟨Iff.rfl, Iff.rfl⟩

/-- Settles O16: with the set law, for a set fires ARMED groups. -/
theorem everyStepKeepsTrippedGroupsMatchingTheirCondition : Obligations.EveryStepKeepsTrippedGroupsMatchingTheirCondition := by
  unfold Obligations.EveryStepKeepsTrippedGroupsMatchingTheirCondition
  intro s t hset hs h
  exact step_reaches (fun s => SetLaw s ∧ TripLaw s) TripLaw (fun _ _ h => h) (fun _ h => h.2) (fun _ _ h => h.2)
    (fun _ _ h => h.2) (fun _ _ h hu => tripLaw_of_groups (hu.keeps_trips h.1 h.2) (.inl rfl) rfl rfl)
    (fun _ h => tripLaw_passClock h.2) ⟨hset, hs⟩ h

end Trips

end Sys2Proof.Machine
end

section
/-! PROOF. A record that becomes ACTIVE: its triggers look at the groups and the capture path alone, and the pairs of
its group settle under the waveform. Then the resume of a STARVED group (R35). -/

namespace Sys2Proof.Machine

/-! ## The capture path of a state -/

/-- The groups and the capture path of `s`, over the rest of `r`. -/
def State.pathOver (s r : State) : State :=
  { r with
    groups := s.groups, captureQueue := s.captureQueue, converter := s.converter, writer := s.writer
    marks := { r.marks with conv := s.marks.conv } }

section PathOver

variable {s r : State}

theorem State.pathOver_self (s : State) : s.pathOver s = s := rfl

theorem State.pathOver_pathOver (s r v : State) : (s.pathOver r).pathOver v = s.pathOver v := rfl

theorem State.pathOver_isRunning (h : r.ctrl = s.ctrl) : (s.pathOver r).isRunning = s.isRunning := by
  show (r.ctrl == .running) = (s.ctrl == .running)
  rw [h]

theorem State.pathOver_converterTake (h : r.ctrl = s.ctrl) :
    (s.pathOver r).converterTake = s.converterTake.pathOver r := by
  by_cases hc : s.isRunning = true ∧ s.converter.state = .idle
  · have hc' : (s.pathOver r).isRunning = true := (State.pathOver_isRunning h).trans hc.1
    cases hq : s.captureQueue with
    | nil => rw [State.converterTake_of_empty hq, State.converterTake_of_empty (s := s.pathOver r) hq]
    | cons a rest =>
      rw [State.converterTake_of_cons hc.1 hc.2 hq, State.converterTake_of_cons (s := s.pathOver r) hc' hc.2 hq]
      rfl
  · have hc' : ¬((s.pathOver r).isRunning = true ∧ (s.pathOver r).converter.state = .idle) := by
      rw [State.pathOver_isRunning h]
      exact hc
    rw [State.converterTake_of_not hc, State.converterTake_of_not hc']

theorem State.pathOver_offerRequest (h : r.ctrl = s.ctrl) (q : Request) :
    (s.pathOver r).offerRequest q = (s.offerRequest q).pathOver r := by
  unfold State.offerRequest
  by_cases hroom : s.captureQueue.length < 16
  · rw [if_pos (by exact hroom), if_pos hroom]
    exact State.pathOver_converterTake (s := { s with captureQueue := s.captureQueue ++ [q] }) h
  · rw [if_neg (by exact hroom), if_neg hroom]
    rfl

theorem State.pathOver_triggerPoint (h : r.ctrl = s.ctrl) (g : GroupId) (j : Nat) :
    (s.pathOver r).triggerPoint g j = (s.triggerPoint g j).pathOver r := by
  cases he : (s.group g).active? with
  | none =>
    have hno : ∀ e', (s.group g).active? = some e' → (s.group g).pointTriggers e'.copy j = false := by
      intro e' h
      cases he.symm.trans h
    rw [State.triggerPoint_of_not hno, State.triggerPoint_of_not (s := s.pathOver r) hno]
  | some e =>
    have he' : ((s.pathOver r).group g).active? = some e := he
    by_cases hp : (s.group g).pointTriggers e.copy j = true
    · by_cases hc : Seg.capacity e.copy ≤ e.periodsRun * Seg.pointCount e.copy + j
      · rw [State.triggerPoint_of_full he hp hc, State.triggerPoint_of_full he' hp hc]; rfl
      · rw [State.triggerPoint_of_room he hp (Nat.not_le.1 hc), State.triggerPoint_of_room he' hp (Nat.not_le.1 hc)]
        exact State.pathOver_offerRequest (s := s.modEntry ⟨g, e.slot⟩ fun f => { f with triggered := f.triggered + 1 }) h _
    · have hno : ∀ e', (s.group g).active? = some e' → (s.group g).pointTriggers e'.copy j = false := by
        intro e' h
        obtain rfl : e = e' := Option.some.inj (he.symm.trans h)
        exact Bool.eq_false_of_not_eq_true hp
      rw [State.triggerPoint_of_not hno, State.triggerPoint_of_not (s := s.pathOver r) hno]

/-- The triggers of a tick look at the groups and the capture path alone. -/
theorem State.pathOver_triggers (h : r.ctrl = s.ctrl) (g : GroupId) :
    (s.pathOver r).triggers g = (s.triggers g).pathOver r := by
  have hctrl : ∀ j, r.ctrl = (s.triggerPoint g j).ctrl := fun j => h.trans (State.ctrl_of_fixed (s.fixed_triggerPoint g j)).symm
  have hctrl' : ∀ (u : State) (j : Nat), r.ctrl = u.ctrl → r.ctrl = (u.triggerPoint g j).ctrl := fun u j hu =>
    hu.trans (State.ctrl_of_fixed (u.fixed_triggerPoint g j)).symm
  rw [State.triggers_eq, State.triggers_eq, State.pathOver_triggerPoint h, State.pathOver_triggerPoint (hctrl 0),
    State.pathOver_triggerPoint (hctrl' _ 1 (hctrl 0)), State.pathOver_triggerPoint (hctrl' _ 2 (hctrl' _ 1 (hctrl 0)))]

end PathOver

/-! ## Pairs under the waveform -/

section Pairs

variable {s u : State} {g : GroupId}

/-- A pair settles as before where its own group goes on as before. -/
theorem settledPair_of_other (hf : u.fixed = s.fixed) {v : PairUnit}
    (h : ∀ m, v.group = some m → (u.group m).producing = (s.group m).producing) : u.settledPair v = s.settledPair v := by
  have hctrl : u.ctrl = s.ctrl := congrArg Fixed.ctrl hf
  have hcond := tripCondition_of_lines (s := s) (t := u) (congrArg Fixed.lines hf)
  have hsel : u.selection v = s.selection v := by
    cases hv : v.group with
    | none => rw [State.selection_of_unbound hv, State.selection_of_unbound hv]
    | some m => simp [State.selection, hv, hctrl, hcond, h m hv]
  rw [State.settledPair_eq, State.settledPair_eq, hsel, hctrl]

/-- The pairs of a producing group, each changed by `f`, show their waveform, and no other pair moves (R58). -/
theorem pairsOfGroup_of_outputs (hs : Settled s) (hf : u.fixed = s.fixed) (hrun : s.ctrl = .running)
    (hothers : ∀ m, m ≠ g → (u.group m).producing = (s.group m).producing) (hprod : (u.group g).producing = true)
    {f : PairId → PairUnit} (hgroup : ∀ p, (f p).group = (s.pair p).group)
    (hpair : ∀ p, u.pair p = if (s.pair p).group = some g then f p else s.pair p) {does : PairId → Prop}
    (hdoes : ∀ p, u.settle.pair p = { f p with pins := waveformPins (f p) } → does p) : PairsOfGroup s u.settle g does := by
  intro htrip p
  have hcond := tripCondition_of_lines (s := s) (t := u) (congrArg Fixed.lines hf) g
  have hctrl : u.ctrl = s.ctrl := congrArg Fixed.ctrl hf
  refine ⟨fun hg => ?_, fun hg => hdoes p ?_⟩
  · rw [State.settle_pair, hpair, if_neg (by exact hg), settledPair_of_other hf fun m hm => hothers m fun h => ?_]
    · exact ((settled_iff s).1 hs).2.1 p
    · subst h; exact hg hm
  · rw [State.settle_pair, hpair, if_pos (by exact hg)]
    refine State.settledPair_of_waveform (State.selection_of_producing ((hgroup p).trans hg) ?_ (hcond.trans htrip) hprod)
    rw [hctrl, hrun]
    nofun

/-- The first tick of the waveform, as the pairs of a state that begins a record show it (R55). -/
theorem pairsOfGroup_of_enter {v : State} {e : Entry} (hs : Settled s) (hf : u.fixed = s.fixed) (hrun : s.ctrl = .running)
    (hothers : ∀ m, m ≠ g → (u.group m).producing = (s.group m).producing) (hprod : (u.group g).producing = true)
    (hv : v.pairs = s.pairs) (hu : u.pairs = (v.enterOutputs g).pairs) (ha : (v.group g).active? = some e)
    (hcounter : (v.group g).counter = 0) : PairsOfGroup s u.settle g (EntersTheWaveform s u.settle g e.copy) := by
  refine pairsOfGroup_of_outputs hs hf hrun hothers hprod
    (f := fun p => (s.pair p).enter (decide (0 < Seg.duty e.copy (s.rank g p)))) (fun p => PairUnit.enter_group _ _) (fun p => ?_)
    fun p hp => entersTheWaveform_of_enter rfl hp
  rw [State.pair_of_pairs hu, State.enterOutputs_pair, State.rawCompare_of_active ha, hcounter, State.rank_of_pairs hv,
    State.pair_of_pairs hv]

end Pairs

/-! ## A record that becomes ACTIVE -/

section Begin

variable {s : State} {g : GroupId}

/-- A record that has become ACTIVE under its token flag. -/
def Entry.begun (saturated : Bool) (n : Entry) : Entry :=
  { n with st := .active, flags := { n.flags with tokenSaturated := saturated } }

/-- The group in which the record `n` becomes ACTIVE (R30, R50). -/
def Group.begun (n : Entry) (saturated : Bool) (x : Group) : Group :=
  { x with
    state := .running, counter := 0, slope := .up
    window := x.window.map fun f => if f.slot = n.slot then n.begun saturated else f }

theorem Group.beginRecord_eq {x : Group} {n : Entry} (hd : x.SlotsDistinct) (hn : n ∈ x.window) (sat : Bool) :
    x.beginRecord n.slot sat = x.begun n (n.flags.tokenSaturated || sat) := by
  have hwindow : (x.modSlot n.slot (Entry.activate sat)).window =
      x.window.map fun f => if f.slot = n.slot then n.begun (n.flags.tokenSaturated || sat) else f := by
    refine List.map_congr_left fun f hf => ?_
    by_cases hslot : f.slot = n.slot
    · rw [if_pos (by simpa using hslot), if_pos hslot, hd.eq hf hn hslot]
      rfl
    · rw [if_neg (by simpa using hslot), if_neg hslot]
  exact congrArg (fun w => { x with state := .running, counter := 0, slope := .up, window := w }) hwindow

/-- In a window without an ACTIVE record the one that begins is found. -/
theorem Group.begun_active? {x : Group} {n : Entry} (hn : n ∈ x.window) (h0 : x.activeCount = 0) (sat : Bool) :
    (x.begun n sat).active? = some (n.begun sat) := by
  have hno : ∀ e ∈ x.window, e.st ≠ .active := Group.activeCount_eq_zero_iff.1 h0
  unfold Group.begun Group.active?
  dsimp only
  generalize x.window = w at hn hno
  induction w with
  | nil => cases hn
  | cons e w ih =>
    rw [List.map_cons, List.find?_cons]
    by_cases he : e.slot = n.slot
    · rw [if_pos he]
      rfl
    · rw [if_neg he]
      have hst : (e.st == EntryState.active) = false := by simpa using hno e (List.mem_cons_self ..)
      rw [hst]
      refine ih ?_ fun f hf => hno f (List.mem_cons_of_mem _ hf)
      rcases List.mem_cons.1 hn with rfl | hn
      · exact absurd rfl he
      · exact hn

/-! ## The resume -/

/-- A group in which a record becomes ACTIVE produces. -/
theorem Group.producing_of_active? {x : Group} {e : Entry} (h : x.active? = some e) (hst : x.state = .running ∨ x.state = .stopping) :
    x.producing = true := (Group.producing_iff x).2 ⟨Group.hasActive_of_active? h, hst⟩

/-- The triggers of a record leave it, but for its counts. -/
theorem active_of_triggers {u : State} {n : Entry} (ha : (u.group g).active? = some n) :
    ∃ f, ((u.triggers g).group g).active? = some f ∧ f.slot = n.slot ∧ f.copy = n.copy ∧ f.status = n.status
      ∧ f.periodsRun = n.periodsRun ∧ f.extensionPeriods = n.extensionPeriods
      ∧ f.flags.tokenSaturated = n.flags.tokenSaturated ∧ f.flags.extended = n.flags.extended := by
  obtain ⟨f, hf, hfe⟩ := (triggers_countsAt ha).active ha
  have same : ∀ {γ : Type} (k : Entry → γ), k f.uncounted = k n.uncounted := fun k => congrArg k hfe
  exact ⟨f, hf, same Entry.slot, same Entry.copy, same Entry.status, same Entry.periodsRun, same Entry.extensionPeriods,
    same fun e => e.flags.tokenSaturated, same fun e => e.flags.extended⟩

theorem exec_starvedResume (hd : s.tickDue g = true) (hst : (s.group g).state = .starved) {n : Entry}
    (hn : (s.group g).next? = some n) (hr : n.st = .ready) :
    exec (.starvedResume g) s = .next ((s.markTick g).resume g).settle := by
  have hres : (s.group g).atResume = true := by simp [Group.atResume, Group.nextReady, hst, hn, hr]
  show happen (s.tickDue g && (s.group g).atResume) s _ = _
  rw [hd, hres]
  rfl

/-- A granted resume request, its triggers over the rest of the state (R35). -/
theorem resume_eq {n : Entry} {tokens : Vector Nat 16} {sats : List Bool} (hn : (s.group g).next? = some n)
    (hd : (s.group g).SlotsDistinct) (hrun : runParts s.tokens (claimParts n.copy ++ startParts n.copy) = some (tokens, sats)) :
    (s.markTick g).resume g =
      ((s.setGroup g ((s.group g).begun n (n.flags.tokenSaturated || (sats.drop (claimParts n.copy).length).any id))).triggers g).pathOver
        ({ (s.setGroup g ((s.group g).begun n (n.flags.tokenSaturated || (sats.drop (claimParts n.copy).length).any id))).enterOutputs g with
          tokens := tokens, marks := { s.marks with group := s.marks.group.set g true } } : State) := by
  rw [← State.pathOver_triggers (by rfl)]
  unfold State.resume
  have hn' : ((s.markTick g).group g).next? = some n := hn
  have hrun' : runParts (s.markTick g).tokens (claimParts n.copy ++ startParts n.copy) = some (tokens, sats) := hrun
  rw [hn']
  dsimp only
  rw [hrun']
  dsimp only
  rw [← Group.beginRecord_eq hd (Group.next?_mem hn)]
  rfl

/-- Settles O41: the record begins, its points trigger, and its pairs enter the waveform. -/
theorem starvedGroupResumes : Obligations.StarvedGroupResumes := by
  unfold Obligations.StarvedGroupResumes
  intro s g n hs hring hactive hd hst hn hr x
  have hexec := exec_starvedResume hd hst hn hr
  refine ⟨fun hrefused => ?_, fun tokens sats hgranted => ?_⟩
  · have hsame : (s.markTick g).resume g = s.markTick g := by
      have hn' : ((s.markTick g).group g).next? = some n := hn
      have hrun : runParts (s.markTick g).tokens (claimParts n.copy ++ startParts n.copy) = none := hrefused
      unfold State.resume
      rw [hn']
      dsimp only
      rw [hrun]
    rw [hsame] at hexec
    refine ⟨_, hexec, rfl, frame_of_fixed (u := s.markTick g) hs rfl _ (fun _ _ => rfl) (fun _ => ?_) (fun _ => rfl) (fun _ => rfl)
      (fun _ => rfl) (fun _ => ⟨rfl, rfl⟩) (fun _ => ⟨rfl, rfl, rfl, rfl, rfl⟩) (fun _ => ⟨rfl, fun _ => rfl⟩)
      (fun h => absurd (List.mem_singleton_self _) h)⟩
    exact settle_pairs_of_same hs ⟨rfl, rfl, fun _ => rfl⟩ rfl
  · intro saturated u
    rw [resume_eq hn (hring g).slotsDistinct hgranted] at hexec
    have hu : u = (s.setGroup g (x.begun n saturated)).triggers g := rfl
    have hactive0 : (s.group g).activeCount = 0 := by
      obtain ⟨-, -, hzero, -⟩ := hactive g
      exact hzero (by rw [hst]; nofun) (by rw [hst]; nofun)
    have hbegun : ((s.setGroup g (x.begun n saturated)).group g) = x.begun n saturated := State.group_setGroup_same ..
    have hfound : ((s.setGroup g (x.begun n saturated)).group g).active? = some (n.begun saturated) := by
      rw [hbegun]
      exact Group.begun_active? (Group.next?_mem hn) hactive0 saturated
    have hcounts := triggers_countsAt hfound
    obtain ⟨f, hf, hslot, hcopy, -, hperiods, hextensions, hsat, -⟩ := active_of_triggers hfound
    rw [← hu] at hcounts hf
    have hprod : (u.group g).producing = true := (hcounts.producing g).trans (Group.producing_of_active? hfound (.inl (by rw [hbegun]; rfl)))
    have hothers : ∀ m, m ≠ g → u.group m = s.group m := fun m hm => (hcounts.others m hm).trans (State.group_setGroup_ne s _ hm)
    have hqueue : ∀ m, (u.group m).queue = (s.group m).queue := fun m => by
      by_cases hm : m = g
      · rw [hm, hcounts.group, hbegun]; rfl
      · rw [hothers m hm]
    have hwriter : u.writer = s.writer := by rw [hu, State.writer_triggers]; rfl
    have hexec : exec (.starvedResume g) s = .next (u.pathOver ({ (s.setGroup g (x.begun n saturated)).enterOutputs g with
        tokens := tokens, marks := { s.marks with group := s.marks.group.set g true } } : State)).settle := hexec
    clear_value u
    refine ⟨_, hexec, rfl, rfl, rfl, rfl, rfl, rfl, ⟨f, hf, hslot, hcopy, hperiods, hextensions, hsat⟩, ?_, ?_⟩
    · exact pairsOfGroup_of_enter (v := s.setGroup g (x.begun n saturated)) (e := n.begun saturated) hs (by exact rfl)
        (State.tickDue_running hd) (fun m hm => congrArg Group.producing (hothers m hm)) hprod rfl rfl hfound (by rw [hbegun]; rfl)
    · refine frame_of_fixed hs (by exact rfl) _ (fun m hm => hothers m fun h => ?_) (fun h => absurd h (by simp))
        (fun h => absurd h (by simp)) (fun _ => rfl) (fun h => absurd h (by simp)) (fun h => absurd h (by simp))
        (fun _ => Block.same_resultWriter_of_writer hwriter) (fun _ => ⟨settledWriter_of_writer (by exact rfl) hwriter, hqueue⟩)
        (fun h => absurd h (by simp))
      exact hm (by simp [h])

end Begin

end Sys2Proof.Machine
end

section
/-! PROOF. The firing of a start set (R75 to R77): its members begin one after the other, each from the state it had
before, and their points trigger. -/

namespace Sys2Proof.Machine

/-! ## Triggers of one group beside another -/

section Commute

variable {s : State} {k m : GroupId}

theorem State.setGroup_comm (h : k ≠ m) (x y : Group) :
    (s.setGroup k x).setGroup m y = (s.setGroup m y).setGroup k x := by
  unfold State.setGroup
  have hne : k.val ≠ m.val := fun he => h (Fin.ext he)
  congr 1
  exact Vector.set_comm _ _ hne

theorem State.setGroup_modGroup (h : k ≠ m) (x : Group) (f : Group → Group) :
    (s.setGroup k x).modGroup m f = (s.modGroup m f).setGroup k x := by
  unfold State.modGroup
  rw [State.group_setGroup_ne s x h.symm, State.setGroup_comm h]

theorem State.setGroup_converterTake (k : GroupId) (x : Group) :
    (s.setGroup k x).converterTake = s.converterTake.setGroup k x := by
  by_cases hc : s.isRunning = true ∧ s.converter.state = .idle
  · cases hq : s.captureQueue with
    | nil => rw [State.converterTake_of_empty hq, State.converterTake_of_empty (s := s.setGroup k x) hq]
    | cons a rest =>
      rw [State.converterTake_of_cons hc.1 hc.2 hq, State.converterTake_of_cons (s := s.setGroup k x) hc.1 hc.2 hq]
      rfl
  · rw [State.converterTake_of_not hc, State.converterTake_of_not (s := s.setGroup k x) hc]

theorem State.setGroup_offerRequest (x : Group) {q : Request} (h : k ≠ q.group) :
    (s.setGroup k x).offerRequest q = (s.offerRequest q).setGroup k x := by
  unfold State.offerRequest
  by_cases hroom : s.captureQueue.length < 16
  · rw [if_pos (by exact hroom), if_pos hroom]
    exact State.setGroup_converterTake (s := { s with captureQueue := s.captureQueue ++ [q] }) k x
  · rw [if_neg (by exact hroom), if_neg hroom]
    exact State.setGroup_modGroup h x _

theorem State.setGroup_triggerPoint (h : k ≠ m) (x : Group) (j : Nat) :
    (s.setGroup k x).triggerPoint m j = (s.triggerPoint m j).setGroup k x := by
  have hgroup : (s.setGroup k x).group m = s.group m := State.group_setGroup_ne s x h.symm
  cases he : (s.group m).active? with
  | none =>
    have hno : ∀ e', (s.group m).active? = some e' → (s.group m).pointTriggers e'.copy j = false := by
      intro e' h
      cases he.symm.trans h
    rw [State.triggerPoint_of_not hno, State.triggerPoint_of_not (s := s.setGroup k x) (by rw [hgroup]; exact hno)]
  | some e =>
    have he' : ((s.setGroup k x).group m).active? = some e := by rw [hgroup]; exact he
    by_cases hp : (s.group m).pointTriggers e.copy j = true
    · have hp' : ((s.setGroup k x).group m).pointTriggers e.copy j = true := by rw [hgroup]; exact hp
      by_cases hc : Seg.capacity e.copy ≤ e.periodsRun * Seg.pointCount e.copy + j
      · rw [State.triggerPoint_of_full he hp hc, State.triggerPoint_of_full he' hp' hc]
        exact State.setGroup_modGroup h x _
      · rw [State.triggerPoint_of_room he hp (Nat.not_le.1 hc), State.triggerPoint_of_room he' hp' (Nat.not_le.1 hc),
          ← State.setGroup_offerRequest x (by exact h)]
        congr 1
        exact State.setGroup_modGroup h x _
    · have hno : ∀ e', (s.group m).active? = some e' → (s.group m).pointTriggers e'.copy j = false := by
        intro e' h
        obtain rfl : e = e' := Option.some.inj (he.symm.trans h)
        exact Bool.eq_false_of_not_eq_true hp
      rw [State.triggerPoint_of_not hno, State.triggerPoint_of_not (s := s.setGroup k x) (by rw [hgroup]; exact hno)]

/-- The triggers of a group look at no other group. -/
theorem State.setGroup_triggers (h : k ≠ m) (x : Group) : (s.setGroup k x).triggers m = (s.triggers m).setGroup k x := by
  simp only [State.triggers_eq, State.setGroup_triggerPoint h]

end Commute

/-! ## Groups that begin one after the other -/

/-- A group is set to `B m`, and its points trigger. -/
def State.beginning (B : GroupId → Group) (s : State) (m : GroupId) : State := (s.setGroup m (B m)).triggers m

section Beginnings

variable {B : GroupId → Group}

theorem State.beginning_fixed (s : State) (m : GroupId) : (s.beginning B m).fixed = s.fixed :=
  (State.fixed_triggers _ m).trans (State.fixed_setGroup s m (B m))

theorem State.beginning_ctrl (s : State) (m : GroupId) : (s.beginning B m).ctrl = s.ctrl :=
  State.ctrl_of_fixed (s.beginning_fixed m)

theorem triggers_foldl_setGroup {l : List GroupId} {m : GroupId} (h : m ∉ l) :
    ∀ s : State, (l.foldl (fun v k => v.setGroup k (B k)) s).triggers m =
      l.foldl (fun v k => v.setGroup k (B k)) (s.triggers m) := by
  induction l with
  | nil => intro s; simp only [List.foldl_nil]
  | cons k l ih =>
    intro s
    rw [List.mem_cons, not_or] at h
    rw [List.foldl_cons, List.foldl_cons, ih h.2, State.setGroup_triggers (Ne.symm h.1)]

/-- All the groups may be set first. -/
theorem beginnings_eq {l : List GroupId} (hl : l.Nodup) :
    ∀ s : State, l.foldl (State.beginning B) s =
      l.foldl (fun v m => v.triggers m) (l.foldl (fun v m => v.setGroup m (B m)) s) := by
  induction l with
  | nil => intro s; simp only [List.foldl_nil]
  | cons m l ih =>
    intro s
    obtain ⟨hm, hl⟩ := List.nodup_cons.1 hl
    rw [List.foldl_cons, ih hl, List.foldl_cons, List.foldl_cons, triggers_foldl_setGroup hm]
    rfl

theorem beginnings_pathOver {r : State} (l : List GroupId) :
    ∀ {s : State}, r.ctrl = s.ctrl → l.foldl (State.beginning B) (s.pathOver r) = (l.foldl (State.beginning B) s).pathOver r := by
  induction l with
  | nil => intro s _; simp only [List.foldl_nil]
  | cons m l ih =>
    intro s h
    have hstep : (s.pathOver r).beginning B m = (s.beginning B m).pathOver r :=
      State.pathOver_triggers (s := s.setGroup m (B m)) h m
    rw [List.foldl_cons, List.foldl_cons, hstep, ih (h.trans (s.beginning_ctrl m).symm)]

/-- A group that does not begin stays; one that does is as it began, but for the counts of its triggers. -/
theorem beginnings_group {l : List GroupId} (hl : l.Nodup) {E : GroupId → Entry} (hE : ∀ m ∈ l, (B m).active? = some (E m)) :
    ∀ s : State, (∀ m, m ∉ l → (l.foldl (State.beginning B) s).group m = s.group m)
      ∧ ∀ m ∈ l, (l.foldl (State.beginning B) s).group m =
          { B m with window := ((l.foldl (State.beginning B) s).group m).window }
        ∧ List.Forall₂ (Entry.CountedAt (E m).slot) (B m).window ((l.foldl (State.beginning B) s).group m).window := by
  induction l with
  | nil => exact fun _ => ⟨fun _ _ => rfl, nofun⟩
  | cons k l ih =>
    intro s
    obtain ⟨hk, hl⟩ := List.nodup_cons.1 hl
    obtain ⟨hout, hin⟩ := ih hl (fun m hm => hE m (List.mem_cons_of_mem _ hm)) (s.beginning B k)
    have hset : (s.setGroup k (B k)).group k = B k := State.group_setGroup_same ..
    have hcounts : CountsAt k (E k).slot (s.setGroup k (B k)) (s.beginning B k) :=
      triggers_countsAt (by rw [hset]; exact hE k (List.mem_cons_self ..))
    refine ⟨fun m hm => ?_, fun m hm => ?_⟩
    · rw [List.mem_cons, not_or] at hm
      exact (hout m hm.2).trans ((hcounts.others m hm.1).trans (State.group_setGroup_ne s _ hm.1))
    · rcases List.mem_cons.1 hm with rfl | hm
      · rw [List.foldl_cons, hout m hk]
        have hgroup := hcounts.group
        have hwindow := hcounts.window
        rw [hset] at hgroup hwindow
        exact ⟨hgroup, hwindow⟩
      · exact hin m hm

end Beginnings

/-! ## The firing of the members -/

/-- A group begins, its tick is taken, and its pairs enter the waveform (R77). -/
def State.firing (B : GroupId → Group) (s : State) (m : GroupId) : State :=
  (((s.setGroup m (B m)).markTick m).enterOutputs m).triggers m

section Firing

variable {B : GroupId → Group}

theorem State.firing_eq (s : State) (m : GroupId) :
    s.firing B m = (s.beginning B m).pathOver (((s.setGroup m (B m)).markTick m).enterOutputs m) := by
  have hover : ((s.setGroup m (B m)).markTick m).enterOutputs m =
      (s.setGroup m (B m)).pathOver (((s.setGroup m (B m)).markTick m).enterOutputs m) := rfl
  have hctrl : (((s.setGroup m (B m)).markTick m).enterOutputs m).ctrl = (s.setGroup m (B m)).ctrl := rfl
  unfold State.firing State.beginning
  generalize ((s.setGroup m (B m)).markTick m).enterOutputs m = r at hover hctrl
  rw [← State.pathOver_triggers hctrl, ← hover]

/-- Ahead of the rest, the firing of the members is their beginning. -/
theorem firings_eq (l : List GroupId) :
    ∀ s : State, l.foldl (State.firing B) s = (l.foldl (State.beginning B) s).pathOver (l.foldl (State.firing B) s) := by
  induction l with
  | nil => intro s; exact (State.pathOver_self s).symm
  | cons m l ih =>
    intro s
    have hpath := ih (s.firing B m)
    have hbegin : l.foldl (State.beginning B) (s.firing B m) =
        (l.foldl (State.beginning B) (s.beginning B m)).pathOver (((s.setGroup m (B m)).markTick m).enterOutputs m) := by
      rw [State.firing_eq]
      exact beginnings_pathOver l (s.beginning_ctrl m).symm
    rw [hbegin, State.pathOver_pathOver] at hpath
    rw [List.foldl_cons, List.foldl_cons]
    exact hpath

theorem State.firing_ticks (s : State) (m : GroupId) : (s.firing B m).marks.group = s.marks.group.set m true := by
  rw [State.firing_eq]
  generalize s.beginning B m = u
  rfl

theorem firings_ticks (l : List GroupId) :
    ∀ (s : State) (m : GroupId), (l.foldl (State.firing B) s).marks.group.get m = (s.marks.group.get m || decide (m ∈ l)) := by
  induction l with
  | nil => exact fun _ _ => by simp
  | cons k l ih =>
    intro s m
    rw [List.foldl_cons, ih, State.firing_ticks]
    simp only [vector_get, Vector.getElem_set, List.mem_cons]
    by_cases hm : m = k
    · subst hm; simp
    · have hne : ¬k.val = m.val := fun h => hm (Fin.ext h).symm
      simp [hm, hne]

theorem State.firing_pair {e : Entry} (s : State) {m : GroupId} (ha : (B m).active? = some e) (h0 : (B m).counter = 0) (p : PairId) :
    (s.firing B m).pair p =
      if (s.pair p).group = some m then (s.pair p).enter (decide (0 < Seg.duty e.copy (s.rank m p))) else s.pair p := by
  have hset : (((s.setGroup m (B m)).markTick m).group m) = B m := State.group_setGroup_same ..
  have hpair : (s.firing B m).pair p = (((s.setGroup m (B m)).markTick m).enterOutputs m).pair p := by
    rw [State.firing_eq]
    generalize s.beginning B m = u
    rfl
  rw [hpair, State.enterOutputs_pair, State.rawCompare_of_active (by rw [hset]; exact ha), hset, h0]
  rfl

theorem State.rank_of_pairGroups {u v : State} (h : ∀ p, (u.pair p).group = (v.pair p).group) (g : GroupId) (p : PairId) :
    u.rank g p = v.rank g p := by
  simp [State.rank, State.boundPairs, h]

/-- Each pair of a member enters the waveform once, and no other pair moves. -/
theorem firings_pair {l : List GroupId} (hl : l.Nodup) {E : GroupId → Entry} (hE : ∀ m ∈ l, (B m).active? = some (E m))
    (h0 : ∀ m ∈ l, (B m).counter = 0) (p : PairId) :
    ∀ s : State, (∀ m ∈ l, (s.pair p).group = some m →
        (l.foldl (State.firing B) s).pair p = (s.pair p).enter (decide (0 < Seg.duty (E m).copy (s.rank m p))))
      ∧ ((∀ m ∈ l, (s.pair p).group ≠ some m) → (l.foldl (State.firing B) s).pair p = s.pair p) := by
  induction l with
  | nil => exact fun _ => ⟨nofun, fun _ => rfl⟩
  | cons k l ih =>
    intro s
    obtain ⟨hk, hl⟩ := List.nodup_cons.1 hl
    have hstep := fun q => State.firing_pair s (hE k (List.mem_cons_self ..)) (h0 k (List.mem_cons_self ..)) q
    have hgroups : ∀ q, ((s.firing B k).pair q).group = (s.pair q).group := fun q => by
      rw [hstep]
      split
      · exact PairUnit.enter_group _ _
      · rfl
    obtain ⟨hin, hout⟩ := ih hl (fun m hm => hE m (List.mem_cons_of_mem _ hm)) (fun m hm => h0 m (List.mem_cons_of_mem _ hm))
      (s.firing B k)
    rw [hgroups] at hin hout
    refine ⟨fun m hm hg => ?_, fun hno => ?_⟩
    · rcases List.mem_cons.1 hm with rfl | hm
      · have hsame := hout fun m' hm' hg' => hk (by rw [Option.some.inj (hg.symm.trans hg')]; exact hm')
        rw [List.foldl_cons, hsame, hstep, if_pos hg]
      · have hne : (s.pair p).group ≠ some k := fun hg' => hk (by rw [← Option.some.inj (hg.symm.trans hg')]; exact hm)
        rw [List.foldl_cons, hin m hm hg, hstep, if_neg hne, State.rank_of_pairGroups hgroups]
    · rw [List.foldl_cons, hout fun m hm => hno m (List.mem_cons_of_mem _ hm), hstep, if_neg (hno k (List.mem_cons_self ..))]

/-- The members fire from the state that each of them had before. -/
theorem fireMembers_eq (posters : List (GroupId × Bool)) {E : GroupId → Entry} {l : List GroupId} (hl : l.Nodup) :
    ∀ s : State, (∀ m ∈ l, s.first? m = some (E m) ∧ B m = (s.group m).fired (E m).slot (posters.any fun q => q.1 == m && q.2)) →
      l.foldl (State.fireMember posters) s = l.foldl (State.firing B) s := by
  induction l with
  | nil => intro s _; simp only [List.foldl_nil]
  | cons k l ih =>
    intro s h
    obtain ⟨hk, hl⟩ := List.nodup_cons.1 hl
    obtain ⟨hfirst, hB⟩ := h k (List.mem_cons_self ..)
    have hstep : State.fireMember posters s k = s.firing B k := by
      rw [State.fireMember_of_first hfirst, State.firing, hB]
      rfl
    rw [List.foldl_cons, List.foldl_cons, ← hstep]
    refine ih hl _ fun m hm => ?_
    have hkeep : (State.fireMember posters s k).group m = s.group m :=
      State.fireMember_group_ne posters s fun he => hk (he ▸ hm)
    rw [State.first?, hkeep]
    exact h m (List.mem_cons_of_mem _ hm)

end Firing

end Sys2Proof.Machine
end

section
/-! PROOF. A ready set fires all its members (R76, R77). -/

namespace Sys2Proof.Machine

/-! ## Whose post saturates -/

/-- Of ascending posters with their answers, the answer of `m` stands at the number of posters before it. -/
theorem zip_any_eq {m : GroupId} {ps : List GroupId} (hps : ps.Pairwise (· < ·)) :
    ∀ {ts : List Bool}, ts.length = ps.length → ((ps.zip ts).any fun q => q.1 == m && q.2) =
      (ps.contains m && ts.getD (ps.filter fun k => decide (k < m)).length false) := by
  induction ps with
  | nil => exact fun _ => rfl
  | cons p ps ih =>
    intro ts hlen
    obtain ⟨hp, hps⟩ := List.pairwise_cons.1 hps
    cases ts with
    | nil => cases hlen
    | cons t ts =>
      have hrest := ih hps (ts := ts) (by simpa using hlen)
      have hnone : ∀ k ∈ ps, p < k := hp
      rw [List.zip_cons_cons, List.any_cons, hrest]
      rcases lt_trichotomy p m with hlt | rfl | hgt
      · have hne : (p == m) = false := by simpa using hlt.ne
        have hne' : (m == p) = false := by simpa using hlt.ne'
        rw [List.filter_cons_of_pos (by simpa using hlt), List.contains_cons, hne, hne', List.length_cons, List.getD_cons_succ]
        simp
      · have hfilter : (ps.filter fun k => decide (k < p)) = [] :=
          List.filter_eq_nil_iff.2 fun k hk => by simpa using (hnone k hk).le
        have hout : ps.contains p = false := by
          simp only [List.contains_eq_mem, decide_eq_false_iff_not]
          exact fun h => lt_irrefl _ (hnone p h)
        rw [List.filter_cons_of_neg (by simp), hfilter, hout, List.contains_cons]
        simp
      · have hout : ps.contains m = false := by
          simp only [List.contains_eq_mem, decide_eq_false_iff_not]
          exact fun h => lt_asymm hgt (hnone m h)
        have hne : (p == m) = false := by simpa using hgt.ne'
        have hne' : (m == p) = false := by simpa using hgt.ne
        rw [hout, List.contains_cons, hne, hne', hout]
        simp

section Posters

variable {s : State} {u : StartSet}

theorem startParts_length (c : Slot64) : (startParts c).length = if Seg.postsAtStart c = true then 1 else 0 := by
  unfold startParts
  split <;> rfl

/-- The posters of a set are the members whose first record posts at its start. -/
theorem State.setPosters_eq (s : State) (u : StartSet) :
    s.setPosters u = u.groups.filter fun m => (s.group m).window.head?.any fun e => Seg.postsAtStart e.copy := by
  refine List.filter_congr fun m _ => ?_
  unfold State.firstPost State.first?
  cases (s.group m).window.head? with
  | none => rfl
  | some e =>
    have hlen := startParts_length e.copy
    cases hp : Seg.postsAtStart e.copy with
    | true =>
      rw [if_pos hp] at hlen
      cases hsp : startParts e.copy with
      | nil => rw [hsp] at hlen; cases hlen
      | cons a l => simp [hsp, hp]
    | false =>
      rw [if_neg (by simp [hp])] at hlen
      simp [List.length_eq_zero_iff.1 hlen, hp]

/-- Each poster makes one post. -/
theorem State.posts_length (s : State) (u : StartSet) : (u.groups.flatMap s.firstPost).length = (s.setPosters u).length := by
  unfold State.setPosters
  induction u.groups with
  | nil => rfl
  | cons m l ih =>
    have hone : s.firstPost m = [] ∨ (s.firstPost m).length = 1 := by
      unfold State.firstPost
      split
      · have hlen := startParts_length ‹Entry›.copy
        split at hlen
        · exact .inr hlen
        · exact .inl (List.length_eq_zero_iff.1 hlen)
      · exact .inl rfl
    rw [List.flatMap_cons, List.length_append, ih]
    rcases hone with h | h
    · rw [h, List.filter_cons_of_neg (by simp [h])]
      exact Nat.zero_add _
    · have hne : s.firstPost m ≠ [] := fun he => by rw [he] at h; cases h
      rw [List.filter_cons_of_pos (by simpa using hne), List.length_cons, h, Nat.add_comm]

theorem StartSet.groups_pairwise (u : StartSet) : u.groups.Pairwise (· < ·) :=
  List.Pairwise.filter _ (by decide)

theorem State.setPosters_pairwise (s : State) (u : StartSet) : (s.setPosters u).Pairwise (· < ·) :=
  List.Pairwise.filter _ u.groups_pairwise

/-- The answer to the post of a member (R68, R76). -/
theorem setPosts_answer {tokens : Vector Nat 16} {sats : List Bool}
    (h : runParts s.tokens (s.setRequest u) = some (tokens, sats)) (m : GroupId) :
    (((s.setPosters u).zip (sats.drop (s.setClaims u).length)).any fun q => q.1 == m && q.2) =
      ((s.setPosters u).contains m
        && sats.getD (sats.length - (s.setPosters u).length + ((s.setPosters u).filter fun k => decide (k < m)).length) false) := by
  have hlen : sats.length = (s.setClaims u).length + (s.setPosters u).length := by
    rw [(runParts_some h).1, State.setRequest, List.length_append, State.posts_length]
  rw [zip_any_eq (s.setPosters_pairwise u) (by rw [List.length_drop, hlen, Nat.add_sub_cancel_left]), hlen,
    Nat.add_sub_cancel]
  simp [List.getD_eq_getElem?_getD]

end Posters

/-! ## The firing -/

section Fire

variable {s : State} {g : GroupId} {u : StartSet}

theorem exec_startSetFire (hrun : s.ctrl = .running) (hset : s.setOf g = some u) (hasked : u.asked = false)
    (hready : ∀ m : GroupId, u.members.getLsbD m = true → ∃ e, (s.group m).window.head? = some e ∧ e.st = .ready) :
    exec (.startSetFire g) s = .next (s.fireSet g).settle := by
  have hr : s.setReady u = true := State.setReady_iff.2 fun m hm => hready m (StartSet.mem_groups.1 hm)
  have hdue : s.setDue g = true := by
    unfold State.setDue
    rw [hset]
    simp [State.isRunning, hrun, hasked, hr]
  show happen (s.setDue g) s _ = _
  rw [hdue]
  rfl

/-- A member as it begins (R28, R77). -/
theorem Group.fired_eq {x : Group} {e : Entry} (hd : x.SlotsDistinct) (he : x.window.head? = some e) (sat : Bool) :
    x.fired e.slot sat = { x with
      state := .running, presc := 0, counter := 0, slope := .up
      notices := x.notices.add .started
      window := x.window.modifyHead fun e => e.begun (e.flags.tokenSaturated || sat) } := by
  have hwindow : (x.modSlot e.slot (Entry.activate sat)).window =
      x.window.modifyHead fun e => e.begun (e.flags.tokenSaturated || sat) := by
    unfold Group.modSlot
    dsimp only
    unfold Group.SlotsDistinct at hd
    cases hw : x.window with
    | nil => rfl
    | cons a l =>
      rw [hw] at he hd
      obtain rfl : a = e := Option.some.inj he
      obtain ⟨ha, -⟩ := List.nodup_cons.1 hd
      rw [List.map_cons, List.modifyHead_cons, if_pos (beq_self_eq_true _)]
      refine congrArg₂ List.cons rfl ?_
      refine (List.map_congr_left fun f hf => if_neg fun h => ha ?_).trans (List.map_id _)
      rw [← beq_iff_eq.1 h]
      exact List.mem_map_of_mem hf
  exact congrArg (fun w => { x with
    state := .running, presc := 0, counter := 0, slope := .up, notices := x.notices.add .started, window := w }) hwindow

/-- A member's first record. -/
def State.firstEntry (s : State) (m : GroupId) : Entry := (s.first? m).getD { slot := 0, st := .fetching }

theorem State.firstEntry_of_first {m : GroupId} {e : Entry} (h : s.first? m = some e) : s.firstEntry m = e := by
  rw [State.firstEntry, h]
  rfl

theorem find_active_modifyHead {w : List Entry} {e : Entry} (h : w.head? = some e) (sat : Entry → Bool) :
    (w.modifyHead fun e => e.begun (sat e)).find? (fun e => e.st == .active) = some (e.begun (sat e)) := by
  cases w with
  | nil => cases h
  | cons a l =>
    obtain rfl := Option.some.inj h
    rfl

section Firing

variable {B : GroupId → Group}

theorem State.firing_tokens (s : State) (m : GroupId) : (s.firing B m).tokens = s.tokens := by
  unfold State.firing
  rw [State.tokens_triggers]
  rfl

theorem State.firing_sets (s : State) (m : GroupId) : (s.firing B m).sets = s.sets := by
  unfold State.firing
  rw [State.sets_triggers]
  rfl

theorem State.firing_writer (s : State) (m : GroupId) : (s.firing B m).writer = s.writer := by
  unfold State.firing
  rw [State.writer_triggers]
  rfl

theorem State.firing_fixed (s : State) (m : GroupId) : (s.firing B m).fixed = s.fixed := by
  unfold State.firing
  rw [State.fixed_triggers]
  rfl

end Firing

/-- What is left of a member once its points have triggered. -/
theorem active_of_counted {x y : Group} {slot : Nat} {n : Entry} (h : List.Forall₂ (Entry.CountedAt slot) x.window y.window)
    (ha : x.active? = some n) : ∃ f, y.active? = some f ∧ f.uncounted = n.uncounted := by
  unfold Group.active? at ha ⊢
  generalize x.window = l at h ha
  generalize y.window = k at h
  induction h with
  | nil => cases ha
  | @cons a b l k h1 _ ih =>
    rw [List.find?_cons, Entry.st_of_uncounted h1.1]
    rw [List.find?_cons] at ha
    cases hst : (a.st == EntryState.active)
    · simp only [hst] at ha; exact ih ha
    · simp only [hst, Option.some.injEq] at ha
      exact ⟨b, rfl, ha ▸ h1.1⟩

/-- Settles O42: the members fire one after the other, each as it stood before, and their pairs with them. -/
theorem readySetFiresItsMembers : Obligations.ReadySetFiresItsMembers := by
  unfold Obligations.ReadySetFiresItsMembers
  intro s g u hs hset hring hactive hrun hof hasked hready
  have hexec := exec_startSetFire hrun hof hasked hready
  unfold State.fireSet at hexec
  rw [hof] at hexec
  dsimp only at hexec
  refine ⟨fun hrefused => ?_, fun tokens sats hgranted => ?_⟩
  · rw [hrefused] at hexec
    refine ⟨_, hexec, rfl, ?_⟩
    refine frame_of_fixed hs (by exact rfl) _ (fun _ _ => rfl) (fun _ => ?_) (fun _ => rfl) (fun h => absurd (List.mem_singleton_self _) h)
      (fun _ => rfl) (fun _ => ⟨rfl, rfl⟩) (fun _ => ⟨rfl, rfl, rfl, rfl, rfl⟩) (fun _ => ⟨rfl, fun _ => rfl⟩) (fun _ => rfl)
    exact settle_pairs_of_same hs ⟨rfl, rfl, fun _ => rfl⟩ rfl
  · rw [hgranted] at hexec
    dsimp only at hexec
    intro members posters saturated begun v
    have hposters : s.setPosters u = posters := s.setPosters_eq u
    have hmem : ∀ m, m ∈ members ↔ u.members.getLsbD m = true := fun m => StartSet.mem_groups (t := u)
    have hanswer : ∀ m, (((s.setPosters u).zip (sats.drop (s.setClaims u).length)).any fun q => q.1 == m && q.2) = saturated m :=
      fun m => (setPosts_answer hgranted m).trans (by rw [hposters])
    have hfirst : ∀ m ∈ members, s.first? m = some (s.firstEntry m) := fun m hm => by
      obtain ⟨e, he, -⟩ := hready m ((hmem m).1 hm)
      have he : s.first? m = some e := he
      rw [he, State.firstEntry_of_first he]
    have hbegun : ∀ m ∈ members, begun m =
        (s.group m).fired (s.firstEntry m).slot (((s.setPosters u).zip (sats.drop (s.setClaims u).length)).any fun q => q.1 == m && q.2) :=
      fun m hm => by rw [Group.fired_eq (hring m).slotsDistinct (hfirst m hm), hanswer]; rfl
    have hfound : ∀ m ∈ members, (begun m).active? =
        some ((s.firstEntry m).begun ((s.firstEntry m).flags.tokenSaturated || saturated m)) := fun m hm =>
      find_active_modifyHead (hfirst m hm) fun e => e.flags.tokenSaturated || saturated m
    have hnodup : members.Nodup := u.groups_nodup
    generalize hX : ({ s with tokens := tokens, sets := s.sets.filter fun v => !v.members.getLsbD g } : State) = X at hexec
    have hXgroup : ∀ m, X.group m = s.group m := fun m => by rw [← hX]; rfl
    have hfire := fireMembers_eq (B := begun) (E := s.firstEntry) ((s.setPosters u).zip (sats.drop (s.setClaims u).length))
      hnodup X fun m hm => ⟨by rw [State.first?, hXgroup]; exact hfirst m hm, by rw [hXgroup]; exact hbegun m hm⟩
    have hexec : exec (.startSetFire g) s = .next (members.foldl (State.firing begun) X).settle :=
      hexec.trans (congrArg (fun t : State => Host.Outcome.next t.settle) hfire)
    have hv : v = members.foldl (State.beginning begun) s := (beginnings_eq hnodup s).symm
    have hover : X = s.pathOver X := by rw [← hX]; rfl
    have hfirings := firings_eq (B := begun) members X
    have hbeginnings : members.foldl (State.beginning begun) X = v.pathOver X := by
      rw [hover, beginnings_pathOver members (by rw [← hX]), ← hv]
      rfl
    rw [hbeginnings, State.pathOver_pathOver] at hfirings
    have htokens : (members.foldl (State.firing begun) X).tokens = X.tokens := foldl_keeps State.tokens _ State.firing_tokens _ _
    have hsets : (members.foldl (State.firing begun) X).sets = X.sets := foldl_keeps State.sets _ State.firing_sets _ _
    have hwriter : (members.foldl (State.firing begun) X).writer = X.writer := foldl_keeps State.writer _ State.firing_writer _ _
    have hfixed : (members.foldl (State.firing begun) X).fixed = X.fixed := foldl_keeps State.fixed _ State.firing_fixed _ _
    have hticks := firings_ticks (B := begun) members X
    have hpairs := fun p => firings_pair (B := begun) hnodup hfound (fun _ _ => rfl) p X
    obtain ⟨hout, hin⟩ := beginnings_group hnodup hfound s
    rw [← hv] at hout hin
    generalize members.foldl (State.firing begun) X = t at hexec hfirings htokens hsets hwriter hfixed hticks hpairs
    clear_value v
    have hgroups : t.groups = v.groups := (congrArg State.groups hfirings).trans rfl
    have hgroup : ∀ m, t.group m = v.group m := fun m => by rw [State.group, hgroups]; rfl
    have hnot : ∀ m : GroupId, u.members.getLsbD m = false → t.group m = s.group m := fun m hm =>
      (hgroup m).trans (hout m fun h => by rw [(hmem m).1 h] at hm; cases hm)
    have hmember : ∀ m ∈ members, t.group m = { begun m with window := (t.group m).window } := fun m hm => by
      rw [hgroup]
      exact (hin m hm).1
    have hrecord : ∀ m ∈ members, ∃ f, (t.group m).active? = some f
        ∧ f.uncounted = ((s.firstEntry m).begun ((s.firstEntry m).flags.tokenSaturated || saturated m)).uncounted :=
      fun m hm => by
        rw [hgroup]
        exact active_of_counted (hin m hm).2 (hfound m hm)
    have hproducing : ∀ m ∈ members, (t.group m).producing = true := fun m hm => by
      obtain ⟨f, hf, -⟩ := hrecord m hm
      exact Group.producing_of_active? hf (.inl (by rw [hmember m hm]))
    have htfixed : t.fixed = s.fixed := hfixed.trans (by rw [← hX]; rfl)
    have hXpairs : ∀ p, X.pair p = s.pair p := fun p => by rw [← hX]; rfl
    have hrank : ∀ m p, X.rank m p = s.rank m p := fun m p => by rw [← hX]; rfl
    simp only [hXpairs, hrank] at hpairs
    refine ⟨_, hexec, htokens.trans (by rw [← hX]), hsets.trans (by rw [← hX]), hgroups,
      (congrArg State.captureQueue hfirings).trans rfl, (congrArg State.converter hfirings).trans rfl,
      (congrArg (fun t : State => t.marks.conv) hfirings).trans rfl, fun m => ?_, fun m hm e he => ?_, hnot, fun p hp => ?_, ?_⟩
    · have hmark : decide (m ∈ members) = u.members.getLsbD m := by
        rw [Bool.eq_iff_iff, decide_eq_true_iff]
        exact hmem m
      have hm := hticks m
      rw [hmark, ← hX] at hm
      exact hm
    · have hm := (hmem m).2 hm
      obtain rfl : s.firstEntry m = e := State.firstEntry_of_first he
      obtain ⟨f, hf, hfe⟩ := hrecord m hm
      have same : ∀ {γ : Type} (k : Entry → γ),
          k f.uncounted = k ((s.firstEntry m).begun ((s.firstEntry m).flags.tokenSaturated || saturated m)).uncounted :=
        fun k => congrArg k hfe
      refine ⟨⟨f, hf, same Entry.slot, same Entry.copy, same Entry.periodsRun, same Entry.extensionPeriods,
        same fun e => e.flags.tokenSaturated⟩, hmember m hm, fun htrip p hp => ?_⟩
      have hpair := (hpairs p).1 m hm hp
      refine entersTheWaveform_of_enter (v := (s.pair p).enter (decide (0 < Seg.duty (s.firstEntry m).copy (s.rank m p)))) rfl ?_
      rw [State.settle_pair, hpair]
      refine State.settledPair_of_waveform (State.selection_of_producing ((PairUnit.enter_group _ _).trans hp) ?_ ?_
        (hproducing m hm))
      · rw [State.ctrl_of_fixed htfixed, hrun]; nofun
      · rw [tripCondition_of_lines (congrArg Fixed.lines htfixed)]; exact htrip
    · have hpair := (hpairs p).2 fun m hm hg => by
        have hno := hp m hg
        rw [(hmem m).1 hm] at hno
        cases hno
      rw [State.settle_pair, hpair, settledPair_of_other htfixed fun m hg => by rw [hnot m (hp m hg)]]
      exact ((settled_iff s).1 hs).2.1 p
    · have htwriter : t.writer = s.writer := hwriter.trans (by rw [← hX])
      refine frame_of_fixed hs htfixed _ (fun m hm => absurd ?_ hm) (fun h => absurd h (by simp)) (fun h => absurd h (by simp))
        (fun h => absurd h (by simp)) (fun h => absurd h (by simp)) (fun h => absurd h (by simp))
        (fun _ => Block.same_resultWriter_of_writer htwriter)
        (fun _ => ⟨settledWriter_of_writer htfixed htwriter, fun m => ?_⟩) (fun h => absurd h (by simp))
      · revert m; decide
      · by_cases hm : m ∈ members
        · rw [hmember m hm]
        · rw [hnot m (Bool.eq_false_iff.2 (mt (hmem m).2 hm))]

end Fire

end Sys2Proof.Machine
end

section
/-! PROOF. The consequences on the capture path one by one (R91, R94, R104 to R106, R110), and what they leave of the
groups: a DRAINING record whose work is finished retires, and nothing else moves (R13). -/

namespace Sys2Proof.Machine

/-! ## Single consequences -/

/-- One consequence on the capture path. -/
inductive Consequence : State → State → Prop where
  | take {r : Request} {rest : List Request} (s : State) (hrun : s.isRunning = true) (hidle : s.converter.state = .idle)
      (hq : s.captureQueue = r :: rest) : Consequence s { s with
        captureQueue := rest
        converter := { s.converter with state := .converting, current := some r, step := 0, done := 0, sum := 0 }
        marks := { s.marks with conv := true } }
  | offer {r : ConvResult} (s : State) (hstate : s.converter.state = .holding) (hheld : s.converter.held = some r)
      (hroom : s.writer.queue.length < 4) : Consequence s { s with
        writer := { s.writer with queue := s.writer.queue ++ [r] }
        converter := { s.converter with state := .idle, held := none } }
  | result {r : ConvResult} {rest : List ConvResult} (s : State) (hj : s.writer.job = none)
      (hn : s.writer.nextSource = some .resultQueue) (hq : s.writer.queue = r :: rest) : Consequence s { s with
        writer := { s.writer with
          queue := rest, lastSource := .resultQueue, job := if s.dropsResult r then none else some (.result r) } }
  | fill {ref : EntryRef} {rest : List EntryRef} (s : State) (hj : s.writer.job = none)
      (hn : s.writer.nextSource = some .fillList) (hf : s.writer.fill = ref :: rest) : Consequence s { s with
        writer := { s.writer with
          fill := rest, lastSource := .fillList, job := (s.entry? ref).map fun e => .fill ref e.triggered } }
  | join {ref : EntryRef} {e : Entry} (s : State) (he : s.entry? ref = some e) (hst : e.st = .draining)
      (hhand : s.inHand ref = false) (hfill : s.inFill ref = false) (howes : e.owes = true) : Consequence s { s with
        writer := { s.writer with fill := s.writer.fill ++ [ref] } }
  | retire {ref : EntryRef} {e : Entry} (s : State) (he : s.entry? ref = some e) (hst : e.st = .draining)
      (hhand : s.inHand ref = false) (hfill : s.inFill ref = false) (howes : e.owes = false) :
      Consequence s (s.modEntry ref fun e => { e with st := .retiring })

/-- Consequences one after the other. -/
abbrev Consequences : State → State → Prop := Relation.ReflTransGen Consequence

section Chain

variable (s : State)

theorem consequences_converterTake : Consequences s s.converterTake := by
  by_cases hc : s.isRunning = true ∧ s.converter.state = .idle
  · cases hq : s.captureQueue with
    | nil => rw [State.converterTake_of_empty hq]
    | cons r rest =>
      rw [State.converterTake_of_cons hc.1 hc.2 hq]
      exact .single (.take s hc.1 hc.2 hq)
  · rw [State.converterTake_of_not hc]

theorem consequences_offerHeld : Consequences s s.offerHeld := by
  by_cases hno : s.converter.state ≠ .holding ∨ s.converter.held = none ∨ 4 ≤ s.writer.queue.length
  · rw [State.offerHeld_of_not hno]
  · simp only [not_or, not_not, Nat.not_le] at hno
    obtain ⟨hstate, hheld, hroom⟩ := hno
    obtain ⟨r, hr⟩ := Option.ne_none_iff_exists'.1 hheld
    rw [State.offerHeld_of_held hstate hr hroom]
    exact .head (.offer s hstate hr hroom) (consequences_converterTake _)

theorem consequences_chooseJob : Consequences s s.chooseJob := by
  rcases s.chooseJob_cases with ⟨h, -⟩ | ⟨r, rest, hj, hn, hq, h⟩ | ⟨ref, rest, hj, hn, hf, h⟩
  · rw [h]
  · rw [h]; exact .single (.result s hj hn hq)
  · rw [h]; exact .single (.fill s hj hn hf)

theorem consequences_drainOne (ref : EntryRef) : Consequences s (s.drainOne ref) := by
  rcases s.drainOne_cases ref with ⟨h, -⟩ | ⟨e, he, hst, hhand, hfill, howes, h⟩ | ⟨e, he, hst, hhand, hfill, howes, h⟩
  · rw [h]
  · rw [h]; exact .single (.join s he hst hhand hfill howes)
  · rw [h]; exact .single (.retire s he hst hhand hfill howes)

theorem consequences_drain : Consequences s s.drain :=
  foldl_inv (Consequences s) _ (fun t ref h => h.trans (consequences_drainOne t ref)) _ _ .refl

theorem consequences_pumpOnce : Consequences s s.pumpOnce :=
  (consequences_drain s).trans ((consequences_converterTake _).trans
    ((consequences_offerHeld _).trans (consequences_chooseJob _)))

theorem consequences_pumpRounds (n : Nat) : ∀ s : State, Consequences s (State.pumpRounds n s) := by
  induction n with
  | zero => exact fun _ => .refl
  | succ n ih => exact fun s => (consequences_pumpOnce s).trans (ih _)

end Chain

/-! ## Whose work is in hand or listed -/

section Work

variable {s t u : State} {ref : EntryRef} {g m : GroupId}

theorem State.hasJob_iff : s.hasJob ref = true ↔ ∃ j, s.writer.job = some j ∧ j.ref = ref := by
  unfold State.hasJob
  cases s.writer.job <;> simp

theorem State.isConverting_iff : s.isConverting ref = true ↔ ∃ q, s.converter.current = some q ∧ q.ref = ref := by
  unfold State.isConverting
  cases s.converter.current <;> simp

theorem State.isHeld_iff : s.isHeld ref = true ↔ ∃ r, s.converter.held = some r ∧ r.ref = ref := by
  unfold State.isHeld
  cases s.converter.held <;> simp

theorem State.writeOnBus_iff : s.writeOnBus ref = true ↔ ∃ w, s.writer.onBus = some w ∧ w.ref = ref := by
  unfold State.writeOnBus
  cases s.writer.onBus <;> simp

theorem State.hasRequest_iff : s.hasRequest ref = true ↔ ∃ q ∈ s.captureQueue, q.ref = ref := by
  simp [State.hasRequest]

theorem State.hasResult_iff : s.hasResult ref = true ↔ ∃ r ∈ s.writer.queue, r.ref = ref := by
  simp [State.hasResult]

theorem State.inFill_iff : s.inFill ref = true ↔ ref ∈ s.writer.fill := by
  simp [State.inFill]

/-- Work in hand: queued, converted, held, delivered or current (R106). -/
theorem State.inHand_iff : s.inHand ref = true ↔ (∃ q ∈ s.captureQueue, q.ref = ref)
    ∨ (∃ q, s.converter.current = some q ∧ q.ref = ref) ∨ (∃ r, s.converter.held = some r ∧ r.ref = ref)
    ∨ (∃ r ∈ s.writer.queue, r.ref = ref) ∨ ∃ j, s.writer.job = some j ∧ j.ref = ref := by
  rw [← State.hasRequest_iff, ← State.isConverting_iff, ← State.isHeld_iff, ← State.hasResult_iff, ← State.hasJob_iff]
  simp only [State.inHand, Bool.or_eq_true, or_assoc]

/-- Some work of the record is in hand, or it stands in the fill list. -/
abbrev State.Busy (s : State) (ref : EntryRef) : Prop := s.inHand ref = true ∨ s.inFill ref = true

/-- No consequence brings work to a record but the joining of the fill list. -/
theorem Consequence.busy (h : Consequence s t) (hb : t.Busy ref) :
    s.Busy ref ∨ ∃ e, s.entry? ref = some e ∧ e.st = .draining := by
  simp only [State.Busy, State.inHand_iff, State.inFill_iff] at hb ⊢
  cases h with
  | take _ hrun hidle hq =>
    rw [hq]
    simp only [List.mem_cons] at hb ⊢
    grind
  | offer _ hstate hheld hroom =>
    simp only [List.mem_append, List.mem_singleton] at hb
    grind
  | result _ hj hn hq =>
    rw [hq]
    simp only [List.mem_cons] at hb ⊢
    split at hb <;> grind [Job.ref]
  | fill _ hj hn hf =>
    rw [hf]
    simp only [List.mem_cons, Option.map_eq_some_iff] at hb ⊢
    grind [Job.ref]
  | @join ref' e _ he hst hhand hfill howes =>
    simp only [List.mem_append, List.mem_singleton] at hb
    grind
  | retire _ he hst hhand hfill howes => exact .inl hb

end Work

end Sys2Proof.Machine
end

section
/-! PROOF. What the consequences on the capture path leave of the groups (R13, R38, R106, R110). -/

namespace Sys2Proof.Machine

section Follows

variable {s t u : State} {ref : EntryRef} {g m : GroupId}

/-! ## Entries by their references -/

theorem State.entry?_of_mem {e : Entry} (hd : (s.group g).SlotsDistinct) (he : e ∈ (s.group g).window) :
    s.entry? (e.ref g) = some e := by
  unfold State.entry?
  cases hf : (s.group (e.ref g).group).window.find? fun f => f.slot == (e.ref g).slot with
  | none => exact absurd (beq_self_eq_true _) (List.find?_eq_none.1 hf e he)
  | some f =>
    have hslot : f.slot = (e.ref g).slot := by simpa using List.find?_some hf
    rw [hd.eq (List.mem_of_find?_eq_some hf) he hslot]

theorem State.mem_of_entry? {e : Entry} (h : s.entry? ref = some e) :
    e ∈ (s.group ref.group).window ∧ e.slot = ref.slot :=
  ⟨List.mem_of_find?_eq_some h, by simpa using List.find?_some h⟩

theorem State.ref_of_entry? {e : Entry} (h : s.entry? ref = some e) : e.ref ref.group = ref := by
  have hslot := (State.mem_of_entry? h).2
  cases ref
  simp only [Entry.ref, hslot]

/-! ## The windows after the consequences -/

/-- A DRAINING entry retires, or the entry stays. -/
abbrev Entry.DrainsTo (e f : Entry) : Prop := f = e ∨ (e.st = .draining ∧ f = { e with st := .retiring })

/-- After some consequences: a record that has retired has no work left in hand or listed, and owes no word. -/
abbrev State.Drained (t : State) (m : GroupId) (e f : Entry) : Prop :=
  Entry.DrainsTo e f ∧ (e.st = .draining → f.st = .retiring → ¬t.Busy (e.ref m) ∧ e.owes = false)

/-- The groups of `t` after consequences on the capture path of `s`. -/
structure State.Follows (s t : State) : Prop where
  group : ∀ m, t.group m = { s.group m with window := (t.group m).window }
  window : ∀ m, List.Forall₂ (t.Drained m) (s.group m).window (t.group m).window

theorem Entry.DrainsTo.slot {e f : Entry} (h : Entry.DrainsTo e f) : f.slot = e.slot := by
  rcases h with rfl | ⟨-, rfl⟩ <;> rfl

theorem Entry.DrainsTo.refl (e : Entry) : Entry.DrainsTo e e := .inl rfl

theorem State.Drained.refl (t : State) (m : GroupId) (e : Entry) : t.Drained m e e :=
  ⟨.inl rfl, fun h h' => by rw [h] at h'; cases h'⟩

theorem State.Follows.refl (s : State) : s.Follows s :=
  ⟨fun _ => rfl, fun m => List.forall₂_same.2 fun e _ => State.Drained.refl s m e⟩

theorem State.Follows.slots (h : s.Follows t) (m : GroupId) :
    (t.group m).window.map Entry.slot = (s.group m).window.map Entry.slot := by
  have hw := h.window m
  generalize (t.group m).window = k at hw
  generalize (s.group m).window = l at hw
  induction hw with
  | nil => rfl
  | cons h1 _ ih => rw [List.map_cons, List.map_cons, ih, h1.1.slot]

theorem State.Follows.distinct (h : s.Follows t) (hd : (s.group m).SlotsDistinct) : (t.group m).SlotsDistinct := by
  rw [Group.SlotsDistinct, h.slots]
  exact hd

/-- A consequence that leaves the groups leaves what has retired without work. -/
theorem State.Follows.of_groups (hd : ∀ m, (s.group m).SlotsDistinct) (h : s.Follows t) (hc : Consequence t u)
    (hg : ∀ m, u.group m = t.group m) : s.Follows u := by
  refine ⟨fun m => by rw [hg]; exact h.group m, fun m => ?_⟩
  rw [hg]
  refine (List.forall₂_iff_zip.2 ⟨(h.window m).length_eq, fun {e f} hef => ?_⟩)
  obtain ⟨hto, hdone⟩ := List.forall₂_zip (h.window m) hef
  refine ⟨hto, fun hst hst' => ?_⟩
  obtain ⟨hidle, howes⟩ := hdone hst hst'
  refine ⟨fun hb => ?_, howes⟩
  rcases hc.busy hb with hb | ⟨e', he', hdr⟩
  · exact hidle hb
  · have hf : f ∈ (t.group m).window := (List.of_mem_zip hef).2
    have hentry := State.entry?_of_mem (h.distinct (hd m)) hf
    have href : f.ref m = e.ref m := by rw [Entry.ref, hto.slot, Entry.ref]
    rw [href, he', Option.some.injEq] at hentry
    rw [hentry, hst'] at hdr
    cases hdr

/-- A record whose work is finished retires. -/
theorem State.Follows.retire (hd : ∀ m, (s.group m).SlotsDistinct) (h : s.Follows t) {e : Entry} (he : t.entry? ref = some e)
    (hst : e.st = .draining) (hhand : t.inHand ref = false) (hfill : t.inFill ref = false) (howes : e.owes = false) :
    s.Follows (t.modEntry ref fun e => { e with st := .retiring }) := by
  have hbusy : ∀ r, (t.modEntry ref fun e => { e with st := .retiring }).Busy r ↔ t.Busy r := fun _ => Iff.rfl
  have hgroup : ∀ m, (t.modEntry ref fun e => { e with st := .retiring }).group m =
      if m = ref.group then (t.group m).modSlot ref.slot (fun e => { e with st := .retiring }) else t.group m :=
    fun m => by rw [State.modEntry, State.group_modGroup]
  refine ⟨fun m => ?_, fun m => ?_⟩
  · rw [hgroup]
    split
    · rw [h.group m]; rfl
    · exact h.group m
  · rw [hgroup]
    split
    · next hm =>
      subst hm
      show List.Forall₂ _ _ (((t.group ref.group).window).map fun e => if e.slot == ref.slot then { e with st := .retiring } else e)
      rw [List.forall₂_map_right_iff]
      refine (List.forall₂_iff_zip.2 ⟨(h.window _).length_eq, fun {a b} hab => ?_⟩)
      obtain ⟨hto, hdone⟩ := List.forall₂_zip (h.window _) hab
      have hb : b ∈ (t.group ref.group).window := (List.of_mem_zip hab).2
      by_cases hslot : b.slot = ref.slot
      · rw [if_pos (by simpa using hslot)]
        obtain ⟨hmem, heslot⟩ := State.mem_of_entry? he
        obtain rfl : b = e := (h.distinct (hd _)).eq hb hmem (hslot.trans heslot.symm)
        have hsame : b = a := hto.resolve_right fun ⟨_, hr⟩ => by rw [hr] at hst; cases hst
        subst hsame
        refine ⟨.inr ⟨hst, rfl⟩, fun _ _ => ⟨fun hb => ?_, howes⟩⟩
        have href : b.ref ref.group = ref := State.ref_of_entry? he
        rw [href, hbusy, State.Busy, hhand, hfill] at hb
        simp at hb
      · rw [if_neg (by simpa using hslot)]
        exact ⟨hto, hdone⟩
    · exact h.window m

theorem State.Follows.step (hd : ∀ m, (s.group m).SlotsDistinct) (h : s.Follows t) (hc : Consequence t u) : s.Follows u := by
  cases hc with
  | retire _ he hst hhand hfill howes => exact h.retire hd he hst hhand hfill howes
  | take _ hrun hidle hq => exact h.of_groups hd (.take t hrun hidle hq) fun _ => rfl
  | offer _ hstate hheld hroom => exact h.of_groups hd (.offer t hstate hheld hroom) fun _ => rfl
  | result _ hj hn hq => exact h.of_groups hd (.result t hj hn hq) fun _ => rfl
  | fill _ hj hn hf => exact h.of_groups hd (.fill t hj hn hf) fun _ => rfl
  | join _ he hst hhand hfill howes => exact h.of_groups hd (.join t he hst hhand hfill howes) fun _ => rfl

theorem Consequences.follows (hd : ∀ m, (s.group m).SlotsDistinct) (h : Consequences s t) : s.Follows t := by
  induction h with
  | refl => exact .refl s
  | tail _ hc ih => exact ih.step hd hc

/-! ## The end of the stops -/

theorem State.finishStops_group (s : State) (m : GroupId) : s.finishStops.group m = (s.group m).finishStop := by
  rw [State.finishStops, group_foldl_modGroup _ allGroups_nodup, if_pos (mem_allGroups m)]

/-- The end of the stops moves the groups alone. -/
theorem State.finishStops_eq (s : State) : s.finishStops = { s with groups := s.finishStops.groups } :=
  foldl_modGroup_eq Group.finishStop allGroups s

/-- A group whose entries drain, and whose stop may end. -/
theorem Group.drains_finishStop {x y : Group} (h : y = { x with window := y.window })
    (hw : List.Forall₂ Entry.DrainsTo x.window y.window) : Group.Drains x y.finishStop := by
  obtain ⟨k, rfl⟩ : ∃ k, y = { x with window := k } := ⟨_, h⟩
  have hzip : ∀ q ∈ x.window.zip k, q.2 = q.1 ∨ (q.1.st = .draining ∧ q.2 = { q.1 with st := .retiring }) :=
    fun q hq => List.forall₂_zip hw (a := q.1) (b := q.2) hq
  rcases Group.finishStop_cases { x with window := k } with hf | ⟨hst, -, hf⟩
  · rw [hf]
    exact ⟨rfl, hw.length_eq.symm, hzip, .inl ⟨rfl, rfl⟩⟩
  · rw [hf]
    exact ⟨rfl, hw.length_eq.symm, hzip, .inr ⟨hst, rfl, rfl⟩⟩

/-- What every group of distinct slots keeps through the pump. -/
theorem State.pump_drains (hd : ∀ m, (s.group m).SlotsDistinct) (m : GroupId) : s.pump.Drains m (s.group m) := by
  cases hrun : s.isRunning with
  | false =>
    rw [State.pump_of_not_running hrun]
    refine ⟨⟨rfl, rfl, fun q hq => .inl ?_, .inl ⟨rfl, rfl⟩⟩, fun q hq hst hst' => ?_⟩
    · exact List.forall₂_zip (R := fun e f => f = e) (List.forall₂_same.2 fun _ _ => rfl) (a := q.1) (b := q.2) hq
    · have hsame := List.forall₂_zip (R := fun e f => f = e) (List.forall₂_same.2 fun _ _ => rfl) (a := q.1) (b := q.2) hq
      rw [hsame, hst] at hst'
      cases hst'
  | true =>
    rw [State.pump_of_running hrun]
    have hf := (consequences_pumpRounds 8 s).follows hd
    generalize State.pumpRounds 8 s = t at hf
    have hgroup := t.finishStops_group m
    have hwindow : (t.finishStops.group m).window = (t.group m).window := by rw [hgroup, finishStop_window]
    refine ⟨?_, fun q hq hst hst' => ?_⟩
    · rw [hgroup]
      exact Group.drains_finishStop (hf.group m) ((hf.window m).imp fun _ _ h => h.1)
    · rw [hwindow] at hq
      obtain ⟨hidle, howes⟩ := (List.forall₂_zip (hf.window m) (a := q.1) (b := q.2) hq).2 hst hst'
      have hsame : t.finishStops.owesWork m q.1 = t.owesWork m q.1 := by
        rw [t.finishStops_eq]
        rfl
      rw [hsame, State.owesWork, howes]
      simpa [State.Busy, not_or] using hidle

end Follows

end Sys2Proof.Machine
end

section
/-! PROOF. The test of the DRAINING records to its end (R106, R110): what joins the fill list, what retires, and that
a second test finds nothing to do. -/

namespace Sys2Proof.Machine

/-- What the test of the DRAINING records makes of an entry (R110). -/
def State.drainedEntry (s : State) (m : GroupId) (e : Entry) : Entry :=
  if e.st = .draining ∧ s.owesWork m e = false then { e with st := .retiring } else e

/-- The record joins the fill list (R106). -/
def State.joins (s : State) (ref : EntryRef) : Bool :=
  !s.inHand ref && !s.inFill ref && (s.entry? ref).any fun e => e.st == .draining && e.owes

/-- The records that join the fill list, in their order. -/
def State.joining (s : State) : List EntryRef := s.drainingRefs.filter s.joins

section Drain

variable {s t : State} {ref r : EntryRef} {m : GroupId} {e : Entry}

theorem State.drainedEntry_slot (s : State) (m : GroupId) (e : Entry) : (s.drainedEntry m e).slot = e.slot := by
  unfold State.drainedEntry
  split <;> rfl

theorem State.owesWork_eq_false : s.owesWork m e = false ↔
    s.inHand (e.ref m) = false ∧ s.inFill (e.ref m) = false ∧ e.owes = false := by
  simp [State.owesWork, and_assoc]

theorem State.drainedEntry_of_not (h : ¬(e.st = .draining ∧ s.owesWork m e = false)) : s.drainedEntry m e = e := if_neg h

theorem State.entry?_map {f : Entry → Entry} (hf : ∀ e, (f e).slot = e.slot)
    (h : (t.group ref.group).window = (s.group ref.group).window.map f) : t.entry? ref = (s.entry? ref).map f := by
  rw [State.entry?, h, List.find?_map]
  congr 1
  exact List.find?_congr fun e _ => by rw [Function.comp_apply, hf]

theorem Entry.ref_eq_iff : e.ref m = ref ↔ m = ref.group ∧ e.slot = ref.slot := by
  cases ref
  simp [Entry.ref]

theorem State.joins_of_entry (he : s.entry? ref = some e) :
    s.joins ref = (!s.inHand ref && !s.inFill ref && (e.st == .draining && e.owes)) := by
  simp [State.joins, he]

theorem Group.eq_of_map_id {x : Group} {f : Entry → Entry} (h : ∀ e ∈ x.window, f e = e) :
    x = { x with window := x.window.map f } := by
  rw [List.map_congr_left (g := id) h, List.map_id]

/-- One record's test. -/
theorem State.drainOne_eq (hd : ∀ m, (s.group m).SlotsDistinct) (ref : EntryRef) :
    s.drainOne ref = { s with
        groups := (s.drainOne ref).groups
        writer := { s.writer with fill := s.writer.fill ++ if s.joins ref then [ref] else [] } }
      ∧ ∀ m, (s.drainOne ref).group m = { s.group m with
          window := (s.group m).window.map fun e => if e.ref m = ref then s.drainedEntry m e else e } := by
  have hentry : ∀ {m : GroupId} {f : Entry}, f ∈ (s.group m).window → f.ref m = ref → s.entry? ref = some f :=
    fun {m f} hf href => href ▸ State.entry?_of_mem (hd m) hf
  have hstays : ∀ m, (∀ f ∈ (s.group m).window, f.ref m = ref → s.drainedEntry m f = f) →
      s.group m = { s.group m with
        window := (s.group m).window.map fun e => if e.ref m = ref then s.drainedEntry m e else e } :=
    fun m h => Group.eq_of_map_id fun f hf => ite_eq_right_iff.2 (h f hf)
  rcases s.drainOne_cases ref with ⟨h, hno⟩ | ⟨e, he, hst, hhand, hfill, howes, h⟩ | ⟨e, he, hst, hhand, hfill, howes, h⟩
  · have hjoins : s.joins ref = false := by
      cases hs : s.entry? ref with
      | none => simp [State.joins, hs]
      | some e =>
        rw [State.joins_of_entry hs]
        by_contra hc
        simp only [Bool.not_eq_false, Bool.and_eq_true, Bool.not_eq_true', beq_iff_eq] at hc
        exact hno e hs ⟨hc.2.1, hc.1.1, hc.1.2⟩
    rw [h, hjoins]
    refine ⟨by simp, fun m => hstays m fun f hf href => State.drainedEntry_of_not fun ⟨hst, how⟩ => ?_⟩
    obtain ⟨h1, h2, -⟩ := State.owesWork_eq_false.1 how
    rw [href] at h1 h2
    exact hno f (hentry hf href) ⟨hst, h1, h2⟩
  · have hjoins : s.joins ref = true := by rw [State.joins_of_entry he]; simp [hhand, hfill, hst, howes]
    rw [h, hjoins]
    refine ⟨rfl, fun m => hstays m fun f hf href => State.drainedEntry_of_not fun ⟨_, how⟩ => ?_⟩
    obtain ⟨-, -, h3⟩ := State.owesWork_eq_false.1 how
    obtain rfl := Option.some.inj (he.symm.trans (hentry hf href))
    rw [howes] at h3
    cases h3
  · have hjoins : s.joins ref = false := by rw [State.joins_of_entry he]; simp [howes]
    rw [h, hjoins]
    refine ⟨by simp [State.modEntry, State.modGroup, State.setGroup], fun m => ?_⟩
    rw [State.modEntry, State.group_modGroup]
    by_cases hm : m = ref.group
    · subst hm
      rw [if_pos rfl, Group.modSlot]
      congr 1
      refine List.map_congr_left fun f hf => ?_
      by_cases hslot : f.slot = ref.slot
      · have href : f.ref ref.group = ref := Entry.ref_eq_iff.2 ⟨rfl, hslot⟩
        obtain rfl := Option.some.inj (he.symm.trans (hentry hf href))
        rw [if_pos (by simpa using hslot), if_pos href, State.drainedEntry,
          if_pos ⟨hst, State.owesWork_eq_false.2 ⟨href.symm ▸ hhand, href.symm ▸ hfill, howes⟩⟩]
      · rw [if_neg (by simpa using hslot), if_neg fun href => hslot (Entry.ref_eq_iff.1 href).2]
    · rw [if_neg hm]
      exact hstays m fun f _ href => absurd (Entry.ref_eq_iff.1 href).1 hm

/-- Tests of several records, one after the other. -/
theorem State.foldl_drainOne : ∀ (refs : List EntryRef) {s : State}, refs.Nodup → (∀ m, (s.group m).SlotsDistinct) →
    refs.foldl State.drainOne s = { s with
        groups := (refs.foldl State.drainOne s).groups
        writer := { s.writer with fill := s.writer.fill ++ refs.filter s.joins } }
      ∧ ∀ m, (refs.foldl State.drainOne s).group m = { s.group m with
          window := (s.group m).window.map fun e => if e.ref m ∈ refs then s.drainedEntry m e else e } := by
  intro refs
  induction refs with
  | nil =>
    intro s _ _
    refine ⟨by simp, fun m => Group.eq_of_map_id fun e _ => ?_⟩
    simp
  | cons ref refs ih =>
    intro s hn hd
    obtain ⟨hnot, hn⟩ := List.nodup_cons.1 hn
    obtain ⟨hframe, hgroup⟩ := s.drainOne_eq hd ref
    simp only [List.foldl_cons]
    generalize s.drainOne ref = t at hframe hgroup
    have hslots : ∀ m, (t.group m).SlotsDistinct := by
      intro m
      rw [hgroup, Group.SlotsDistinct, List.map_map]
      convert hd m using 2
      funext e
      rw [Function.comp_apply]
      split
      · exact s.drainedEntry_slot m e
      · rfl
    have hhand : ∀ r, t.inHand r = s.inHand r := fun r => by rw [hframe]; rfl
    have hfill : ∀ r, r ≠ ref → t.inFill r = s.inFill r := by
      intro r hr
      have hlist : t.writer.fill = s.writer.fill ++ if s.joins ref then [ref] else [] :=
        congrArg (fun t => t.writer.fill) hframe
      rw [Bool.eq_iff_iff, State.inFill_iff, State.inFill_iff, hlist, List.mem_append]
      refine or_iff_left fun hmem => hr ?_
      split at hmem
      · exact List.mem_singleton.1 hmem
      · cases hmem
    have hentry : ∀ m e, e.ref m ≠ ref → t.drainedEntry m e = s.drainedEntry m e := by
      intro m e he
      have how : t.owesWork m e = s.owesWork m e := by simp only [State.owesWork, hhand, hfill _ he]
      rw [State.drainedEntry, State.drainedEntry, how]
    have hjoins : ∀ r, r ≠ ref → t.joins r = s.joins r := by
      intro r hr
      simp only [State.joins, hhand, hfill r hr]
      congr 1
      rw [State.entry?_map (fun e => ?_) (congrArg Group.window (hgroup r.group))]
      · cases he : s.entry? r with
        | none => rfl
        | some e =>
          have href : e.ref r.group ≠ ref := by rw [State.ref_of_entry? he]; exact hr
          rw [Option.map_some, if_neg href]
      · split
        · exact s.drainedEntry_slot _ e
        · rfl
    obtain ⟨hframe', hgroup'⟩ := ih hn hslots
    generalize List.foldl State.drainOne t refs = u at hframe' hgroup'
    refine ⟨?_, fun m => ?_⟩
    · have hrest : refs.filter t.joins = refs.filter s.joins :=
        List.filter_congr fun r hr => hjoins r fun h => hnot (h ▸ hr)
      have hall : (ref :: refs).filter s.joins = (if s.joins ref then [ref] else []) ++ refs.filter s.joins := by
        rw [List.filter_cons]
        split <;> rfl
      rw [hframe', hrest, hframe, hall, ← List.append_assoc]
    · rw [hgroup', hgroup]
      dsimp only
      rw [List.map_map]
      congr 1
      refine List.map_congr_left fun e _ => ?_
      rw [Function.comp_apply]
      by_cases href : e.ref m = ref
      · have hsame : (s.drainedEntry m e).ref m = e.ref m := by rw [Entry.ref, s.drainedEntry_slot, Entry.ref]
        rw [if_pos href, hsame, if_neg (href ▸ hnot), if_pos (href ▸ List.mem_cons_self)]
      · rw [if_neg href, hentry m e href]
        simp only [List.mem_cons, href, false_or]

/-- The DRAINING records by their references. -/
theorem State.mem_drainingRefs (hd : (s.group ref.group).SlotsDistinct) :
    ref ∈ s.drainingRefs ↔ ∃ e, s.entry? ref = some e ∧ e.st = .draining := by
  simp only [State.drainingRefs, List.mem_flatMap, List.mem_map, List.mem_filter, beq_iff_eq]
  constructor
  · rintro ⟨m, -, e, ⟨he, hst⟩, rfl⟩
    exact ⟨e, State.entry?_of_mem hd he, hst⟩
  · rintro ⟨e, he, hst⟩
    exact ⟨ref.group, mem_allGroups _, e, ⟨(State.mem_of_entry? he).1, hst⟩, State.ref_of_entry? he⟩

theorem State.drainingRefs_nodup (hd : ∀ m, (s.group m).SlotsDistinct) : s.drainingRefs.Nodup := by
  rw [State.drainingRefs, List.nodup_flatMap]
  refine ⟨fun m _ => ?_, ?_⟩
  · have hslots : ((((s.group m).window.filter fun e => e.st == .draining).map (Entry.ref m)).map EntryRef.slot).Nodup := by
      rw [List.map_map]
      exact ((hd m).sublist (List.Sublist.map _ List.filter_sublist))
    exact List.Nodup.of_map _ hslots
  · refine allGroups_nodup.imp_of_mem fun {a b} _ _ hab => ?_
    refine List.disjoint_left.2 fun r ha hb => hab ?_
    simp only [List.mem_map] at ha hb
    obtain ⟨e, -, rfl⟩ := ha
    obtain ⟨f, -, hf⟩ := hb
    exact (congrArg EntryRef.group hf).symm

/-- The test of all DRAINING records (R106, R110). -/
theorem State.drain_eq (hd : ∀ m, (s.group m).SlotsDistinct) :
    s.drain = { s with
        groups := s.drain.groups
        writer := { s.writer with fill := s.writer.fill ++ s.joining } }
      ∧ ∀ m, s.drain.group m = { s.group m with window := (s.group m).window.map (s.drainedEntry m) } := by
  obtain ⟨hframe, hgroup⟩ := State.foldl_drainOne s.drainingRefs (State.drainingRefs_nodup hd) hd
  have hmap : ∀ m, ((s.group m).window.map fun e => if e.ref m ∈ s.drainingRefs then s.drainedEntry m e else e)
      = (s.group m).window.map (s.drainedEntry m) := ?_
  · refine ⟨hframe, fun m => (hgroup m).trans ?_⟩
    rw [hmap]
  refine fun m => List.map_congr_left fun e he => ?_
  by_cases hst : e.st = .draining
  · exact if_pos ((State.mem_drainingRefs (hd m)).2 ⟨e, State.entry?_of_mem (hd m) he, hst⟩)
  · rw [State.drainedEntry_of_not fun h => hst h.1, ite_self]

theorem State.mem_joining (hd : ∀ m, (s.group m).SlotsDistinct) : ref ∈ s.joining ↔
    s.inHand ref = false ∧ s.inFill ref = false ∧ ∃ e, s.entry? ref = some e ∧ e.st = .draining ∧ e.owes = true := by
  rw [State.joining, List.mem_filter, State.mem_drainingRefs (hd _)]
  constructor
  · rintro ⟨⟨e, he, hst⟩, hj⟩
    rw [State.joins_of_entry he] at hj
    simp only [Bool.and_eq_true, Bool.not_eq_true', beq_iff_eq] at hj
    exact ⟨hj.1.1, hj.1.2, e, he, hj.2⟩
  · rintro ⟨h1, h2, e, he, hst, howes⟩
    refine ⟨⟨e, he, hst⟩, ?_⟩
    rw [State.joins_of_entry he]
    simp [h1, h2, hst, howes]

/-- The records that join are those that R106 names. -/
theorem State.joins_joining (hd : ∀ m, (s.group m).SlotsDistinct) : s.Joins s.joining := by
  refine ⟨(State.drainingRefs_nodup hd).sublist List.filter_sublist, fun ref => ?_⟩
  rw [State.mem_joining hd]
  refine and_congr_right fun _ => and_congr_right fun _ => ⟨?_, ?_⟩
  · rintro ⟨e, he, hst, howes⟩
    exact ⟨e, (State.mem_of_entry? he).1, (State.mem_of_entry? he).2, hst, howes⟩
  · rintro ⟨e, he, hslot, hst, howes⟩
    have hentry := State.entry?_of_mem (hd _) he
    rw [Entry.ref_eq_iff.2 ⟨rfl, hslot⟩] at hentry
    exact ⟨e, hentry, hst, howes⟩

theorem State.drain_of_busy (hd : ∀ m, (s.group m).SlotsDistinct)
    (h : ∀ m, ∀ e ∈ (s.group m).window, e.st = .draining → s.Busy (e.ref m)) : s.drain = s := by
  obtain ⟨hframe, hgroup⟩ := State.drain_eq hd
  have hnone : s.joining = [] := List.eq_nil_iff_forall_not_mem.2 fun r hr => by
    obtain ⟨h1, h2, e, he, hst, -⟩ := (State.mem_joining hd).1 hr
    have hb := h r.group e (State.mem_of_entry? he).1 hst
    rw [State.ref_of_entry? he, State.Busy, h1, h2] at hb
    simp at hb
  have hgroups : s.drain.groups = s.groups := State.groups_eq_of_group fun m => by
    rw [hgroup]
    refine (Group.eq_of_map_id fun e he => State.drainedEntry_of_not fun ⟨hst, how⟩ => ?_).symm
    obtain ⟨h1, h2, -⟩ := State.owesWork_eq_false.1 how
    have hb := h m e he hst
    rw [State.Busy, h1, h2] at hb
    simp at hb
  rw [hframe, hgroups, hnone, List.append_nil]

end Drain

end Sys2Proof.Machine
end

section
/-! PROOF. The pump after a happening that removes no capture work (R89, R95, R104): one round of consequences, whose
only choice is that of a fill, and after it none is left. -/

namespace Sys2Proof.Machine

/-- No consequence on the converter or the writer is left undone (R91, R94, R104). -/
structure State.Quiet (s : State) : Prop where
  idle : s.converter.state = .idle → s.captureQueue = []
  holding : s.converter.state = .holding → 4 ≤ s.writer.queue.length
  free : s.writer.job = none → s.writer.queue = [] ∧ s.writer.fill = []

/-- Every DRAINING record has work in hand or stands in the fill list. -/
abbrev State.DrainingBusy (s : State) : Prop := ∀ m, ∀ e ∈ (s.group m).window, e.st = .draining → s.Busy (e.ref m)

section Quiet

variable {s t : State} {ref : EntryRef} {m : GroupId} {e : Entry}

theorem CaptureLaw.quiet (h : CaptureLaw s) : s.Quiet := by
  obtain ⟨-, -, hidle, hholding, hfree, -⟩ := h
  exact ⟨hidle, fun hs => (hholding hs).ge, hfree⟩

theorem State.converterTake_of_still (h : s.converter.state = .idle → s.captureQueue = []) : s.converterTake = s := by
  by_cases hidle : s.converter.state = .idle
  · exact State.converterTake_of_empty (h hidle)
  · exact State.converterTake_of_not fun hc => hidle hc.2

theorem State.offerHeld_of_still (h : s.converter.state = .holding → 4 ≤ s.writer.queue.length) : s.offerHeld = s := by
  by_cases hholding : s.converter.state = .holding
  · exact State.offerHeld_of_not (.inr (.inr (h hholding)))
  · exact State.offerHeld_of_not (.inl hholding)

theorem State.drain_writer (hd : ∀ m, (s.group m).SlotsDistinct) :
    s.drain.writer = { s.writer with fill := s.writer.fill ++ s.joining } := by rw [(State.drain_eq hd).1]

theorem State.drain_converter (hd : ∀ m, (s.group m).SlotsDistinct) : s.drain.converter = s.converter := by
  rw [(State.drain_eq hd).1]

theorem State.drain_captureQueue (hd : ∀ m, (s.group m).SlotsDistinct) : s.drain.captureQueue = s.captureQueue := by
  rw [(State.drain_eq hd).1]

theorem State.drain_marks (hd : ∀ m, (s.group m).SlotsDistinct) : s.drain.marks = s.marks := by
  rw [(State.drain_eq hd).1]

/-- A round after which the writer alone may choose. -/
theorem State.pumpOnce_of_still (hd : ∀ m, (s.group m).SlotsDistinct)
    (hidle : s.converter.state = .idle → s.captureQueue = [])
    (hholding : s.converter.state = .holding → 4 ≤ s.writer.queue.length) : s.pumpOnce = s.drain.chooseJob := by
  rw [State.pumpOnce, State.converterTake_of_still, State.offerHeld_of_still]
  · rw [State.drain_converter hd, State.drain_writer hd]; exact hholding
  · rw [State.drain_converter hd, State.drain_captureQueue hd]; exact hidle

/-- After the test of the DRAINING records, each that is left has work in hand or is listed (R106, R110). -/
theorem State.drain_busy (hd : ∀ m, (s.group m).SlotsDistinct) : s.drain.DrainingBusy := by
  obtain ⟨hframe, hgroup⟩ := State.drain_eq hd
  intro m e he hst
  rw [hgroup, List.mem_map] at he
  obtain ⟨f, hf, rfl⟩ := he
  have hnot : ¬(f.st = .draining ∧ s.owesWork m f = false) := by
    intro hc
    rw [State.drainedEntry, if_pos hc] at hst
    cases hst
  rw [State.drainedEntry_of_not hnot] at hst ⊢
  have hhand : s.drain.inHand (f.ref m) = s.inHand (f.ref m) := by rw [hframe]; rfl
  rw [State.Busy, hhand, State.inFill_iff, State.drain_writer hd, List.mem_append, ← State.inFill_iff]
  by_contra hno
  simp only [not_or, Bool.not_eq_true] at hno
  obtain ⟨h1, h2, h3⟩ := hno
  refine h3 ((State.mem_joining hd).2 ⟨h1, h2, f, State.entry?_of_mem (hd m) hf, hst, ?_⟩)
  by_contra howes
  exact hnot ⟨hst, State.owesWork_eq_false.2 ⟨h1, h2, by simpa using howes⟩⟩

/-- A state in which no consequence is left. -/
theorem State.pumpOnce_of_quiet (hd : ∀ m, (s.group m).SlotsDistinct) (hq : s.Quiet) (hb : s.DrainingBusy) :
    s.pumpOnce = s := by
  rw [State.pumpOnce_of_still hd hq.idle hq.holding, State.drain_of_busy hd hb]
  by_cases hj : s.writer.job = none
  · exact State.chooseJob_of_no_work (hq.free hj).1 (hq.free hj).2
  · exact State.chooseJob_of_job hj

theorem State.pumpRounds_of_fixed (h : s.pumpOnce = s) (n : Nat) : State.pumpRounds n s = s := by
  induction n with
  | zero => rfl
  | succ n ih => rw [State.pumpRounds, h, ih]

theorem State.drain_slotsDistinct (hd : ∀ m, (s.group m).SlotsDistinct) (m : GroupId) :
    (s.drain.group m).SlotsDistinct :=
  ((consequences_drain s).follows hd).distinct (hd m)

/-- A record that joins is not changed by the test. -/
theorem State.entry?_drain_of_joining (hd : ∀ m, (s.group m).SlotsDistinct) (h : ref ∈ s.joining) :
    s.drain.entry? ref = s.entry? ref ∧ (s.entry? ref).isSome = true := by
  obtain ⟨-, -, e, he, hst, howes⟩ := (State.mem_joining hd).1 h
  have hentry := State.entry?_map (ref := ref) (s.drainedEntry_slot ref.group) (congrArg Group.window ((State.drain_eq hd).2 ref.group))
  have hnot : ¬(e.st = .draining ∧ s.owesWork ref.group e = false) := fun ⟨_, how⟩ => by
    rw [(State.owesWork_eq_false.1 how).2.2] at howes
    cases howes
  rw [hentry, he, Option.map_some, State.drainedEntry_of_not hnot]
  exact ⟨rfl, rfl⟩

/-- The state after the pump, before the end of the stops, where only a fill may be chosen (R104, R106). -/
def State.quietPump (s : State) : State :=
  match s.writer.job, s.joining with
  | none, first :: rest => { s.drain with writer := { s.writer with
      fill := rest, lastSource := .fillList, job := (s.entry? first).map fun e => .fill first e.triggered } }
  | _, _ => s.drain

theorem State.quietPump_of_keeps (h : s.writer.job ≠ none ∨ s.joining = []) : s.quietPump = s.drain := by
  unfold State.quietPump
  split
  · next hj hjoin => rw [hj, hjoin] at h; simp at h
  · rfl

theorem State.quietPump_of_fills {first : EntryRef} {rest : List EntryRef} (hj : s.writer.job = none)
    (h : s.joining = first :: rest) :
    s.quietPump = { s.drain with writer := { s.writer with
      fill := rest, lastSource := .fillList, job := (s.entry? first).map fun e => .fill first e.triggered } } := by
  rw [State.quietPump, hj, h]

theorem State.pumpOnce_quiet (hd : ∀ m, (s.group m).SlotsDistinct) (hq : s.Quiet) : s.pumpOnce = s.quietPump := by
  have hwriter := State.drain_writer hd
  rw [State.pumpOnce_of_still hd hq.idle hq.holding]
  by_cases hj : s.writer.job = none
  · obtain ⟨hqueue, hfill⟩ := hq.free hj
    cases hjoin : s.joining with
    | nil =>
      rw [State.quietPump_of_keeps (.inr hjoin)]
      exact State.chooseJob_of_no_work (hwriter ▸ hqueue) (by rw [hwriter]; simp [hfill, hjoin])
    | cons first rest =>
      have hlist : s.drain.writer.fill = first :: rest := by rw [hwriter]; simp [hfill, hjoin]
      have hnext : s.drain.writer.nextSource = some .fillList := by
        rw [ResultWriter.nextSource, hlist, hwriter]
        simp [hqueue]
      rw [State.quietPump_of_fills hj hjoin, State.chooseJob_of_fill (hwriter ▸ hj) hnext hlist,
        (State.entry?_drain_of_joining hd (hjoin ▸ List.mem_cons_self)).1, hwriter]
  · rw [State.quietPump_of_keeps (.inl hj)]
    exact State.chooseJob_of_job (hwriter ▸ hj)

theorem State.quietPump_group (hd : ∀ m, (s.group m).SlotsDistinct) (m : GroupId) :
    s.quietPump.group m = { s.group m with window := (s.group m).window.map (s.drainedEntry m) } := by
  rw [← (State.drain_eq hd).2 m, State.quietPump]
  split <;> rfl

/-- One round leaves no consequence. -/
theorem State.pumpOnce_quietPump (hd : ∀ m, (s.group m).SlotsDistinct) (hq : s.Quiet) :
    s.quietPump.pumpOnce = s.quietPump := by
  have hwriter := State.drain_writer hd
  have hqueue := State.drain_captureQueue hd
  have hconv := State.drain_converter hd
  have hbusy := State.drain_busy hd
  have hslots := State.drain_slotsDistinct hd
  by_cases hkeeps : s.writer.job ≠ none ∨ s.joining = []
  · rw [State.quietPump_of_keeps hkeeps]
    refine State.pumpOnce_of_quiet hslots ⟨?_, ?_, ?_⟩ hbusy
    · rw [hconv, hqueue]; exact hq.idle
    · rw [hconv, hwriter]; exact hq.holding
    · intro hj
      rw [hwriter] at hj ⊢
      obtain ⟨h1, h2⟩ := hq.free hj
      exact ⟨h1, by simp [h2, hkeeps.resolve_left (not_not.2 hj)]⟩
  · simp only [not_or, not_not] at hkeeps
    obtain ⟨hj, hsome⟩ := hkeeps
    obtain ⟨first, rest, hjoin⟩ := List.exists_cons_of_ne_nil hsome
    obtain ⟨hnoresults, hnofill⟩ := hq.free hj
    obtain ⟨e, he⟩ := Option.isSome_iff_exists.1 (State.entry?_drain_of_joining hd (hjoin ▸ List.mem_cons_self)).2
    rw [State.quietPump_of_fills hj hjoin, he]
    refine State.pumpOnce_of_quiet (s := { s.drain with writer := _ }) hslots ⟨?_, ?_, ?_⟩ fun m f hf hst => ?_
    · show s.drain.converter.state = _ → s.drain.captureQueue = _
      rw [hconv, hqueue]; exact hq.idle
    · show s.drain.converter.state = _ → _
      rw [hconv]; exact hq.holding
    · exact fun h => by cases h
    · have hb := hbusy m f hf hst
      rw [State.Busy, State.inHand_iff, State.inFill_iff] at hb ⊢
      rw [hwriter, hnofill, hjoin] at hb
      simp only [List.nil_append, List.mem_cons, hj] at hb
      dsimp only [Option.map_some]
      rcases hb with (h | h | h | h | ⟨j, h, -⟩) | rfl | h
      · exact .inl (.inl h)
      · exact .inl (.inr (.inl h))
      · exact .inl (.inr (.inr (.inl h)))
      · exact .inl (.inr (.inr (.inr (.inl h))))
      · cases h
      · exact .inl (.inr (.inr (.inr (.inr ⟨_, rfl, rfl⟩))))
      · exact .inr h

/-- The consequences of a happening that leaves the converter and the writer at rest. -/
theorem State.pump_of_quiet (hrun : s.isRunning = true) (hd : ∀ m, (s.group m).SlotsDistinct) (hq : s.Quiet) :
    s.pump = s.quietPump.finishStops := by
  rw [State.pump_of_running hrun, State.pumpRounds, State.pumpOnce_quiet hd hq,
    State.pumpRounds_of_fixed (State.pumpOnce_quietPump hd hq)]

end Quiet

/-! ## What such a happening leaves -/

section Follows

variable {s t u v : State}

theorem keepsCaptureWork_pump (hrun : s.isRunning = true) (hd : ∀ m, (s.group m).SlotsDistinct) (hq : s.Quiet) :
    KeepsCaptureWork s s.pump := by
  have hwriter := State.drain_writer hd
  rw [State.pump_of_quiet hrun hd hq, State.finishStops_eq]
  generalize s.quietPump.finishStops.groups = groups
  refine ⟨?_, ?_, ?_, s.joining, State.joins_joining hd, fun hkeeps => ?_, fun first rest hj hjoin => ?_⟩
  · show s.quietPump.captureQueue = _
    rw [State.quietPump]
    split <;> exact State.drain_captureQueue hd
  · show s.quietPump.converter = _
    rw [State.quietPump]
    split <;> exact State.drain_converter hd
  · show s.quietPump.marks.conv = _
    rw [State.quietPump]
    split <;> exact congrArg Marks.conv (State.drain_marks hd)
  · show s.quietPump.writer = _
    rw [State.quietPump_of_keeps (hkeeps.imp_left fun h hn => by rw [hn] at h; cases h), hwriter]
  · show s.quietPump.writer = _
    rw [State.quietPump_of_fills hj hjoin]

theorem retiresFinished_pump (hrun : s.isRunning = true) (hd : ∀ m, (s.group m).SlotsDistinct) (hq : s.Quiet) (m : GroupId) :
    s.RetiresFinished s.pump m (s.group m) := by
  intro q hmem hst
  rw [State.pump_of_quiet hrun hd hq, State.finishStops_group, finishStop_window, State.quietPump_group hd] at hmem
  have hsecond : q.2 = s.drainedEntry m q.1 :=
    List.forall₂_zip (R := fun e f => f = s.drainedEntry m e)
      (List.forall₂_map_right_iff.2 (List.forall₂_same.2 fun _ _ => rfl)) (a := q.1) (b := q.2) hmem
  rw [hsecond]
  by_cases how : s.owesWork m q.1 = false
  · rw [State.drainedEntry, if_pos ⟨hst, how⟩, how]
    simp
  · rw [State.drainedEntry_of_not fun h => how h.2]
    simp [hst, how]

/-- A happening that leads to `s` and leaves the converter and the writer at rest. -/
theorem followsTriggers_pump (hrun : s.isRunning = true) (hd : ∀ m, (s.group m).SlotsDistinct) (hq : s.Quiet) :
    FollowsTriggers s s.pump :=
  ⟨fun m => ⟨(State.pump_drains hd m).1, retiresFinished_pump hrun hd hq m⟩, keepsCaptureWork_pump hrun hd hq⟩

/-- The settling of the outputs and requests changes nothing of this. -/
theorem FollowsTriggers.of_same (h : FollowsTriggers u v) (hgroups : t.groups = v.groups)
    (hqueue : t.captureQueue = v.captureQueue) (hconv : t.converter = v.converter) (hmark : t.marks.conv = v.marks.conv)
    (hwriter : t.writer = { v.writer with write := t.writer.write }) : FollowsTriggers u t := by
  have hgroup : ∀ m, t.group m = v.group m := fun m => congrArg (fun w => w[m]) hgroups
  obtain ⟨hgroups, hq, hc, hm, joined, hjoins, hkeeps, hfills⟩ := h
  refine ⟨fun m => ?_, hqueue.trans hq, hconv.trans hc, hmark.trans hm, joined, hjoins, fun hk => ?_, fun first rest hj hr => ?_⟩
  · rw [State.RetiresFinished, hgroup m]
    exact hgroups m
  · rw [hwriter, hkeeps hk]
  · rw [hwriter, hfills first rest hj hr]

end Follows

end Sys2Proof.Machine
end

section
/-! PROOF. A boundary after which a record is ACTIVE: its capture points trigger, its pairs run on, and the capture path
follows (R60, R84, R89). -/

namespace Sys2Proof.Machine

section Follows

variable {s t u : State} {g m : GroupId}

/-! ## Who produces after the pump -/

theorem Group.hasActive_of_drains {l k : List Entry} (h : List.Forall₂ Entry.DrainsTo l k) :
    (k.any fun e => e.st == .active) = l.any fun e => e.st == .active := by
  induction h with
  | nil => rfl
  | cons h1 _ ih =>
    rw [List.any_cons, List.any_cons, ih]
    rcases h1 with rfl | ⟨hst, rfl⟩
    · rfl
    · rw [hst]; rfl

theorem Group.find?_active_of_drains {l k : List Entry} (h : List.Forall₂ Entry.DrainsTo l k) :
    (k.find? fun e => e.st == .active) = l.find? fun e => e.st == .active := by
  induction h with
  | nil => rfl
  | cons h1 _ ih =>
    rw [List.find?_cons, List.find?_cons, ih]
    rcases h1 with rfl | ⟨hst, rfl⟩
    · rfl
    · rw [hst]; rfl

theorem Group.Drains.forall₂ {x y : Group} (h : Group.Drains x y) : List.Forall₂ Entry.DrainsTo x.window y.window := by
  obtain ⟨-, hlength, hzip, -⟩ := h
  exact List.forall₂_iff_zip.2 ⟨hlength.symm, fun {e f} hef => hzip (e, f) hef⟩

/-- The ACTIVE record goes on. -/
theorem Group.Drains.active? {x y : Group} (h : Group.Drains x y) : y.active? = x.active? :=
  Group.find?_active_of_drains h.forall₂

theorem Group.producing_finishStop (x : Group) : x.finishStop.producing = x.producing := by
  rcases x.finishStop_cases with h | ⟨hst, hretiring, h⟩
  · rw [h]
  · have hno : x.hasActive = false := by
      rw [Group.hasActive, List.any_eq_false]
      intro e he
      rw [hretiring e he]
      decide
    have hno' : x.finishStop.hasActive = false := by
      rw [h]
      exact hno
    rw [Group.producing, Group.producing, hno, hno', Bool.false_and, Bool.false_and]

theorem State.pump_producing (hd : ∀ m, (s.group m).SlotsDistinct) (m : GroupId) :
    (s.pump.group m).producing = (s.group m).producing := by
  cases hrun : s.isRunning with
  | false => rw [State.pump_of_not_running hrun]
  | true =>
    rw [State.pump_of_running hrun, State.finishStops_group, Group.producing_finishStop]
    have hf := (consequences_pumpRounds 8 s).follows hd
    generalize State.pumpRounds 8 s = t at hf
    have hactive : (t.group m).hasActive = (s.group m).hasActive :=
      Group.hasActive_of_drains ((hf.window m).imp fun _ _ h => h.1)
    have hstate : (t.group m).state = (s.group m).state := by rw [hf.group m]
    rw [Group.producing, Group.producing, hactive, hstate]

/-! ## The converter under the triggers -/

theorem State.Quiet.of_same (hq : s.Quiet) (hqueue : t.captureQueue = s.captureQueue) (hconv : t.converter = s.converter)
    (hwriter : t.writer = s.writer) : t.Quiet :=
  ⟨by rw [hconv, hqueue]; exact hq.idle, by rw [hconv, hwriter]; exact hq.holding, by rw [hwriter]; exact hq.free⟩

/-- A trigger's request leaves a converter and a writer at rest (R88, R91). -/
theorem State.Quiet.offerRequest (hq : s.Quiet) (hrun : s.ctrl = .running) (r : Request) : (s.offerRequest r).Quiet := by
  by_cases hroom : s.captureQueue.length < 16
  · by_cases hidle : s.converter.state = .idle
    · rw [State.offerRequest_of_idle _ _ hroom hrun hidle]
      exact ⟨nofun, nofun, hq.free⟩
    · rw [State.offerRequest_of_busy _ _ hroom fun h => hidle h.2]
      exact ⟨fun h => absurd h hidle, hq.holding, hq.free⟩
  · rw [State.offerRequest_of_full _ _ (Nat.not_lt.1 hroom)]
    exact hq.of_same rfl rfl rfl

theorem State.Quiet.triggerPoint (hq : s.Quiet) (hrun : s.ctrl = .running) (g : GroupId) (j : Nat) :
    (s.triggerPoint g j).Quiet := by
  by_cases hp : ∃ e, (s.group g).active? = some e ∧ (s.group g).pointTriggers e.copy j = true
  · obtain ⟨e, ha, hp⟩ := hp
    by_cases hc : Seg.capacity e.copy ≤ e.periodsRun * Seg.pointCount e.copy + j
    · rw [State.triggerPoint_of_full ha hp hc]
      exact hq.of_same rfl rfl rfl
    · rw [State.triggerPoint_of_room ha hp (Nat.not_le.1 hc)]
      exact (hq.of_same (t := s.modEntry ⟨g, e.slot⟩ _) rfl rfl rfl).offerRequest hrun _
  · rw [State.triggerPoint_of_not fun e ha => ?_]
    · exact hq
    · simpa using fun h => hp ⟨e, ha, h⟩

/-- The triggers of a tick leave a converter and a writer at rest. -/
theorem State.Quiet.triggers (hq : s.Quiet) (hrun : s.ctrl = .running) (g : GroupId) : (s.triggers g).Quiet := by
  have hstep : ∀ (j : Nat) {u : State}, u.Quiet ∧ u.ctrl = .running →
      (u.triggerPoint g j).Quiet ∧ (u.triggerPoint g j).ctrl = .running := fun j u ⟨hu, hr⟩ =>
    ⟨hu.triggerPoint hr g j, (State.ctrl_of_fixed (u.fixed_triggerPoint g j)).trans hr⟩
  rw [State.triggers_eq]
  exact (hstep 3 (hstep 2 (hstep 1 (hstep 0 ⟨hq, hrun⟩)))).1

theorem CountsAt.slotsDistinct {slot : Nat} (h : CountsAt g slot s t) (hd : ∀ m, (s.group m).SlotsDistinct) (m : GroupId) :
    (t.group m).SlotsDistinct := by
  by_cases hm : m = g
  · subst hm
    have hslots : (t.group m).window.map Entry.slot = (s.group m).window.map Entry.slot := by
      have hw := h.window
      generalize (t.group m).window = k at hw
      generalize (s.group m).window = l at hw
      induction hw with
      | nil => rfl
      | cons h1 _ ih => rw [List.map_cons, List.map_cons, ih, Entry.slot_of_uncounted h1.1]
    rw [Group.SlotsDistinct, hslots]
    exact hd m
  · rw [h.others m hm]
    exact hd m

theorem setGroup_slotsDistinct {y : Group} (hd : ∀ m, (s.group m).SlotsDistinct) (hy : y.SlotsDistinct) (m : GroupId) :
    ((s.setGroup g y).group m).SlotsDistinct := by
  by_cases hm : m = g
  · rw [hm, State.group_setGroup_same]
    exact hy
  · rw [State.group_setGroup_ne s y hm]
    exact hd m

/-! ## The boundary -/

theorem exec_periodBoundary {e : Entry} (hdue : s.tickDue g = true) (hb : (s.group g).atBoundary = true)
    (ha : (s.group g).active? = some e) :
    exec (.periodBoundary g) s = .next ((((s.markTick g).boundary g e).afterBoundary g).pump).settle := by
  show happen (s.tickDue g && (s.group g).atBoundary) s (s.periodBoundary g) = _
  rw [hdue, hb, State.periodBoundary, ha]
  rfl

/-- A boundary after which group `g` stands as `y`, with a record that is ACTIVE. -/
structure BeginsAt (s : State) (g : GroupId) (y : Group) (n : Entry) : Prop where
  slots : y.SlotsDistinct
  active : y.active? = some n
  state : y.state = .running ∨ y.state = .stopping
  counter : y.counter = 0
  queue : y.queue = (s.group g).queue

/-- The groups and the capture path at the end of such a boundary's triggers, over the rest of the state. -/
theorem afterBoundary_eq {y : Group} {n : Entry} {tokens : Vector Nat 16} {v : State} (hy : BeginsAt s g y n)
    (hv : v = { s.setGroup g y with tokens := tokens, marks := { s.marks with group := s.marks.group.set g true } }) :
    v.afterBoundary g = ((s.setGroup g y).triggers g).pathOver
      { (s.setGroup g y).tickOutputs g with
        tokens := tokens, marks := { s.marks with group := s.marks.group.set g true } } := by
  have hgroup : v.group g = y := by rw [hv]; exact State.group_setGroup_same ..
  have hprod : (v.group g).producing = true := by rw [hgroup]; exact Group.producing_of_active? hy.active hy.state
  rw [State.afterBoundary, if_pos hprod, ← State.pathOver_triggers (by exact rfl), hv]
  rfl

theorem FollowsTriggers.settle {v : State} (h : FollowsTriggers u v) : FollowsTriggers u v.settle :=
  h.of_same rfl rfl rfl rfl rfl

theorem followsTriggers_pathOver {r : State} (hrun : r.ctrl = .running) (hd : ∀ m, (u.group m).SlotsDistinct) (hq : u.Quiet) :
    FollowsTriggers u (u.pathOver r).pump.settle := by
  have hr : (u.pathOver r).isRunning = true := by
    show (r.ctrl == .running) = true
    rw [hrun]
    rfl
  have h := (followsTriggers_pump hr (by exact hd) (hq.of_same (t := u.pathOver r) rfl rfl rfl)).settle
  generalize (u.pathOver r).pump.settle = t at h
  exact h

/-- The pump moves the groups and the capture path alone. -/
theorem pump_frame {v : State} (hs : Settled s) (hf : v.fixed = s.fixed) (hsets : v.sets = s.sets) :
    SameExcept (everyGroup ++ [.pairs, .tokens, .captureQueue, .converter, .resultWriter, .requests, .groupTicks]) s
      v.pump.settle := by
  refine frame_of_fixed hs (v.fixed_pump.trans hf) _ (fun m hm => ?_) ?_ ?_ ?_ ?_ ?_ ?_ ?_ ?_
  · refine absurd ?_ hm
    fin_cases m <;> simp
  · exact fun h => absurd h (by simp)
  · exact fun h => absurd h (by simp)
  · exact fun _ => v.sets_pump.trans hsets
  · exact fun h => absurd h (by simp)
  · exact fun h => absurd h (by simp)
  · exact fun h => absurd h (by simp)
  · exact fun h => absurd h (by simp)
  · exact fun h => absurd h (by simp)

theorem pump_ticks (v : State) : v.pump.settle.marks.group = v.marks.group := v.ticks_pump

/-- What a boundary shows whose triggers lead to `u`. -/
theorem begins_of_pump {y : Group} {n : Entry} {tokens : Vector Nat 16} (hs : Settled s) (hring : RingLaw s)
    (hdue : s.tickDue g = true) (hy : BeginsAt s g y n) (hcounts : CountsAt g n.slot (s.setGroup g y) u) (hquiet : u.Quiet)
    {t : State}
    (ht : t = (u.pathOver { (s.setGroup g y).tickOutputs g with
        tokens := tokens, marks := { s.marks with group := s.marks.group.set g true } }).pump.settle) :
    t.tokens = tokens ∧ FollowsTriggers u t ∧ TakesTick s t g
      ∧ (t.group g).active? = (u.group g).active?
      ∧ PairsOfGroup s t g (RunsOn s t g n.copy 0)
      ∧ SameExcept
          (everyGroup ++ [.pairs, .tokens, .captureQueue, .converter, .resultWriter, .requests, .groupTicks]) s t := by
  have hrun : s.ctrl = .running := State.tickDue_running hdue
  have hgroup : (s.setGroup g y).group g = y := State.group_setGroup_same ..
  have hslots := hcounts.slotsDistinct (setGroup_slotsDistinct (fun m => (hring m).slotsDistinct) hy.slots)
  generalize hr : ({ (s.setGroup g y).tickOutputs g with
      tokens := tokens, marks := { s.marks with group := s.marks.group.set g true } } : State) = r at ht
  have hfixed : r.fixed = s.fixed := by rw [← hr]; rfl
  have hpairs : r.pairs = ((s.setGroup g y).tickOutputs g).pairs := by rw [← hr]
  have htokens : r.tokens = tokens := by rw [← hr]
  have hsets : r.sets = s.sets := by rw [← hr]; rfl
  have hmark : r.marks.group = s.marks.group.set g true := by rw [← hr]
  have hctrl : r.ctrl = .running := (State.ctrl_of_fixed hfixed).trans hrun
  have hfollows := followsTriggers_pathOver hctrl hslots hquiet
  have hproducing := State.pump_producing (s := u.pathOver r) hslots
  rw [← ht] at hfollows
  refine ⟨?_, hfollows, ?_, (hfollows.1 g).1.active?, ?_, ?_⟩
  · rw [ht]; exact (u.pathOver r).tokens_pump.trans htokens
  · rw [ht]; exact (pump_ticks (u.pathOver r)).trans hmark
  · rw [ht]
    refine pairsOfGroup_of_outputs hs ((u.pathOver r).fixed_pump.trans hfixed) hrun (fun m hm => ?_) ?_
      (f := fun p => (s.pair p).tick (decide (0 < Seg.duty n.copy (s.rank g p)))) (fun p => PairUnit.tick_group _ _) (fun p => ?_)
      fun p hp => runsOn_of_tick rfl hp
    · rw [hproducing m]
      exact congrArg Group.producing ((hcounts.others m hm).trans (State.group_setGroup_ne s y hm))
    · rw [hproducing g]
      refine (hcounts.producing g).trans ?_
      rw [hgroup]
      exact Group.producing_of_active? hy.active hy.state
    · have hp : (u.pathOver r).pump.pairs = ((s.setGroup g y).tickOutputs g).pairs := (u.pathOver r).pairs_pump.trans hpairs
      rw [State.pair_of_pairs hp, State.tickOutputs_pair, State.rawCompare_of_active (e := n) (by rw [hgroup]; exact hy.active),
        hgroup, hy.counter]
      rfl
  · rw [ht]
    exact pump_frame hs (by exact hfixed) (by exact hsets)

theorem periodBoundary_begins {e n : Entry} {y : Group} {tokens : Vector Nat 16} (hB : BoundaryOf s g e)
    (hy : BeginsAt s g y n)
    (hv : (s.markTick g).boundary g e =
      { s.setGroup g y with tokens := tokens, marks := { s.marks with group := s.marks.group.set g true } }) :
    ∃ t, exec (.periodBoundary g) s = .next t ∧ t.tokens = tokens
      ∧ FollowsTriggers ((s.setGroup g y).triggers g) t ∧ TakesTick s t g
      ∧ (∃ f, (t.group g).active? = some f ∧ f.slot = n.slot ∧ f.copy = n.copy ∧ f.status = n.status
        ∧ f.periodsRun = n.periodsRun ∧ f.extensionPeriods = n.extensionPeriods
        ∧ f.flags.tokenSaturated = n.flags.tokenSaturated ∧ f.flags.extended = n.flags.extended)
      ∧ PairsOfGroup s t g (RunsOn s t g n.copy 0)
      ∧ SameExcept
          (everyGroup ++ [.pairs, .tokens, .captureQueue, .converter, .resultWriter, .requests, .groupTicks]) s t := by
  obtain ⟨hs, hring, -, hcapture, -, hdue, hb, ha⟩ := hB
  have hexec := exec_periodBoundary hdue hb ha
  rw [afterBoundary_eq hy hv] at hexec
  have hactive : ((s.setGroup g y).group g).active? = some n := by
    rw [State.group_setGroup_same]
    exact hy.active
  have hrun : (s.setGroup g y).ctrl = .running := State.tickDue_running (s := s) hdue
  obtain ⟨f, hf, hfields⟩ := active_of_triggers hactive
  obtain ⟨htokens, hfollows, hmark, hfound, hpairs, hframe⟩ := begins_of_pump (tokens := tokens) hs hring hdue hy
    (triggers_countsAt hactive)
    ((hcapture.quiet.of_same (t := s.setGroup g y) rfl rfl rfl).triggers hrun g) rfl
  exact ⟨_, hexec, htokens, hfollows, hmark, ⟨f, hfound.trans hf, hfields⟩, hpairs, hframe⟩

end Follows

end Sys2Proof.Machine
end

section
/-! PROOF. The boundaries at which a record goes on, extends or holds (R29, R31). -/

namespace Sys2Proof.Machine

section Period

variable {s : State} {g : GroupId} {x : Group} {e n : Entry}

/-! ## The record at the boundary -/

/-- A record with its period counted (R29). -/
abbrev Entry.counted (e : Entry) : Entry := { e with periodsRun := satSucc32 e.periodsRun }

/-- A group with the period of the record of a slot counted, and its counter at 0 (R29, R48). -/
def Group.countPeriod (slot : Nat) (x : Group) : Group := (x.modSlot slot Entry.counted).holdCounter

/-- The group has the one ACTIVE record `e`. -/
structure Group.RunsOne (x : Group) (e : Entry) : Prop where
  slots : x.SlotsDistinct
  active : x.active? = some e
  alone : ∀ f ∈ x.window, f.st = .active → f = e

theorem Group.RunsOne.mem (h : x.RunsOne e) : e ∈ x.window := List.mem_of_find?_eq_some h.active

theorem Group.RunsOne.st (h : x.RunsOne e) : e.st = .active := by simpa using List.find?_some h.active

theorem Group.alone_of_activeCount (h : x.activeCount ≤ 1) (ha : x.active? = some e) :
    ∀ f ∈ x.window, f.st = .active → f = e := by
  intro f hf hst
  have hmem : ∀ d, d ∈ x.window.filter (fun e => e.st == .active) ↔ d ∈ x.window ∧ d.st = .active := fun d => by simp
  have hf' := (hmem f).2 ⟨hf, hst⟩
  have he' := (hmem e).2 ⟨List.mem_of_find?_eq_some ha, by simpa using List.find?_some ha⟩
  unfold Group.activeCount at h
  generalize x.window.filter (fun e => e.st == .active) = l at h hf' he'
  cases l with
  | nil => cases hf'
  | cons d l =>
    obtain rfl : l = [] := List.length_eq_zero_iff.1 (by simpa using h)
    rw [List.mem_singleton.1 hf', List.mem_singleton.1 he']

theorem BoundaryOf.runsOne (h : BoundaryOf s g e) : (s.group g).RunsOne e := by
  obtain ⟨hone, hle, -⟩ := h.active g
  refine ⟨(h.rings g).slotsDistinct, h.record, Group.alone_of_activeCount ?_ h.record⟩
  rcases Group.running_of_atBoundary h.boundary with hr | hr
  · exact (hone hr).le
  · exact hle hr

/-- The one ACTIVE entry of a window is found. -/
theorem Group.active?_of_alone (hn : n ∈ x.window) (hst : n.st = .active) (h : ∀ f ∈ x.window, f.st = .active → f = n) :
    x.active? = some n := by
  cases hf : x.active? with
  | none => exact absurd hst (by simpa using List.find?_eq_none.1 hf n hn)
  | some f =>
    rw [h f (List.mem_of_find?_eq_some hf) (by simpa using List.find?_some hf)]

/-- The next record is not changed by what leaves the states of the entries and the waiting ones. -/
theorem Group.next?_of_map {y : Group} {f : Entry → Entry} (hw : y.window = x.window.map f) (hst : ∀ e, (f e).st = e.st)
    (hf : ∀ e ∈ x.window, e.isWaiting = true → f e = e) : y.next? = x.next? := by
  have hfind : y.window.find? Entry.isWaiting = x.window.find? Entry.isWaiting := by
    have hsame : Entry.isWaiting ∘ f = Entry.isWaiting := funext fun e => by simp [Entry.isWaiting, hst]
    rw [hw, List.find?_map, hsame]
    cases h : x.window.find? Entry.isWaiting with
    | none => rfl
    | some e => rw [Option.map_some, hf e (List.mem_of_find?_eq_some h) (List.find?_some h)]
  rw [Group.next?, Group.next?, hfind]

theorem Entry.not_waiting_of_active (h : e.st = .active) : e.isWaiting = false := by
  rw [Entry.isWaiting, h]
  decide

theorem Group.countPeriod_next? (h : x.RunsOne e) : (x.countPeriod e.slot).next? = x.next? := by
  refine Group.next?_of_map (f := fun f => if f.slot == e.slot then f.counted else f) rfl (fun f => ?_) fun f hf hw => ?_
  · split <;> rfl
  · refine if_neg fun hslot => ?_
    rw [h.slots.eq hf h.mem (by simpa using hslot), Entry.not_waiting_of_active h.st] at hw
    cases hw

/-! ## The decision -/

/-- The state at a boundary once the period of its record is counted. -/
def State.atPeriodEnd (s : State) (g : GroupId) (e : Entry) : State := (s.markTick g).modGroup g (Group.countPeriod e.slot)

theorem atPeriodEnd_group : (s.atPeriodEnd g e).group g = (s.group g).countPeriod e.slot := State.group_modGroup_same ..

theorem atPeriodEnd_next? (h : BoundaryOf s g e) : ((s.atPeriodEnd g e).group g).next? = (s.group g).next? := by
  rw [atPeriodEnd_group, Group.countPeriod_next? h.runsOne]

theorem boundary_of_running (hst : (s.group g).state = .running) :
    (s.markTick g).boundary g e = (s.atPeriodEnd g e).runningBoundary g e.counted := by
  have hno : ((s.atPeriodEnd g e).group g).state ≠ .stopping := by
    rw [atPeriodEnd_group]
    show (s.group g).state ≠ _
    rw [hst]
    nofun
  exact if_neg fun h => hno (beq_iff_eq.1 h)

theorem boundary_of_stopping (hst : (s.group g).state = .stopping) :
    (s.markTick g).boundary g e = (s.atPeriodEnd g e).stoppingBoundary g e.counted := by
  have hyes : ((s.atPeriodEnd g e).group g).state = .stopping := by
    rw [atPeriodEnd_group]
    exact hst
  exact if_pos (beq_iff_eq.2 hyes)

/-- A record with repeats left goes on, as does one that holds without a READY successor (R29, R31). -/
theorem runningBoundary_of_stays {u : State}
    (h : (Seg.hold e.copy = false ∧ e.periodsRun < Seg.repeats e.copy)
      ∨ (Seg.hold e.copy = true ∧ ∀ n, (u.group g).next? = some n → n.st ≠ .ready)) : u.runningBoundary g e = u := by
  unfold State.runningBoundary
  cases hn : (u.group g).next? with
  | none =>
    refine if_pos ?_
    rcases h with ⟨-, hlt⟩ | ⟨hhold, -⟩
    · simp [hlt]
    · simp [hhold]
  | some n =>
    dsimp only
    rcases h with ⟨hhold, hlt⟩ | ⟨hhold, hno⟩
    · by_cases hr : n.st = .ready
      · rw [if_pos (by simpa using hr), if_neg (by simp [hhold]), if_pos hlt]
      · rw [if_neg (by simpa using hr), if_pos (by simp [hlt])]
    · rw [if_neg (by simpa using hno n hn), if_pos (by simp [hhold])]

theorem takeover_of_refused {u : State}
    (h : runParts u.tokens (endParts e.copy ++ claimParts n.copy ++ startParts n.copy) = none) : u.takeover g e n = none := by
  unfold State.takeover
  dsimp only
  rw [h]

/-- A HOLD record whose successor's claim is refused holds (R31). -/
theorem runningBoundary_of_holds {u : State} (hn : (u.group g).next? = some n) (hr : n.st = .ready)
    (hhold : Seg.hold e.copy = true) (htake : u.takeover g e n = none) : u.runningBoundary g e = u := by
  unfold State.runningBoundary
  rw [hn]
  dsimp only
  rw [if_pos (by simpa using hr), if_pos hhold, htake]
  rfl

/-- Another record whose successor's claim is refused is extended (R31). -/
theorem runningBoundary_of_extends {u : State} (hn : (u.group g).next? = some n) (hr : n.st = .ready)
    (hhold : Seg.hold e.copy = false) (hle : Seg.repeats e.copy ≤ e.periodsRun) (htake : u.takeover g e n = none) :
    u.runningBoundary g e = u.modEntry (e.ref g) Entry.extend := by
  unfold State.runningBoundary
  rw [hn]
  dsimp only
  rw [if_pos (by simpa using hr), if_neg (by simp [hhold]), if_neg (Nat.not_lt.2 hle), htake]
  rfl

/-! ## The record that goes on -/

/-- A record that goes on at a boundary (R29, R31). -/
abbrev Entry.goneOn (extensions : Nat) (extended : Bool) (f : Entry) : Entry :=
  { f with
    periodsRun := satSucc32 f.periodsRun, extensionPeriods := extensions
    flags := { f.flags with extended := extended } }

/-- A group whose record goes on. -/
def Group.goneOn (e : Entry) (extensions : Nat) (extended : Bool) (x : Group) : Group :=
  { x with
    counter := 0, slope := .up
    window := x.window.map fun f => if f.slot = e.slot then
      { f with
        periodsRun := satSucc32 e.periodsRun, extensionPeriods := extensions
        flags := { f.flags with extended := extended } }
      else f }

theorem Group.map_slot_congr (h : x.RunsOne e) {f f' : Entry → Entry} (hf : f e = f' e) :
    (x.window.map fun d => if d.slot == e.slot then f d else d) = x.window.map fun d => if d.slot = e.slot then f' d else d := by
  refine List.map_congr_left fun d hd => ?_
  by_cases hslot : d.slot = e.slot
  · rw [if_pos (by simpa using hslot), if_pos hslot, h.slots.eq hd h.mem hslot, hf]
  · rw [if_neg (by simpa using hslot), if_neg hslot]

theorem Group.countPeriod_eq (h : x.RunsOne e) :
    x.countPeriod e.slot = x.goneOn e e.extensionPeriods e.flags.extended := by
  unfold Group.goneOn
  rw [← Group.map_slot_congr h (f := Entry.counted) (by rfl)]
  rfl

theorem Group.extend_eq (h : x.RunsOne e) :
    (x.countPeriod e.slot).modSlot e.slot Entry.extend = x.goneOn e (satSucc32 e.extensionPeriods) true := by
  unfold Group.goneOn
  rw [← Group.map_slot_congr h (f := fun d => d.counted.extend) (by rfl)]
  show { x with counter := 0, slope := .up, window := (List.map _ (List.map _ x.window)) } = _
  rw [List.map_map]
  congr 1
  refine List.map_congr_left fun d _ => ?_
  rw [Function.comp_apply]
  by_cases hslot : d.slot = e.slot
  · simp [hslot]
  · simp [hslot]

theorem Group.goneOn_begins (h : (s.group g).RunsOne e) (hst : (s.group g).state = .running ∨ (s.group g).state = .stopping)
    (extensions : Nat) (extended : Bool) :
    BeginsAt s g ((s.group g).goneOn e extensions extended) (e.goneOn extensions extended) := by
  have hmem : e.goneOn extensions extended ∈ ((s.group g).goneOn e extensions extended).window :=
    List.mem_map.2 ⟨e, h.mem, if_pos rfl⟩
  refine ⟨?_, Group.active?_of_alone hmem h.st fun f hf hact => ?_, hst, rfl, rfl⟩
  · rw [Group.SlotsDistinct, Group.goneOn, List.map_map]
    convert h.slots using 2
    funext f
    rw [Function.comp_apply]
    split <;> rfl
  · obtain ⟨d, hd, rfl⟩ := List.mem_map.1 hf
    have hd' : d = e := h.alone d hd (by rw [← hact]; split <;> rfl)
    rw [hd', if_pos rfl]

/-- What a boundary shows at which the record goes on. -/
theorem goesOn_of_boundary (hB : BoundaryOf s g e) (hst : (s.group g).state = .running ∨ (s.group g).state = .stopping)
    {extensions : Nat} {extended : Bool}
    (hv : (s.markTick g).boundary g e = (s.markTick g).modGroup g fun _ => (s.group g).goneOn e extensions extended) :
    ∃ t, exec (.periodBoundary g) s = .next t
      ∧ FollowsTriggers ((s.setGroup g ((s.group g).goneOn e extensions extended)).triggers g) t ∧ TakesTick s t g
      ∧ (∃ e', (t.group g).active? = some e' ∧ e'.slot = e.slot ∧ e'.copy = e.copy ∧ e'.status = e.status
        ∧ e'.periodsRun = satSucc32 e.periodsRun ∧ e'.extensionPeriods = extensions ∧ e'.flags.extended = extended)
      ∧ PairsOfGroup s t g (RunsOn s t g e.copy 0)
      ∧ SameExcept (everyGroup ++ [.pairs, .captureQueue, .converter, .resultWriter, .requests, .groupTicks]) s t := by
  have hbegins := Group.goneOn_begins hB.runsOne hst extensions extended
  generalize (s.group g).goneOn e extensions extended = y at hv hbegins ⊢
  have hv' : (s.markTick g).boundary g e =
      { s.setGroup g y with tokens := s.tokens, marks := { s.marks with group := s.marks.group.set g true } } := by
    rw [hv]
    rfl
  obtain ⟨t, hexec, htokens, hfollows, htick, ⟨f, hf, hslot, hcopy, hstatus, hperiods, hext, -, hextended⟩, hpairs, hframe⟩ :=
    periodBoundary_begins hB hbegins hv'
  refine ⟨t, hexec, hfollows, htick, ⟨f, hf, hslot, hcopy, hstatus, hperiods, hext, hextended⟩, hpairs, fun b hb => ?_⟩
  by_cases hbt : b = .tokens
  · rw [hbt]
    exact htokens
  · refine hframe b fun h => hb ?_
    simp only [List.mem_append, List.mem_cons, List.not_mem_nil, or_false] at h ⊢
    simpa [hbt] using h

/-- Settles O37: the record goes on, holds or extends, and the rest of the boundary follows. -/
theorem boundaryGoesOnOrExtends : Obligations.BoundaryGoesOnOrExtends := by
  unfold Obligations.BoundaryGoesOnOrExtends
  intro s g e hB hst x periods goesOn
  have hone := hB.runsOne
  have hnext := atPeriodEnd_next? hB
  have hstays : ∀ {extensions extended}, (s.atPeriodEnd g e).runningBoundary g e.counted =
      (s.markTick g).modGroup g (fun _ => x.goneOn e extensions extended) → goesOn extensions extended := fun {extensions extended} h => by
    obtain ⟨t, hexec, hfollows, hrest⟩ := goesOn_of_boundary hB (.inl hst) ((boundary_of_running hst).trans h)
    show ∃ t, _ ∧ _
    refine ⟨t, hexec, ?_, hrest⟩
    rw [Group.goneOn] at hfollows
    with_reducible exact hfollows
  clear_value goesOn
  have hsame : s.atPeriodEnd g e = (s.markTick g).modGroup g fun _ => x.goneOn e e.extensionPeriods e.flags.extended := by
    rw [← Group.countPeriod_eq hone]
    rfl
  have hnone : ∀ {n : Entry}, runParts s.tokens (endParts e.copy ++ claimParts n.copy ++ startParts n.copy) = none →
      (s.atPeriodEnd g e).takeover g e.counted n = none := fun h => takeover_of_refused (u := s.atPeriodEnd g e) h
  refine ⟨fun h => hstays ((runningBoundary_of_stays ?_).trans hsame), fun n hn hr hrefused => ⟨fun hhold => ?_, fun hhold hle => ?_⟩⟩
  · exact h.imp_right fun ⟨hhold, hno⟩ => ⟨hhold, hnext ▸ hno⟩
  · exact hstays ((runningBoundary_of_holds (e := e.counted) (hnext.trans hn) hr hhold (hnone hrefused)).trans hsame)
  · refine hstays ((runningBoundary_of_extends (e := e.counted) (hnext.trans hn) hr hhold hle (hnone hrefused)).trans ?_)
    rw [← Group.extend_eq hone]
    exact State.modGroup_modGroup (s.markTick g) g (Group.countPeriod e.slot) (Group.modSlot e.slot Entry.extend)

end Period

end Sys2Proof.Machine
end

section
/-! PROOF. The boundary at which the next record takes over (R30). -/

namespace Sys2Proof.Machine

section Takeover

variable {s : State} {g : GroupId} {x : Group} {e n : Entry}

/-- The record that ends at a takeover (R30, R68). -/
abbrev Entry.overtaken (saturated : Bool) (f : Entry) : Entry :=
  { f with
    st := .draining, status := some .ok, periodsRun := satSucc32 f.periodsRun
    flags := { f.flags with tokenSaturated := f.flags.tokenSaturated || saturated } }

/-- A group in which `n` takes over from `e`. -/
def Group.takenOver (e n : Entry) (endSat startSat : Bool) (x : Group) : Group :=
  { x with
    counter := 0, slope := .up
    window := x.window.map fun f =>
      if f.slot = e.slot then
        { f with
          st := .draining, status := some .ok, periodsRun := satSucc32 e.periodsRun
          flags := { f.flags with tokenSaturated := f.flags.tokenSaturated || endSat } }
      else if f.slot = n.slot then
        { f with
          st := .active
          flags := { f.flags with tokenSaturated := f.flags.tokenSaturated || startSat } }
      else f }

theorem Group.RunsOne.slot_ne (h : x.RunsOne e) (hn : n ∈ x.window) (hst : n.st ≠ .active) : n.slot ≠ e.slot :=
  fun hslot => hst (h.slots.eq hn h.mem hslot ▸ h.st)

theorem Group.takenOver_eq (h : x.RunsOne e) (hn : n ∈ x.window) (hst : n.st ≠ .active) (hrun : x.state = .running)
    (endSat startSat : Bool) :
    (((x.countPeriod e.slot).endActive .ok).modSlot e.slot (Entry.saturate endSat)).beginRecord n.slot startSat =
      x.takenOver e n endSat startSat := by
  have hne := h.slot_ne hn hst
  show { x with
    state := .running, counter := 0, slope := .up
    window := List.map _ (List.map _ (List.map _ (List.map _ x.window))) } = _
  rw [List.map_map, List.map_map, List.map_map, Group.takenOver, hrun]
  congr 1
  refine List.map_congr_left fun d hd => ?_
  simp only [Function.comp_apply, beq_iff_eq]
  by_cases hslot : d.slot = e.slot
  · rw [h.slots.eq hd h.mem hslot]
    simp [h.st, hne.symm, Entry.saturate]
  · by_cases hslot' : d.slot = n.slot
    · rw [h.slots.eq hd hn hslot']
      simp [hst, hne, Entry.activate, Entry.saturate]
    · have hact : d.st ≠ .active := fun ha => hslot (congrArg Entry.slot (h.alone d hd ha))
      simp [hslot, hslot', hact]

theorem Group.takenOver_begins (h : (s.group g).RunsOne e) (hn : n ∈ (s.group g).window) (hst : n.st ≠ .active)
    (hrun : (s.group g).state = .running) (endSat startSat : Bool) :
    BeginsAt s g ((s.group g).takenOver e n endSat startSat)
      { n with st := .active, flags := { n.flags with tokenSaturated := n.flags.tokenSaturated || startSat } } := by
  have hne := h.slot_ne hn hst
  refine ⟨?_, Group.active?_of_alone (List.mem_map.2 ⟨n, hn, ?_⟩) rfl fun f hf hact => ?_, .inl hrun, rfl, rfl⟩
  · rw [Group.SlotsDistinct, Group.takenOver, List.map_map]
    convert h.slots using 2
    funext f
    rw [Function.comp_apply]
    split
    · rfl
    · split <;> rfl
  · rw [if_neg hne, if_pos rfl]
  · obtain ⟨d, hd, rfl⟩ := List.mem_map.1 hf
    split at hact
    · cases hact
    · next hslot =>
      by_cases hslot' : d.slot = n.slot
      · rw [if_neg hslot, if_pos hslot', h.slots.eq hd hn hslot']
      · rw [if_neg hslot'] at hact
        exact absurd (congrArg Entry.slot (h.alone d hd hact)) hslot

/-- A granted request (R30). -/
theorem takeover_of_granted {u : State} {tokens : Vector Nat 16} {sats : List Bool}
    (h : runParts u.tokens (endParts e.copy ++ claimParts n.copy ++ startParts n.copy) = some (tokens, sats)) :
    u.takeover g e n = some ({ u with tokens := tokens }.modGroup g fun x =>
      ((x.endActive .ok).modSlot e.slot (Entry.saturate ((sats.take (endParts e.copy).length).any id))).beginRecord n.slot
        ((sats.drop ((endParts e.copy).length + (claimParts n.copy).length)).any id)) := by
  unfold State.takeover
  dsimp only
  rw [h]
  dsimp only
  rw [State.modEntry, show (e.ref g).group = g from rfl, State.modGroup_modGroup, State.modGroup_modGroup]
  rfl

theorem runningBoundary_of_taken {u v : State} (hn : (u.group g).next? = some n) (hr : n.st = .ready)
    (hle : Seg.hold e.copy = false → Seg.repeats e.copy ≤ e.periodsRun) (htake : u.takeover g e n = some v) :
    u.runningBoundary g e = v := by
  unfold State.runningBoundary
  rw [hn]
  dsimp only
  rw [if_pos (by simpa using hr), htake]
  cases hhold : Seg.hold e.copy with
  | true => rfl
  | false => rw [if_neg (by decide), if_neg (Nat.not_lt.2 (hle hhold))]; rfl

theorem List.exists_zip_of_mem {α β : Type} {l : List α} {k : List β} (hlength : k.length = l.length) {a : α} (ha : a ∈ l) :
    ∃ b ∈ k, (a, b) ∈ l.zip k := by
  obtain ⟨i, hi, rfl⟩ := List.getElem_of_mem ha
  have hi' : i < k.length := by rw [hlength]; exact hi
  refine ⟨k[i], List.getElem_mem _, ?_⟩
  rw [← List.getElem_zip (h := by simpa using ⟨hi, hi'⟩)]
  exact List.getElem_mem _

/-- What a happening leaves of a DRAINING record of the state it leads to (R13). -/
theorem FollowsTriggers.mem_of_draining {u t : State} (h : FollowsTriggers u t) {f : Entry} (hf : f ∈ (u.group g).window)
    (hst : f.st = .draining) :
    { f with st := if u.owesWork g f then EntryState.draining else EntryState.retiring } ∈ (t.group g).window := by
  obtain ⟨⟨-, hlength, hzip, -⟩, hfinished⟩ := h.1 g
  obtain ⟨f', hf', hmem⟩ := List.exists_zip_of_mem hlength hf
  have hiff : f'.st = .draining ↔ u.owesWork g f = true := hfinished _ hmem hst
  have hto : f' = f ∨ (f.st = .draining ∧ f' = { f with st := .retiring }) := hzip _ hmem
  have hsame : f' = { f with st := if u.owesWork g f then EntryState.draining else EntryState.retiring } := by
    rcases hto with rfl | ⟨-, rfl⟩
    · rw [if_pos (hiff.1 hst), ← hst]
    · rw [if_neg fun how => EntryState.noConfusion (hiff.2 how)]
  exact hsame ▸ hf'

/-- The triggers of the ACTIVE record leave every other record as it is. -/
theorem mem_triggers_of_other {v : State} (ha : (v.group g).active? = some n) {f : Entry} (hf : f ∈ (v.group g).window)
    (hne : f.slot ≠ n.slot) : f ∈ ((v.triggers g).group g).window :=
  mem_of_countedAt (triggers_countsAt ha).window hf hne

/-- Settles O38: the next record becomes ACTIVE under the parts of its request, and the rest of the boundary follows. -/
theorem boundaryTakesOver : Obligations.BoundaryTakesOver := by
  unfold Obligations.BoundaryTakesOver
  intro s g e n tokens sats hB hst hn hr hle hgranted x endSaturated startSaturated u
  have hone := hB.runsOne
  have hnext := atPeriodEnd_next? hB
  have hmem := Group.next?_mem hn
  have hnact : n.st ≠ .active := by rw [hr]; nofun
  have hu : u = (s.setGroup g (x.takenOver e n endSaturated startSaturated)).triggers g := by
    rw [Group.takenOver]
  clear_value u
  have htake := takeover_of_granted (g := g) (u := s.atPeriodEnd g e) (e := e.counted) hgranted
  have hv : (s.markTick g).boundary g e = { s.setGroup g (x.takenOver e n endSaturated startSaturated) with
      tokens := tokens, marks := { s.marks with group := s.marks.group.set g true } } := by
    rw [boundary_of_running hst, runningBoundary_of_taken (hnext.trans hn) hr hle htake,
      ← Group.takenOver_eq hone hmem hnact hst]
    exact State.modGroup_modGroup { s.markTick g with tokens := tokens } g (Group.countPeriod e.slot) _
  have hbegins := Group.takenOver_begins hone hmem hnact hst endSaturated startSaturated
  have hended : e.overtaken endSaturated ∈ (x.takenOver e n endSaturated startSaturated).window :=
    List.mem_map.2 ⟨e, hone.mem, if_pos rfl⟩
  have hdraining : e.overtaken endSaturated ∈ (u.group g).window := by
    have hfound := hbegins.active
    rw [← State.group_setGroup_same s g (x.takenOver e n endSaturated startSaturated)] at hfound hended
    rw [hu]
    exact mem_triggers_of_other hfound hended (hone.slot_ne hmem hnact).symm
  generalize x.takenOver e n endSaturated startSaturated = y at hu hv hbegins
  have hboundary := periodBoundary_begins hB hbegins hv
  rw [← hu] at hboundary
  obtain ⟨t, hexec, htokens, hfollows, htick, ⟨f, hf, hslot, hcopy, -, hperiods, hext, hsat, -⟩, hpairs, hframe⟩ := hboundary
  exact ⟨t, hexec, htokens, hfollows, htick, ⟨f, hf, hslot, hcopy, hperiods, hext, hsat⟩,
    ⟨_, hfollows.mem_of_draining hdraining rfl, rfl⟩, hpairs, hframe⟩

end Takeover

end Sys2Proof.Machine
end

section
/-! PROOF. The boundaries at which a record ends: its AT_END post, the window it leaves, and its pairs, which leave the
waveform (R32, R38, R55). -/

namespace Sys2Proof.Machine

section Endings

variable {s u : State} {g : GroupId} {x : Group} {e n : Entry}

/-! ## The AT_END post -/

theorem endPost_eq (u : State) (g : GroupId) (e : Entry) :
    u.endPost g e = { u with tokens := tokensAfterEndPost u e.copy }.modEntry (e.ref g)
      (Entry.saturate (endPostSaturates u e.copy)) := by
  unfold State.endPost tokensAfterEndPost endPostSaturates
  cases hpost : Seg.postsAtEnd e.copy with
  | true =>
    have hparts : endParts e.copy = [.post (tokenNamed (Seg.postToken e.copy)) (Seg.postAdd e.copy)] := by
      rw [endParts, if_pos hpost]
    rw [hparts, runParts_post]
    simp only [runParts, Option.map_some, if_true, Bool.true_and, List.any_cons, List.any_nil, Bool.or_false, id]
    rfl
  | false =>
    have hparts : endParts e.copy = [] := by rw [endParts, hpost]; rfl
    rw [hparts]
    simp only [runParts, List.any_nil, Bool.false_and, Bool.false_eq_true, if_false]

/-! ## The record that ends -/

/-- The record `e` at the end of its run (R32, R38). -/
abbrev Entry.ended (status : SegStatus) (saturated : Bool) (e : Entry) : Entry :=
  { e with
    st := .draining, status := some status, periodsRun := satSucc32 e.periodsRun
    flags := { e.flags with tokenSaturated := e.flags.tokenSaturated || saturated } }

/-- A group whose record `e` has ended. -/
def Group.ended (e : Entry) (status : SegStatus) (saturated : Bool) (x : Group) : Group :=
  { x with
    counter := 0, slope := .up
    window := x.window.map fun f => if f.slot = e.slot then e.ended status saturated else f }

/-- The state at a boundary at which the record `e` has ended. -/
def State.ended (s : State) (g : GroupId) (e : Entry) (status : SegStatus) : State :=
  State.modGroup g (Group.ended e status (decide (status = SegStatus.ok) && endPostSaturates s e.copy))
    { s.markTick g with tokens := if status = SegStatus.ok then tokensAfterEndPost s e.copy else s.tokens }

theorem Group.ended_eq (h : x.RunsOne e) (status : SegStatus) (sat : Bool) :
    ((x.countPeriod e.slot).modSlot e.slot (Entry.saturate sat)).endActive status = x.ended e status sat := by
  show { x with counter := 0, slope := .up, window := List.map _ (List.map _ (List.map _ x.window)) } = _
  rw [List.map_map, List.map_map, Group.ended]
  congr 1
  refine List.map_congr_left fun d hd => ?_
  simp only [Function.comp_apply, beq_iff_eq]
  by_cases hslot : d.slot = e.slot
  · rw [h.slots.eq hd h.mem hslot]
    simp [h.st, Entry.saturate]
  · have hact : d.st ≠ .active := fun ha => hslot (congrArg Entry.slot (h.alone d hd ha))
    simp [hslot, hact]

theorem Group.modSlot_saturate_false (x : Group) (slot : Nat) : x.modSlot slot (Entry.saturate false) = x := by
  refine (Group.eq_of_map_id fun d _ => ?_).symm
  split
  · simp [Entry.saturate]
  · rfl

theorem State.modGroup_congr {u : State} {f f' : Group → Group} (h : f (u.group g) = f' (u.group g)) :
    u.modGroup g f = u.modGroup g f' := by
  rw [State.modGroup, State.modGroup, h]

/-- The end of the record's run, with its AT_END post where it ends with OK. -/
theorem ended_eq (h : (s.group g).RunsOne e) (status : SegStatus) :
    (if (status == .ok) = true then (s.atPeriodEnd g e).endPost g e.counted else s.atPeriodEnd g e).modGroup g
      (Group.endActive status) = s.ended g e status := by
  by_cases hok : status = .ok
  · subst hok
    rw [if_pos (by decide), endPost_eq, State.modEntry, State.ended, if_pos rfl, decide_eq_true rfl, Bool.true_and]
    have htwice := State.modGroup_modGroup { s.markTick g with tokens := tokensAfterEndPost s e.copy } g
      (Group.countPeriod e.slot) (Group.modSlot e.slot (Entry.saturate (endPostSaturates s e.copy)))
    refine (congrArg (State.modGroup g (Group.endActive .ok)) htwice).trans ?_
    rw [State.modGroup_modGroup]
    exact State.modGroup_congr (Group.ended_eq h .ok _)
  · rw [if_neg (by simpa using hok), State.ended, if_neg hok, decide_eq_false hok, Bool.false_and, State.atPeriodEnd,
      State.modGroup_modGroup]
    refine State.modGroup_congr (u := s.markTick g) ?_
    have hended := Group.ended_eq h status false
    rw [Group.modSlot_saturate_false] at hended
    exact hended

/-! ## The pairs leave the waveform -/

/-- The pairs of a group that no longer produces show their idle levels, and no other pair moves (R55, R58). -/
theorem pairsOfGroup_of_leaves (hs : Settled s) (hf : u.fixed = s.fixed) (hrun : s.ctrl = .running)
    (hothers : ∀ m, m ≠ g → (u.group m).producing = (s.group m).producing) (hprod : (u.group g).producing = false)
    (hpairs : u.pairs = s.pairs) : PairsOfGroup s u.settle g (LeavesTheWaveform s u.settle) := by
  intro htrip p
  have hcond := tripCondition_of_lines (s := s) (t := u) (congrArg Fixed.lines hf) g
  have hctrl : u.ctrl = s.ctrl := congrArg Fixed.ctrl hf
  refine ⟨fun hg => ?_, fun hg => ?_⟩
  · rw [State.settle_pair, State.pair_of_pairs hpairs, settledPair_of_other hf fun m hm => hothers m fun h => ?_]
    · exact ((settled_iff s).1 hs).2.1 p
    · subst h; exact hg hm
  · have hsel : u.selection (s.pair p) = .idle := by
      simp [State.selection, hg, hctrl, hrun, hcond, htrip, hprod]
    rw [LeavesTheWaveform, State.settle_pair, State.pair_of_pairs hpairs, State.settledPair, hsel, hctrl, hrun]
    rfl

/-! ## The boundary -/

/-- A boundary after which group `g` stands as `y`, without an ACTIVE record. -/
structure EndsAt (s : State) (g : GroupId) (y : Group) : Prop where
  slots : y.SlotsDistinct
  noActive : ∀ f ∈ y.window, f.st ≠ .active

theorem EndsAt.producing {y : Group} (h : EndsAt s g y) : y.producing = false := by
  have hno : y.hasActive = false := by
    rw [Group.hasActive, List.any_eq_false]
    intro f hf
    simpa using h.noActive f hf
  rw [Group.producing, hno, Bool.false_and]

/-- A STOPPING group is STOPPED exactly where all its records are RETIRING (R38). -/
theorem State.pump_stopped_iff (hrun : u.isRunning = true) (hd : ∀ m, (u.group m).SlotsDistinct)
    (hst : (u.group g).state = .stopping) :
    (u.pump.group g).state = .stopped ↔ ∀ f ∈ (u.pump.group g).window, f.st = .retiring := by
  rw [State.pump_of_running hrun, State.finishStops_group]
  have hf := (consequences_pumpRounds 8 u).follows hd
  generalize State.pumpRounds 8 u = t at hf
  have hstate : (t.group g).state = .stopping := by rw [hf.group g]; exact hst
  rw [finishStop_window]
  unfold Group.finishStop
  rw [hstate, Group.allRetiring]
  by_cases hall : ∀ f ∈ (t.group g).window, f.st = .retiring
  · rw [if_pos (by simpa using hall)]
    exact ⟨fun _ => hall, fun _ => rfl⟩
  · rw [if_neg (by simpa using hall), hstate]
    exact ⟨nofun, fun h => absurd h hall⟩

theorem periodBoundary_ends {y : Group} {tokens : Vector Nat 16} (hB : BoundaryOf s g e) (hy : EndsAt s g y)
    (hv : (s.markTick g).boundary g e =
      { s.setGroup g y with tokens := tokens, marks := { s.marks with group := s.marks.group.set g true } }) :
    ∃ t, exec (.periodBoundary g) s = .next t ∧ TakesTick s t g ∧ t.tokens = tokens
      ∧ FollowsTriggers (s.setGroup g y) t
      ∧ (y.state = .stopping → ((t.group g).state = .stopped ↔ ∀ f ∈ (t.group g).window, f.st = .retiring))
      ∧ PairsOfGroup s t g (LeavesTheWaveform s t)
      ∧ SameExcept
          (everyGroup ++ [.pairs, .tokens, .captureQueue, .converter, .resultWriter, .requests, .groupTicks]) s t := by
  obtain ⟨hs, hring, -, hcapture, -, hdue, hb, ha⟩ := hB
  have hrun : s.ctrl = .running := State.tickDue_running hdue
  have hexec := exec_periodBoundary hdue hb ha
  have hgroup : (s.setGroup g y).group g = y := State.group_setGroup_same ..
  have hslots := setGroup_slotsDistinct (s := s) (g := g) (fun m => (hring m).slotsDistinct) hy.slots
  rw [hv] at hexec
  generalize hr : ({ s.setGroup g y with
    tokens := tokens, marks := { s.marks with group := s.marks.group.set g true } } : State) = r at hexec
  have hfixed : r.fixed = s.fixed := by rw [← hr]; rfl
  have hgroups : r.groups = (s.setGroup g y).groups := by rw [← hr]
  have hpairs : r.pairs = s.pairs := by rw [← hr]; rfl
  have hgroup' : ∀ m, r.group m = (s.setGroup g y).group m := fun m => congrArg (fun w => w[m]) hgroups
  have hquiet : (s.setGroup g y).Quiet := hcapture.quiet.of_same rfl rfl rfl
  have hctrl : r.ctrl = .running := (State.ctrl_of_fixed hfixed).trans hrun
  have hafter : r.afterBoundary g = r := by
    refine if_neg ?_
    rw [hgroup', hgroup, hy.producing]
    decide
  rw [hafter] at hexec
  have hover : r = (s.setGroup g y).pathOver r := by rw [← hr]; rfl
  have hslots' : ∀ m, (r.group m).SlotsDistinct := fun m => by rw [hgroup']; exact hslots m
  have hfollows := followsTriggers_pathOver hctrl hslots hquiet
  rw [← hover] at hfollows
  have hproducing := State.pump_producing hslots'
  have hisrun : r.isRunning = true := by
    show (r.ctrl == .running) = true
    rw [hctrl]
    rfl
  refine ⟨_, hexec, (pump_ticks r).trans (by rw [← hr]), r.tokens_pump.trans (by rw [← hr]), hfollows, fun hst => ?_, ?_, ?_⟩
  · exact State.pump_stopped_iff hisrun hslots' (by rw [hgroup', hgroup]; exact hst)
  · refine pairsOfGroup_of_leaves hs (r.fixed_pump.trans hfixed) hrun (fun m hm => ?_) ?_ (r.pairs_pump.trans hpairs)
    · rw [hproducing, hgroup', State.group_setGroup_ne s y hm]
    · rw [hproducing, hgroup', hgroup, hy.producing]
  · exact pump_frame hs hfixed (by rw [← hr]; rfl)

end Endings

end Sys2Proof.Machine
end

section
/-! PROOF. What the consequences on the capture path leave of the capture work (R89, R91, R94, R104, R105, R106): the
converter's path, the results, the fill list and the job. -/

namespace Sys2Proof.Machine

section Chain

variable {s t u : State} {ref : EntryRef} {g m : GroupId}

/-! ## Entries after consequences -/

theorem State.Follows.entry?_map (h : s.Follows t) {γ : Type} (k : Entry → γ) (hk : ∀ e, k { e with st := .retiring } = k e) :
    (t.entry? ref).map k = (s.entry? ref).map k := by
  have hw := h.window ref.group
  unfold State.entry?
  generalize (t.group ref.group).window = w at hw
  generalize (s.group ref.group).window = l at hw
  induction hw with
  | nil => rfl
  | @cons e f _ _ h1 _ ih =>
    rw [List.find?_cons, List.find?_cons, h1.1.slot]
    cases hslot : e.slot == ref.slot with
    | false => exact ih
    | true =>
      rcases h1.1 with rfl | ⟨-, rfl⟩
      · rfl
      · exact congrArg some (hk e)

theorem State.Follows.dropsResult (h : s.Follows t) (r : ConvResult) : t.dropsResult r = s.dropsResult r := by
  have hmap := h.entry?_map (ref := r.ref) (fun e => e.faulted || decide (r.position < e.nextPos)) fun _ => rfl
  unfold State.dropsResult
  revert hmap
  cases t.entry? r.ref <;> cases s.entry? r.ref <;> simp

theorem State.Follows.entry?_isSome (h : s.Follows t) : (t.entry? ref).isSome = (s.entry? ref).isSome := by
  have hmap := h.entry?_map (ref := ref) (fun _ => ()) fun _ => rfl
  revert hmap
  cases t.entry? ref <;> cases s.entry? ref <;> simp

/-! ## The converter's path -/

/-- The converter of `t` after consequences on the capture path of `s`: as it was, or IDLE after the offer of its held
result, or at work on the head of the capture queue (R91, R94). -/
def State.ConverterPath (s t : State) : Prop :=
  (t.converter = s.converter ∧ t.captureQueue = s.captureQueue ∧ t.marks.conv = s.marks.conv)
    ∨ (s.converter.state = .holding ∧ t.converter = { s.converter with state := .idle, held := none }
      ∧ t.captureQueue = s.captureQueue ∧ t.marks.conv = s.marks.conv)
    ∨ ∃ q rest, s.converter.state ≠ .converting ∧ s.captureQueue = q :: rest ∧ t.captureQueue = rest
      ∧ t.converter = { s.converter with state := .converting, current := some q, held := none, step := 0, done := 0, sum := 0 }
      ∧ t.marks.conv = true

/-- A converter that a consequence leaves alone goes on along its path. -/
theorem State.ConverterPath.of_same (h : s.ConverterPath t) (hc : u.converter = t.converter) (hq : u.captureQueue = t.captureQueue)
    (hm : u.marks.conv = t.marks.conv) : s.ConverterPath u := by
  unfold State.ConverterPath at h ⊢
  rw [hc, hq, hm]
  exact h

theorem Consequences.converterPath (hidle : s.converter.state = .idle → s.converter.held = none) (h : Consequences s t) :
    s.ConverterPath t := by
  induction h with
  | refl => exact .inl ⟨rfl, rfl, rfl⟩
  | @tail b c _ hc ih =>
    cases hc with
    | @take r rest _ _ hi hq =>
      rcases ih with ⟨hcv, hcq, -⟩ | ⟨hhold, hcv, hcq, -⟩ | ⟨q, rest', -, -, -, hcv, -⟩
      · have hst : s.converter.state = .idle := by rw [← hcv]; exact hi
        refine .inr (.inr ⟨r, rest, by rw [hst]; nofun, by rw [← hcq]; exact hq, rfl, ?_, rfl⟩)
        show ({ b.converter with state := _, current := _, step := _, done := _, sum := _ } : Converter) = _
        rw [hcv, ← hidle hst]
      · refine .inr (.inr ⟨r, rest, by rw [hhold]; nofun, by rw [← hcq]; exact hq, rfl, ?_, rfl⟩)
        show ({ b.converter with state := _, current := _, step := _, done := _, sum := _ } : Converter) = _
        rw [hcv]
      · rw [hcv] at hi
        cases hi
    | @offer r _ hh hheld _ =>
      rcases ih with ⟨hcv, hcq, hcm⟩ | ⟨-, hcv, -⟩ | ⟨q, rest', -, -, -, hcv, -⟩
      · refine .inr (.inl ⟨by rw [← hcv]; exact hh, ?_, hcq, hcm⟩)
        show ({ b.converter with state := _, held := _ } : Converter) = _
        rw [hcv]
      · rw [hcv] at hh
        cases hh
      · rw [hcv] at hh
        cases hh
    | result _ _ _ _ => exact ih.of_same rfl rfl rfl
    | fill _ _ _ _ => exact ih.of_same rfl rfl rfl
    | join _ _ _ _ _ _ => exact ih.of_same rfl rfl rfl
    | retire _ _ _ _ _ _ => exact ih.of_same rfl rfl rfl

/-! ## The writer's path -/

/-- A result that waited in `s` waits in `t`, is the current job, or was dropped (R104, R105). -/
abbrev State.Delivers (s t : State) (r : ConvResult) : Prop :=
  r ∈ t.writer.queue ∨ t.writer.job = some (.result r) ∨ s.dropsResult r = true

/-- The result writer of `t` after consequences on the capture path of `s`. -/
structure State.WriterPath (s t : State) : Prop where
  onBus : t.writer.onBus = s.writer.onBus
  job : ∀ j, s.writer.job = some j → t.writer.job = some j
  order : List.Sublist (t.writer.queue ++ t.converter.held.toList) (s.writer.queue ++ s.converter.held.toList)
  results : ∀ r ∈ s.writer.queue, s.Delivers t r
  held : ∀ r, s.converter.held = some r → t.converter.held = some r ∨ s.Delivers t r
  fill : ∀ ref ∈ s.writer.fill, (s.entry? ref).isSome = true → ref ∈ t.writer.fill ∨ ∃ target, t.writer.job = some (.fill ref target)

theorem Consequences.writerPath (hd : ∀ m, (s.group m).SlotsDistinct) (h : Consequences s t) : s.WriterPath t := by
  induction h with
  | refl => exact ⟨rfl, fun _ h => h, .refl _, fun r hr => .inl hr, fun r hr => .inl hr, fun ref hr _ => .inl hr⟩
  | @tail b c hb hc ih =>
    have hf := Consequences.follows hd hb
    obtain ⟨honbus, hjob, horder, hresults, hheld, hfill⟩ := ih
    cases hc with
    | take _ _ _ _ => exact ⟨honbus, hjob, horder, hresults, hheld, hfill⟩
    | @offer r _ _ hr _ =>
      have happend : ∀ {r'}, s.Delivers b r' → s.Delivers { b with
          writer := { b.writer with queue := b.writer.queue ++ [r] }
          converter := { b.converter with state := .idle, held := none } } r' := fun h =>
        h.imp_left (List.mem_append_left _)
      refine ⟨honbus, hjob, ?_, fun r' h => happend (hresults r' h), fun r' h => .inr ?_, hfill⟩
      · show List.Sublist ((b.writer.queue ++ [r]) ++ ([] : List ConvResult)) _
        rw [hr] at horder
        rw [List.append_nil]
        exact horder
      · rcases hheld r' h with h | h
        · obtain rfl := Option.some.inj (hr.symm.trans h)
          exact .inl (List.mem_append_right _ (List.mem_singleton_self _))
        · exact happend h
    | @result r rest _ hj _ hq =>
      have hnone : ∀ j, s.writer.job = some j → False := fun j h => by rw [hjob j h] at hj; cases hj
      have htaken : ∀ {r'}, s.Delivers b r' → s.Delivers { b with writer := { b.writer with
          queue := rest, lastSource := .resultQueue, job := if b.dropsResult r then none else some (.result r) } } r' := by
        intro r' h
        rcases h with hin | hjb | hdrop
        · rw [hq] at hin
          rcases List.mem_cons.1 hin with rfl | hin
          · by_cases hdrop : b.dropsResult r' = true
            · exact .inr (.inr (hf.dropsResult r' ▸ hdrop))
            · exact .inr (.inl (if_neg hdrop))
          · exact .inl hin
        · rw [hj] at hjb
          cases hjb
        · exact .inr (.inr hdrop)
      rw [hq] at horder
      exact ⟨honbus, fun j h => (hnone j h).elim, (List.sublist_cons_self _ _).trans horder, fun r' h => htaken (hresults r' h),
        fun r' h => (hheld r' h).imp_right htaken,
        fun ref hr hs => .inl ((hfill ref hr hs).resolve_right fun ⟨_, h⟩ => by rw [hj] at h; cases h)⟩
    | @fill ref' rest _ hj _ hl =>
      have hnone : ∀ j, s.writer.job = some j → False := fun j h => by rw [hjob j h] at hj; cases hj
      have hkept : ∀ {r'}, s.Delivers b r' → s.Delivers { b with writer := { b.writer with
          fill := rest, lastSource := .fillList, job := (b.entry? ref').map fun e => .fill ref' e.triggered } } r' := fun h =>
        h.imp_right (Or.imp_left fun h => by rw [hj] at h; cases h)
      refine ⟨honbus, fun j h => (hnone j h).elim, horder, fun r' h => hkept (hresults r' h),
        fun r' h => (hheld r' h).imp_right hkept, fun ref hr hs => ?_⟩
      rcases hfill ref hr hs with hin | ⟨_, hjb⟩
      · rw [hl] at hin
        rcases List.mem_cons.1 hin with rfl | hin
        · obtain ⟨e, he⟩ := Option.isSome_iff_exists.1 (hf.entry?_isSome.trans hs)
          exact .inr ⟨e.triggered, by rw [he]; rfl⟩
        · exact .inl hin
      · rw [hj] at hjb
        cases hjb
    | join _ _ _ _ _ _ =>
      exact ⟨honbus, hjob, horder, hresults, hheld, fun ref hr hs => (hfill ref hr hs).imp_left (List.mem_append_left _)⟩
    | retire _ _ _ _ _ _ => exact ⟨honbus, hjob, horder, hresults, hheld, hfill⟩

/-! ## Work that is gone -/

/-- No capture work of the groups `gone` is left, and none of their records drains. -/
structure State.WithoutWork (gone : GroupId → Bool) (s : State) : Prop where
  requests : ∀ q ∈ s.captureQueue, gone q.group = false
  current : ∀ q, s.converter.current = some q → gone q.group = false
  held : ∀ r, s.converter.held = some r → gone r.group = false
  results : ∀ r ∈ s.writer.queue, gone r.group = false
  fill : ∀ r ∈ s.writer.fill, gone r.group = false
  job : ∀ j, s.writer.job = some j → gone j.ref.group = false
  draining : ∀ m, gone m = true → ∀ e ∈ (s.group m).window, e.st ≠ .draining

theorem Consequence.withoutWork {gone : GroupId → Bool} (h : Consequence s t) (hw : s.WithoutWork gone) : t.WithoutWork gone := by
  cases h with
  | @take r rest _ _ _ hq =>
    exact { hw with
      requests := fun q h => hw.requests q (hq ▸ List.mem_cons_of_mem _ h)
      current := fun q h => Option.some.inj h ▸ hw.requests r (hq ▸ List.mem_cons_self) }
  | @offer r _ _ hheld _ =>
    exact { hw with
      held := nofun
      results := fun r' h => (List.mem_append.1 h).elim (hw.results r') fun h => List.mem_singleton.1 h ▸ hw.held r hheld }
  | @result r rest _ _ _ hq =>
    refine { hw with
      results := fun r' h => hw.results r' (hq ▸ List.mem_cons_of_mem _ h)
      job := fun j h => ?_ }
    split at h
    · cases h
    · exact Option.some.inj h ▸ hw.results r (hq ▸ List.mem_cons_self)
  | @fill ref rest _ _ _ hl =>
    refine { hw with
      fill := fun r' h => hw.fill r' (hl ▸ List.mem_cons_of_mem _ h)
      job := fun j h => ?_ }
    obtain ⟨e, -, rfl⟩ := Option.map_eq_some_iff.1 h
    exact hw.fill ref (hl ▸ List.mem_cons_self)
  | @join ref e _ he hst _ _ _ =>
    refine { hw with fill := fun r' h => (List.mem_append.1 h).elim (hw.fill r') fun h => ?_ }
    rw [List.mem_singleton.1 h]
    by_contra hg
    exact hw.draining ref.group (by simpa using hg) e (State.mem_of_entry? he).1 hst
  | @retire ref e _ _ _ _ _ _ =>
    refine { hw with draining := fun m hm f hf => ?_ }
    rw [State.modEntry, State.group_modGroup] at hf
    split at hf
    · next hmr =>
      obtain ⟨d, hd, rfl⟩ := List.mem_map.1 hf
      split
      · nofun
      · exact hw.draining m hm d (hmr ▸ hd)
    · exact hw.draining m hm f hf

theorem Consequences.withoutWork {gone : GroupId → Bool} (h : Consequences s t) (hw : s.WithoutWork gone) : t.WithoutWork gone := by
  induction h with
  | refl => exact hw
  | tail _ hc ih => exact hc.withoutWork ih

/-! ## What the pump leaves done -/

theorem State.converterTake_idle (hrun : s.isRunning = true) (h : s.converterTake.converter.state = .idle) :
    s.converterTake.captureQueue = [] := by
  cases hq : s.captureQueue with
  | nil => rw [State.converterTake_of_empty hq, hq]
  | cons r rest =>
    by_cases hidle : s.converter.state = .idle
    · rw [State.converterTake_of_cons hrun hidle hq] at h
      cases h
    · rw [State.converterTake_of_not fun hc => hidle hc.2] at h
      exact absurd h hidle

theorem State.offerHeld_idle (hrun : s.isRunning = true) (hs : s.converter.state = .idle → s.captureQueue = [])
    (h : s.offerHeld.converter.state = .idle) : s.offerHeld.captureQueue = [] := by
  by_cases hno : s.converter.state ≠ .holding ∨ s.converter.held = none ∨ 4 ≤ s.writer.queue.length
  · rw [State.offerHeld_of_not hno] at h ⊢
    exact hs h
  · simp only [not_or, not_not, Nat.not_le] at hno
    obtain ⟨hstate, hheld, hroom⟩ := hno
    obtain ⟨r, hr⟩ := Option.ne_none_iff_exists'.1 hheld
    rw [State.offerHeld_of_held hstate hr hroom] at h ⊢
    exact State.converterTake_idle (by exact hrun) h

theorem State.chooseJob_path (s : State) : s.chooseJob.converter = s.converter ∧ s.chooseJob.captureQueue = s.captureQueue := by
  rcases s.chooseJob_cases with ⟨h, -⟩ | ⟨r, rest, -, -, -, h⟩ | ⟨ref, rest, -, -, -, h⟩ <;> rw [h] <;> exact ⟨rfl, rfl⟩

theorem State.isRunning_of_fixed (h : t.fixed = s.fixed) : t.isRunning = s.isRunning := by
  rw [State.isRunning, State.isRunning, State.ctrl_of_fixed h]

/-- After a round an IDLE converter finds no request (R91). -/
theorem State.pumpOnce_idle (hrun : s.isRunning = true) (h : s.pumpOnce.converter.state = .idle) :
    s.pumpOnce.captureQueue = [] := by
  obtain ⟨hconv, hqueue⟩ := s.drain.converterTake.offerHeld.chooseJob_path
  have hdrain : s.drain.isRunning = true := (State.isRunning_of_fixed s.fixed_drain).trans hrun
  rw [State.pumpOnce, hconv] at h
  rw [State.pumpOnce, hqueue]
  exact State.offerHeld_idle ((State.isRunning_of_fixed s.drain.fixed_converterTake).trans hdrain)
    (State.converterTake_idle hdrain) h

theorem State.pumpRounds_idle (hrun : s.isRunning = true) {n : Nat} (hn : n ≠ 0) :
    (State.pumpRounds n s).converter.state = .idle → (State.pumpRounds n s).captureQueue = [] := by
  obtain ⟨n, rfl⟩ := Nat.exists_eq_succ_of_ne_zero hn
  clear hn
  induction n generalizing s with
  | zero => exact State.pumpOnce_idle hrun
  | succ n ih => exact ih ((State.isRunning_of_fixed s.fixed_pumpOnce).trans hrun)

end Chain

/-! ## Removals -/

section Removed

variable {s t w : State} {gone : GroupId → Bool}

/-- The converter after a removal of the work of the groups `gone` (R96 steps 2 and 3). -/
def Converter.without (gone : GroupId → Bool) (c : Converter) : Converter :=
  match c.state, c.current, c.held with
  | .converting, some r, _ => if gone r.group then { c with state := .idle, current := none, step := 0, done := 0, sum := 0 } else c
  | .holding, _, some r => if gone r.group then { c with state := .idle, held := none } else c
  | _, _, _ => c

theorem Converter.removeGroup_eq (g : GroupId) (c : Converter) : c.removeGroup g = c.without (fun m => m == g) := rfl

/-- A state from which the capture work of the groups `gone` has been removed, before what it leaves is chosen (R95,
R96, R111; log 34). -/
structure State.Cleared (gone : GroupId → Bool) (s w : State) : Prop where
  requests : w.captureQueue = s.captureQueue.filter fun q => !gone q.group
  converter : w.converter = s.converter.without gone
  results : w.writer.queue = s.writer.queue.filter fun r => !gone r.group
  fill : w.writer.fill = s.writer.fill.filter fun r => !gone r.group
  job : w.writer.job = s.writer.job.filter fun j => !gone j.ref.group
  onBus : w.writer.onBus = s.writer.onBus
  mark : w.marks.conv = s.marks.conv
  draining : ∀ m, gone m = true → ∀ e ∈ (w.group m).window, e.st ≠ .draining
  drops : ∀ r, r ∈ s.writer.queue ∨ s.converter.held = some r → gone r.group = false → w.dropsResult r = true →
    s.dropsResult r = true
  fills : ∀ ref ∈ s.writer.fill, gone ref.group = false → (w.entry? ref).isSome = true

/-- A converter without work is what a removal leaves of it (R96). -/
theorem Converter.freed_nil {c : Converter} (hcurrent : c.current = none) (hzero : c.step = 0 ∧ c.done = 0 ∧ c.sum = 0) :
    { c with state := .idle, held := none } = c.freed [] := by
  obtain ⟨hstep, hdone, hsum⟩ := hzero
  cases c
  cases hcurrent
  cases hstep
  cases hdone
  cases hsum
  rfl

/-- The three states of a converter, and what it holds in each (R91 to R94). -/
inductive Converter.Holds (c : Converter) : Prop where
  | idle (hst : c.state = .idle) (hcurrent : c.current = none) (hheld : c.held = none)
      (hzero : c.step = 0 ∧ c.done = 0 ∧ c.sum = 0) : Holds c
  | converting (q : Request) (hst : c.state = .converting) (hcurrent : c.current = some q) (hheld : c.held = none) : Holds c
  | holding (r : ConvResult) (hst : c.state = .holding) (hcurrent : c.current = none) (hheld : c.held = some r)
      (hzero : c.step = 0 ∧ c.done = 0 ∧ c.sum = 0) : Holds c

theorem CaptureLaw.holds (h : CaptureLaw s) : s.converter.Holds := by
  obtain ⟨hconv, hhold, -, -, -, -, hzero, -⟩ := h
  cases hst : s.converter.state with
  | idle =>
    refine .idle hst ?_ ?_ (hzero (by rw [hst]; nofun))
    · rw [← Option.not_isSome_iff_eq_none, ← hconv, hst]; nofun
    · rw [← Option.not_isSome_iff_eq_none, ← hhold, hst]; nofun
  | converting =>
    obtain ⟨q, hq⟩ := Option.isSome_iff_exists.1 (hconv.1 hst)
    refine .converting q hst hq ?_
    rw [← Option.not_isSome_iff_eq_none, ← hhold, hst]; nofun
  | holding =>
    obtain ⟨r, hr⟩ := Option.isSome_iff_exists.1 (hhold.1 hst)
    refine .holding r hst ?_ hr (hzero (by rw [hst]; nofun))
    rw [← Option.not_isSome_iff_eq_none, ← hconv, hst]; nofun

/-- The converter of a cleared state: as it was, or freed, and what it was at work for. -/
theorem Converter.without_cases {c : Converter} (h : c.Holds) (gone : GroupId → Bool) :
    (c.without gone = c ∧ (∀ q, c.current = some q → gone q.group = false) ∧ ∀ r, c.held = some r → gone r.group = false)
    ∨ (c.without gone = { c with state := .idle, current := none, held := none, step := 0, done := 0, sum := 0 }
      ∧ ((∃ q, c.current = some q ∧ gone q.group = true) ∨ ∃ r, c.held = some r ∧ gone r.group = true)) := by
  cases h with
  | idle hst hcurrent hheld _ =>
    refine .inl ⟨?_, by rw [hcurrent]; nofun, by rw [hheld]; nofun⟩
    unfold Converter.without
    rw [hst]
  | converting q hst hcurrent hheld =>
    have heq : c.without gone =
        if gone q.group then { c with state := .idle, current := none, step := 0, done := 0, sum := 0 } else c := by
      unfold Converter.without
      rw [hst, hcurrent]
    rw [heq]
    cases hg : gone q.group with
    | true => exact .inr ⟨by rw [if_pos rfl, ← hheld], .inl ⟨q, hcurrent, hg⟩⟩
    | false => exact .inl ⟨rfl, fun q' h => by rw [← Option.some.inj (hcurrent.symm.trans h)]; exact hg, by rw [hheld]; nofun⟩
  | holding r hst hcurrent hheld hzero =>
    have heq : c.without gone = if gone r.group then { c with state := .idle, held := none } else c := by
      unfold Converter.without
      rw [hst, hheld]
    rw [heq]
    cases hg : gone r.group with
    | true =>
      refine .inr ⟨?_, .inr ⟨r, hheld, hg⟩⟩
      rw [if_pos rfl]
      exact Converter.freed_nil hcurrent hzero
    | false => exact .inl ⟨rfl, by rw [hcurrent]; nofun, fun r' h => by rw [← Option.some.inj (hheld.symm.trans h)]; exact hg⟩

theorem State.Cleared.withoutWork (hs : CaptureLaw s) (h : s.Cleared gone w) : w.WithoutWork gone := by
  have hmem : ∀ {α : Type} {l : List α} {k : α → GroupId} {a : α}, a ∈ l.filter (fun a => !gone (k a)) → gone (k a) = false :=
    fun h => by simpa using (List.mem_filter.1 h).2
  refine ⟨fun q hq => hmem (h.requests ▸ hq), fun q hq => ?_, fun r hr => ?_, fun r hr => hmem (h.results ▸ hr),
    fun r hr => hmem (k := EntryRef.group) (h.fill ▸ hr), fun j hj => ?_, h.draining⟩
  · rw [h.converter] at hq
    rcases Converter.without_cases hs.holds gone with ⟨hc, hcur, -⟩ | ⟨hc, -⟩
    · exact hcur q (hc ▸ hq)
    · rw [hc] at hq
      cases hq
  · rw [h.converter] at hr
    rcases Converter.without_cases hs.holds gone with ⟨hc, -, hheld⟩ | ⟨hc, -⟩
    · exact hheld r (hc ▸ hr)
    · rw [hc] at hr
      cases hr
  · rw [h.job, Option.filter_eq_some_iff] at hj
    simpa using hj.2

/-- The requests that a removal keeps. -/
abbrev State.keptRequests (gone : GroupId → Bool) (s : State) : List Request := s.captureQueue.filter fun q => !gone q.group

/-- The converter at the end of a removal: undisturbed, or freed and at work on the first request that is kept (R91,
R96). -/
theorem converter_of_cleared (hs : CaptureLaw s) (h : s.Cleared gone w) (hpath : w.ConverterPath t)
    (hidle : t.converter.state = .idle → t.captureQueue = []) :
    (t.converter = s.converter ∧ t.captureQueue = s.keptRequests gone ∧ t.marks.conv = s.marks.conv
      ∧ (∀ q, s.converter.current = some q → gone q.group = false) ∧ ∀ r, s.converter.held = some r → gone r.group = false)
    ∨ (t.converter = s.converter.freed (s.keptRequests gone) ∧ t.captureQueue = (s.keptRequests gone).tail
      ∧ t.marks.conv = (s.marks.conv || !(s.keptRequests gone).isEmpty)
      ∧ ((∃ q, s.converter.current = some q ∧ gone q.group = true) ∨ (∃ r, s.converter.held = some r ∧ gone r.group = true)
        ∨ s.converter.state = .holding)) := by
  have hempty : s.converter.state = .idle → s.keptRequests gone = [] := by
    obtain ⟨-, -, hempty, -⟩ := hs
    intro hst
    rw [State.keptRequests, hempty hst, List.filter_nil]
  have hq : w.captureQueue = s.keptRequests gone := h.requests
  have hm := h.mark
  have hconv := h.converter
  generalize s.keptRequests gone = kept at hempty hq
  have hholds := hs.holds
  rcases Converter.without_cases hholds gone with ⟨hw, hcur, hheld⟩ | ⟨hw, hgone⟩
  · rw [hw] at hconv
    rcases hpath with ⟨hc, hcq, hcm⟩ | ⟨hst, hc, hcq, hcm⟩ | ⟨q, rest, hst, hhead, hcq, hc, hcm⟩
    · exact .inl ⟨hc.trans hconv, hcq.trans hq, hcm.trans hm, hcur, hheld⟩
    · rw [hconv] at hst hc
      have hnil : kept = [] := by rw [← hq, ← hcq]; exact hidle (by rw [hc])
      refine .inr ⟨?_, by rw [hcq, hq, hnil]; rfl, by rw [hcm, hm, hnil]; simp, .inr (.inr hst)⟩
      cases hholds with
      | idle h => rw [h] at hst; cases hst
      | converting _ h => rw [h] at hst; cases hst
      | holding r _ hcurrent _ hzero =>
        rw [hc, hnil]
        exact Converter.freed_nil hcurrent hzero
    · rw [hconv] at hst hc
      rw [hq] at hhead
      refine .inr ⟨by rw [hc, hhead]; rfl, by rw [hcq, hhead]; rfl, by rw [hcm, hhead]; simp, .inr (.inr ?_)⟩
      cases hst' : s.converter.state with
      | idle => rw [hempty hst'] at hhead; cases hhead
      | converting => exact absurd hst' hst
      | holding => rfl
  · rw [hw] at hconv
    refine .inr ?_
    rcases hpath with ⟨hc, hcq, hcm⟩ | ⟨hst, -⟩ | ⟨q, rest, -, hhead, hcq, hc, hcm⟩
    · have hnil : kept = [] := by rw [← hq, ← hcq]; exact hidle (by rw [hc, hconv])
      exact ⟨by rw [hc, hconv, hnil]; rfl, by rw [hcq, hq, hnil]; rfl, by rw [hcm, hm, hnil]; simp, hgone.imp_right .inl⟩
    · rw [hconv] at hst
      cases hst
    · rw [hq] at hhead
      exact ⟨by rw [hc, hconv, hhead]; rfl, by rw [hcq, hhead]; rfl, by rw [hcm, hhead]; simp, hgone.imp_right .inl⟩

theorem WorkRemoved.of_cleared (hs : CaptureLaw s) (h : s.Cleared gone w) (hd : ∀ m, (w.group m).SlotsDistinct)
    (hc : Consequences w t) (hidle : t.converter.state = .idle → t.captureQueue = []) : WorkRemoved gone s t := by
  have hwithout := h.withoutWork hs
  have hholds := hs.holds
  have hheldidle : w.converter.state = .idle → w.converter.held = none := by
    rw [h.converter]
    rcases Converter.without_cases hholds gone with ⟨hw, -⟩ | ⟨hw, -⟩ <;> rw [hw]
    · intro hst
      cases hholds with
      | idle _ _ hheld => exact hheld
      | converting _ h => rw [h] at hst; cases hst
      | holding _ h => rw [h] at hst; cases hst
    · exact fun _ => rfl
  have hheldkept : ∀ r, s.converter.held = some r → gone r.group = false → w.converter.held = some r := by
    intro r hr hg
    rw [h.converter]
    rcases Converter.without_cases hholds gone with ⟨hw, -⟩ | ⟨-, ⟨q, hq, -⟩ | ⟨r', hr', hg'⟩⟩
    · rw [hw]; exact hr
    · cases hholds with
      | idle _ hc => rw [hc] at hq; cases hq
      | converting _ _ _ hn => rw [hn] at hr; cases hr
      | holding _ _ hc => rw [hc] at hq; cases hq
    · rw [Option.some.inj (hr.symm.trans hr'), hg'] at hg
      cases hg
  have hheldonly : ∀ r, w.converter.held = some r → s.converter.held = some r := by
    intro r hr
    rw [h.converter] at hr
    rcases Converter.without_cases hholds gone with ⟨hw, -⟩ | ⟨hw, -⟩
    · rw [hw] at hr; exact hr
    · rw [hw] at hr; cases hr
  obtain ⟨honbus, hjob, horder, hresults, hheld, hfill⟩ := hc.writerPath hd
  obtain ⟨hrequests', hcurrent', hheld', hresults', hfill', hjob', -⟩ := hc.withoutWork hwithout
  have hpath := converter_of_cleared hs h (hc.converterPath hheldidle) hidle
  have hfreedheld : ∀ l : List Request, (s.converter.freed l).held = none := fun l => by cases l <;> rfl
  refine ⟨hrequests', hcurrent', hheld', hresults', hfill', hjob', fun hcur hno => ?_, ?_, fun hgone => ?_, fun r hr hg => ?_,
    fun r hr hg => ?_, ?_, fun ref hr hg => ?_, fun j hj hg => ?_, honbus.trans h.onBus⟩
  · rcases hpath with ⟨hc, hq, -⟩ | ⟨-, -, -, ⟨q, hq, hg⟩ | ⟨r, hr, -⟩ | hst⟩
    · exact ⟨hc, hq⟩
    · rw [hcur q hq] at hg
      cases hg
    · rw [hno] at hr
      cases hr
    · cases hholds with
      | idle h => rw [h] at hst; cases hst
      | converting _ h => rw [h] at hst; cases hst
      | holding r _ _ hr => rw [hno] at hr; cases hr
  · rcases hpath with ⟨hc, -, hm, -⟩ | ⟨hc, -, hm, hwhy⟩
    · rw [hm, hc, bne_self_eq_false, Bool.and_false, Bool.or_false]
    · rw [hm]
      congr 1
      cases hk : s.keptRequests gone with
      | nil => rw [hc, hk]; rfl
      | cons q rest =>
        rw [hk] at hc
        have hcurrent : t.converter.current = some q := by rw [hc]; rfl
        have hkept : gone q.group = false := by
          have hmem : q ∈ s.keptRequests gone := hk ▸ List.mem_cons_self
          simpa using (List.mem_filter.1 hmem).2
        have hne : t.converter ≠ s.converter := by
          intro heq
          rcases hwhy with ⟨q', hq', hg'⟩ | ⟨r, hr, -⟩ | hst
          · rw [← heq, hcurrent] at hq'
            rw [← Option.some.inj hq', hkept] at hg'
            cases hg'
          · rw [← heq, hc, hfreedheld] at hr
            cases hr
          · rw [← heq, hc] at hst
            cases hst
        rw [hcurrent]
        simpa using hne
  · rcases hpath with ⟨-, -, -, hcur, hheld⟩ | ⟨hc, hq, -⟩
    · rcases hgone with ⟨q, hq, hg⟩ | ⟨r, hr, hg⟩
      · rw [hcur q hq] at hg
        cases hg
      · rw [hheld r hr] at hg
        cases hg
    · exact ⟨hc, hq⟩
  · rcases hpath with ⟨hc, hq, -⟩ | ⟨hc, hq, -⟩
    · exact .inl ⟨hc, hq⟩
    · refine .inr ⟨hc, hq, ?_⟩
      have hnone : t.converter.held = none := by rw [hc, hfreedheld]
      have hr' := (hheld r (hheldkept r hr hg)).resolve_left (by rw [hnone]; nofun)
      exact hr'.imp_right (Or.imp_right (h.drops r (.inr hr) hg))
  · have hin : r ∈ w.writer.queue := by
      rw [h.results, List.mem_filter]
      exact ⟨hr, by simp [hg]⟩
    exact (hresults r hin).imp_right (Or.imp_right (h.drops r (.inl hr) hg))
  · refine (List.sublist_append_left _ _).trans (horder.trans (List.Sublist.append ?_ ?_))
    · rw [h.results]
      exact List.filter_sublist
    · cases hw : w.converter.held with
      | none => exact List.nil_sublist _
      | some r => rw [hheldonly r hw]
  · have hin : ref ∈ w.writer.fill := by
      rw [h.fill, List.mem_filter]
      exact ⟨hr, by simp [hg]⟩
    exact hfill ref hin (h.fills ref hr hg)
  · refine hjob j ?_
    rw [h.job, Option.filter_eq_some_iff]
    exact ⟨hj, by simp [hg]⟩

end Removed

end Sys2Proof.Machine
end

section
/-! PROOF. The clearing out of a group that faults, is aborted or trips, with the removal of its capture work and the
breaking of its set (R33, R39, R42, R95, R96, R111, R121). -/

namespace Sys2Proof.Machine

section ClearOut

variable {s t v w : State} {g m : GroupId} {x : Group} {e : Entry}

/-! ## The window that is left -/

/-- The two ways of saying that capture work of a record is outstanding (R13, R111). -/
theorem State.hasWork_eq (s : State) (g : GroupId) (e : Entry) : s.hasWork g e = s.workOutstanding (e.ref g) e := by
  have hreq : ∀ q : Request, (q.group == g && q.slot == e.slot) = (q.ref == e.ref g) := fun q => by
    rw [Bool.eq_iff_iff]; simp [Request.ref, Entry.ref]
  have hres : ∀ r : ConvResult, (r.group == g && r.slot == e.slot) = (r.ref == e.ref g) := fun r => by
    rw [Bool.eq_iff_iff]; simp [ConvResult.ref, Entry.ref]
  have href : ∀ r : EntryRef, (r.group == g && r.slot == e.slot) = (r == e.ref g) := fun r => by
    cases r
    rw [Bool.eq_iff_iff]; simp [Entry.ref]
  have hcur : s.converter.current.any (fun q => q.ref == e.ref g) = s.isConverting (e.ref g) := by
    unfold State.isConverting
    cases s.converter.current <;> rfl
  have hheld : s.converter.held.any (fun r => r.ref == e.ref g) = s.isHeld (e.ref g) := by
    unfold State.isHeld
    cases s.converter.held <;> rfl
  have hjob : s.writer.job.any (fun j => j.ref == e.ref g) = s.hasJob (e.ref g) := by
    unfold State.hasJob
    cases s.writer.job with
    | none => rfl
    | some j => rfl
  have hbus : s.writer.onBus.any (fun w => w.ref == e.ref g) = s.writeOnBus (e.ref g) := by
    unfold State.writeOnBus
    cases s.writer.onBus <;> rfl
  unfold State.hasWork State.workOutstanding State.inHand State.hasRequest State.hasResult State.inFill Entry.owes
  simp only [hreq, hres, href, hcur, hheld, hjob, hbus]
  generalize s.captureQueue.any (fun r => r.ref == e.ref g) = a
  generalize s.writer.queue.any (fun r => r.ref == e.ref g) = b
  generalize s.writer.fill.any (fun r => r == e.ref g) = c
  cases a <;> cases s.isConverting (e.ref g) <;> cases s.isHeld (e.ref g) <;> cases b <;> cases c <;> simp

theorem Group.cancelFetch_eq (x : Group) : x.cancelFetch = { x with window := x.kept, ring := x.steppedBack } := by
  unfold Group.cancelFetch Group.steppedBack Group.kept
  split
  · rfl
  · next h =>
    have hno : ∀ e ∈ x.window, (e.st != .fetching) = true := by simpa [Group.hasFetching] using h
    rw [List.filter_eq_self.2 hno]

/-- A group cleared out with its work removed (R33, R39, R95, R111). -/
theorem Group.clearOut_removed (v : State) (g : GroupId) (ending : SegStatus) (x : Group) :
    (x.removed v g ending).clearOut = { x with
      window := v.retired g ending x.kept, ring := x.steppedBack, counter := 0, slope := .up, pendingStop := .noStop } := by
  have hfetching : (x.removed v g ending).hasFetching = x.hasFetching :=
    Group.hasFetching_map (f := v.retiredByRemoval g ending) (fun e => by
      rw [State.retiredByRemoval_st]
      cases e.st <;> simp) rfl
  have hring : (x.removed v g ending).steppedBack = x.steppedBack := by
    unfold Group.steppedBack
    rw [hfetching]
    rfl
  have hwindow : (x.removed v g ending).cancelFetch.retireWaiting.window = v.retired g ending x.kept := by
    show List.map _ (x.removed v g ending).cancelFetch.window = _
    rw [Group.window_cancelFetch, Group.unfetched_removed, List.map_map]
    refine List.map_congr_left fun e he => ?_
    have hne : e.st ≠ .fetching := (mem_unfetched.1 he).2
    rw [Function.comp_apply, State.retiredByRemoval, v.hasWork_eq]
    cases hst : e.st with
    | fetching => exact absurd hst hne
    | active | draining | ready | bad => simp [hst]
    | retiring =>
      cases e
      cases hst
      rfl
  have hclear : (x.removed v g ending).clearOut = { (x.removed v g ending).cancelFetch with
      window := (x.removed v g ending).cancelFetch.retireWaiting.window
      counter := 0, slope := .up, pendingStop := .noStop } := rfl
  rw [hclear, hwindow, Group.cancelFetch_eq, hring]
  rfl

/-- The cleared out group in its new state. -/
def Group.clearedTo (v : State) (g : GroupId) (ending : SegStatus) (state : GroupState) (notices : NoticeSet) (x : Group) : Group :=
  { x with
    window := v.retired g ending x.kept, ring := x.steppedBack, counter := 0, slope := .up, pendingStop := .noStop
    state := state, notices := notices }

/-- The capture work of group `g` is removed, and the group is cleared out to a state (R33, R40, R122). -/
def State.clearedOut (g : GroupId) (ending : SegStatus) (state : GroupState) (notices : NoticeSet → NoticeSet) (v : State) : State :=
  (v.removeWork g ending).modGroup g fun x => { x.clearOut with state := state, notices := notices x.notices }

theorem clearedOut_group_same (ending : SegStatus) (state : GroupState) (notices : NoticeSet → NoticeSet) :
    (v.clearedOut g ending state notices).group g =
      (v.group g).clearedTo v g ending state (notices (v.group g).notices) := by
  have hremoved : (v.removeWork g ending).group g = (v.group g).removed v g ending :=
    State.group_modGroup_same (s := v) g (Group.removed v g ending)
  rw [State.clearedOut, State.group_modGroup_same, hremoved, Group.clearOut_removed]
  rfl

theorem clearedOut_group_ne (ending : SegStatus) (state : GroupState) (notices : NoticeSet → NoticeSet) (hm : m ≠ g) :
    (v.clearedOut g ending state notices).group m = v.group m := by
  have hremoved : (v.removeWork g ending).group m = v.group m :=
    State.group_modGroup_ne (s := v) (Group.removed v g ending) hm
  rw [State.clearedOut, State.group_modGroup_ne _ _ hm, hremoved]

/-- Every record of a cleared out group is RETIRING. -/
theorem State.retired_st (v : State) (g : GroupId) (ending : SegStatus) (l : List Entry) :
    ∀ e ∈ v.retired g ending l, e.st = .retiring := by
  intro e he
  obtain ⟨d, -, rfl⟩ := List.mem_map.1 he
  split <;> rfl

theorem State.retired_slots (v : State) (g : GroupId) (ending : SegStatus) (l : List Entry) :
    (v.retired g ending l).map Entry.slot = l.map Entry.slot := by
  rw [State.retired, List.map_map]
  refine List.map_congr_left fun e _ => ?_
  rw [Function.comp_apply]
  split <;> rfl

theorem Group.kept_slotsDistinct (h : x.SlotsDistinct) : (x.kept.map Entry.slot).Nodup :=
  List.Nodup.sublist (List.Sublist.map _ List.filter_sublist) h

theorem Group.clearedTo_slotsDistinct (h : x.SlotsDistinct) (ending : SegStatus) (state : GroupState) (notices : NoticeSet) :
    (x.clearedTo v g ending state notices).SlotsDistinct := by
  rw [Group.SlotsDistinct, Group.clearedTo, State.retired_slots]
  exact Group.kept_slotsDistinct h

/-! ## The capture path that is left -/

/-- A state whose capture path is that of a removal, and in which every other group keeps the records that work is
kept for. -/
theorem cleared_of_removeWork (hd : ∀ m, (s.group m).SlotsDistinct) (howner : OwnerLaw s)
    (hqueue : w.captureQueue = s.captureQueue.filter fun r => r.group != g)
    (hconv : w.converter = s.converter.removeGroup g)
    (hwriter : w.writer = s.writer.removeGroup g) (hmark : w.marks.conv = s.marks.conv)
    (hretired : ∀ e ∈ (w.group g).window, e.st = .retiring)
    (hkeeps : ∀ m, m ≠ g → ∀ e ∈ (s.group m).window, e.st = .active ∨ e.st = .draining → w.entry? (e.ref m) = some e) :
    s.Cleared (fun m => m == g) w := by
  have hserved : ∀ {ref : EntryRef} {position : Nat}, s.serves ref position → ref.group ≠ g → w.entry? ref = s.entry? ref := by
    rintro ref position ⟨e, he, hslot, hst, -⟩ hne
    have href : e.ref ref.group = ref := Entry.ref_eq_iff.2 ⟨rfl, hslot⟩
    have hw := hkeeps ref.group hne e he hst
    have hs := State.entry?_of_mem (hd ref.group) he
    rw [href] at hw hs
    rw [hw, hs]
  refine ⟨hqueue, hconv, by rw [hwriter]; rfl, by rw [hwriter]; rfl, ?_, by rw [hwriter]; rfl, hmark, fun m hm e he => ?_,
    fun r hr hg hdrop => ?_, fun ref hr hg => ?_⟩
  · rw [hwriter]
    show (match s.writer.job with | some j => _ | none => _) = _
    cases s.writer.job with
    | none => rfl
    | some j =>
      show (if (j.ref.group == g) = true then none else some j) = if (!(j.ref.group == g)) = true then some j else none
      cases j.ref.group == g <;> rfl
  · rw [eq_of_beq hm] at he
    rw [hretired e he]
    nofun
  · have hne : r.group ≠ g := by simpa using hg
    have hserves : s.serves r.ref r.position := by
      rcases hr with hr | hr
      · exact howner.results r hr
      · exact howner.held r hr
    rw [State.dropsResult, hserved hserves hne] at hdrop
    exact hdrop
  · obtain ⟨-, hfill⟩ := howner.fill
    obtain ⟨-, e, he, hslot, hst, -⟩ := hfill ref hr
    have hw := hkeeps ref.group (by simpa using hg) e he (.inr hst)
    rw [Entry.ref_eq_iff.2 ⟨rfl, hslot⟩] at hw
    rw [hw]
    rfl

/-! ## The broken set -/

theorem Group.breakOut_member (h : x.state = .armed) : x.breakOut false = x.setBroken := by
  unfold Group.breakOut Group.setBroken
  rw [if_pos (by simp [h]), Group.cancelFetch_eq]
  rfl

theorem Group.breakOut_leaver (x : Group) : x.breakOut true = { x with notices := x.notices.add .setBroken } := rfl

/-- Who shares the set of an ARMED group. -/
theorem sharesSet_iff (hs : SetLaw s) (g m : GroupId) :
    ((s.sets.find? fun u => u.members.getLsbD g).any fun u => u.members.getLsbD m) = s.sharesSet g m := by
  rw [Bool.eq_iff_iff, State.sharesSet, List.any_eq_true]
  cases h : s.sets.find? fun u => u.members.getLsbD g with
  | none =>
    constructor
    · nofun
    · rintro ⟨u, hu, hm⟩
      rw [Bool.and_eq_true] at hm
      exact absurd hm.1 (List.find?_eq_none.1 h u hu)
  | some u =>
    have hu := List.mem_of_find?_eq_some h
    have hg := List.find?_some h
    constructor
    · exact fun hm => ⟨u, hu, by rw [Bool.and_eq_true]; exact ⟨hg, hm⟩⟩
    · rintro ⟨u', hu', hm⟩
      rw [Bool.and_eq_true] at hm
      rw [hs.unique hu hu' hg hm.1]
      exact hm.2

/-- The group is a member of its own set, where it is ARMED (R72). -/
theorem sharesSet_self (hs : SetLaw s) (h : (s.group g).state = .armed) : s.sharesSet g g = true := by
  have hone := hs g
  rw [if_pos h, State.setsNaming] at hone
  obtain ⟨u, hu⟩ := List.length_pos_iff_exists_mem.1 (by rw [hone]; decide)
  rw [List.mem_filter] at hu
  rw [State.sharesSet, List.any_eq_true]
  exact ⟨u, hu.1, by rw [hu.2]; rfl⟩

/-- The groups that share a set are ARMED (R72). -/
theorem armed_of_sharesSet (hs : SetLaw s) (h : s.sharesSet g m = true) : (s.group m).state = .armed := by
  rw [State.sharesSet, List.any_eq_true] at h
  obtain ⟨u, hu, hm⟩ := h
  rw [Bool.and_eq_true] at hm
  exact hs.armed hu hm.2

end ClearOut

end Sys2Proof.Machine
end

section
/-! PROOF. A group is taken down: its work removed, its set broken where it was ARMED, and the consequences that follow.
Then the BAD record of an ARMED or STARVED group (R27, R33, R35). -/

namespace Sys2Proof.Machine

section TakenDown

variable {s t v w : State} {g m : GroupId} {x y : Group} {e : Entry}

/-! ## Taking a group down -/

/-- Group `g` is cleared out, and its set is broken where it was ARMED (R33, R40, R42). -/
def State.takenDown (g : GroupId) (ending : SegStatus) (state : GroupState) (notices : NoticeSet → NoticeSet) (v : State) : State :=
  if (v.group g).state = .armed then (v.clearedOut g ending state notices).breakSet g else v.clearedOut g ending state notices

theorem State.faultGroup_takenDown (v : State) (g : GroupId) :
    v.faultGroup g = v.takenDown g .aborted .faulted fun k => k.add .faulted := by
  rw [State.faultGroup_eq, State.takenDown, State.clearedOut]
  simp only [Group.clearOut_to_eq]

theorem State.abortGroup_takenDown (v : State) (g : GroupId) :
    v.abortGroup g = v.takenDown g .aborted (v.group g).state.aborted (abortNotices (v.group g).state) :=
  v.abortGroup_eq g

variable {ending : SegStatus} {state : GroupState} {notices : NoticeSet → NoticeSet}

theorem State.breakSet_converter (s : State) (g : GroupId) :
    (s.breakSet g).converter = s.converter ∧ (s.breakSet g).marks.conv = s.marks.conv := by
  cases h : s.sets.find? fun t => t.members.getLsbD g with
  | none => rw [State.breakSet_of_none h]; exact ⟨rfl, rfl⟩
  | some t =>
    rw [State.breakSet_of_some h]
    have hstep : ∀ u m, (breakMember t.members g u m).converter = u.converter
        ∧ (breakMember t.members g u m).marks.conv = u.marks.conv := fun u m => by
      unfold breakMember
      split <;> exact ⟨rfl, rfl⟩
    exact ⟨foldl_keeps State.converter _ (fun u m => (hstep u m).1) _ _,
      foldl_keeps (fun t => t.marks.conv) _ (fun u m => (hstep u m).2) _ _⟩

theorem clearedOut_sets : (v.clearedOut g ending state notices).sets = v.sets := rfl

theorem takenDown_group_same (hs : (v.group g).state = .armed → SetLaw v) :
    (v.takenDown g ending state notices).group g = (v.group g).clearedTo v g ending state
      (if (v.group g).state = .armed then (notices (v.group g).notices).add .setBroken else notices (v.group g).notices) := by
  unfold State.takenDown
  split
  · next h =>
    have hshares : ((v.sets.find? fun u => u.members.getLsbD g).any fun u => u.members.getLsbD g) = true := by
      rw [sharesSet_iff (hs h), sharesSet_self (hs h) h]
    rw [State.breakSet_group, clearedOut_sets, if_pos hshares, clearedOut_group_same, beq_self_eq_true, Group.breakOut_leaver]
    rfl
  · rw [clearedOut_group_same]

theorem takenDown_group_shares (hs : SetLaw v) (h : (v.group g).state = .armed) (hm : m ≠ g) (hshares : v.sharesSet g m = true) :
    (v.takenDown g ending state notices).group m = (v.group m).setBroken := by
  have hany : ((v.sets.find? fun u => u.members.getLsbD g).any fun u => u.members.getLsbD m) = true := by
    rw [sharesSet_iff hs, hshares]
  have hne : (m == g) = false := by simpa using hm
  rw [State.takenDown, if_pos h, State.breakSet_group, clearedOut_sets, if_pos hany, clearedOut_group_ne _ _ _ hm, hne,
    Group.breakOut_member (armed_of_sharesSet hs hshares)]

theorem takenDown_group_other (hs : (v.group g).state = .armed → SetLaw v) (hm : m ≠ g)
    (hno : ¬((v.group g).state = .armed ∧ v.sharesSet g m = true)) :
    (v.takenDown g ending state notices).group m = v.group m := by
  unfold State.takenDown
  split
  · next h =>
    have hany : ¬((v.sets.find? fun u => u.members.getLsbD g).any fun u => u.members.getLsbD m) = true := by
      rw [sharesSet_iff (hs h)]
      exact fun hshares => hno ⟨h, hshares⟩
    rw [State.breakSet_group, clearedOut_sets, if_neg hany, clearedOut_group_ne _ _ _ hm]
  · rw [clearedOut_group_ne _ _ _ hm]

theorem takenDown_sets : (v.takenDown g ending state notices).sets =
    if (v.group g).state = .armed then v.sets.filter (fun u => !u.members.getLsbD g) else v.sets := by
  unfold State.takenDown
  split
  · rw [State.breakSet_sets]; rfl
  · rfl

theorem takenDown_path : (v.takenDown g ending state notices).captureQueue = (v.captureQueue.filter fun r => r.group != g)
    ∧ (v.takenDown g ending state notices).converter = v.converter.removeGroup g
    ∧ (v.takenDown g ending state notices).writer = v.writer.removeGroup g
    ∧ (v.takenDown g ending state notices).marks.conv = v.marks.conv := by
  unfold State.takenDown
  split
  · rw [State.breakSet_captureQueue, State.breakSet_writer, (State.breakSet_converter _ g).1, (State.breakSet_converter _ g).2]
    exact ⟨rfl, rfl, rfl, rfl⟩
  · exact ⟨rfl, rfl, rfl, rfl⟩

/-- The rest of the state under the taking down of a group. -/
theorem takenDown_rest : (v.takenDown g ending state notices).fixed = v.fixed
    ∧ (v.takenDown g ending state notices).pairs = v.pairs ∧ (v.takenDown g ending state notices).tokens = v.tokens
    ∧ (v.takenDown g ending state notices).ticks = v.ticks := by
  unfold State.takenDown State.clearedOut
  split
  · rw [State.fixed_breakSet, State.pairs_breakSet, State.tokens_breakSet, State.ticks_breakSet]
    exact ⟨rfl, rfl, rfl, rfl⟩
  · exact ⟨rfl, rfl, rfl, rfl⟩

/-! ## The consequences -/

/-- A state in which group `g` of `s` has been taken down, and other groups are as in `s` or have left a set that was
broken. -/
structure State.TookDown (s : State) (g : GroupId) (w : State) : Prop where
  queue : w.captureQueue = s.captureQueue.filter fun r => r.group != g
  converter : w.converter = s.converter.removeGroup g
  writer : w.writer = s.writer.removeGroup g
  mark : w.marks.conv = s.marks.conv
  retired : ∀ e ∈ (w.group g).window, e.st = .retiring
  slots : (w.group g).SlotsDistinct
  state : (w.group g).state ≠ .stopping
  others : ∀ m, m ≠ g → w.group m = s.group m
    ∨ ((s.group m).state = .armed ∧ (∀ e ∈ (s.group m).window, e.isWaiting = true) ∧ w.group m = (s.group m).setBroken)

theorem Group.setBroken_slotsDistinct (h : x.SlotsDistinct) : x.setBroken.SlotsDistinct := by
  unfold Group.setBroken
  rw [Group.SlotsDistinct, List.map_map]
  convert Group.kept_slotsDistinct h using 1
  refine List.map_congr_left fun e _ => ?_
  rw [Function.comp_apply]
  split <;> rfl

theorem State.TookDown.slotsDistinct (h : s.TookDown g w) (hd : ∀ m, (s.group m).SlotsDistinct) (m : GroupId) :
    (w.group m).SlotsDistinct := by
  by_cases hm : m = g
  · rw [hm]; exact h.slots
  · rcases h.others m hm with heq | ⟨-, -, heq⟩
    · rw [heq]; exact hd m
    · rw [heq]; exact Group.setBroken_slotsDistinct (hd m)

/-- A group in which nothing drains and no stop may end is left by the consequences as it is. -/
theorem Group.Drains.eq_of_still (h : Group.Drains x y) (hno : ∀ e ∈ x.window, e.st ≠ .draining) (hst : x.state ≠ .stopping) :
    y = x := by
  have hw : y.window = x.window := by
    have hall := h.forall₂
    generalize y.window = k at hall
    generalize x.window = l at hall hno
    induction hall with
    | nil => rfl
    | @cons e f l k h1 _ ih =>
      rw [ih fun d hd => hno d (List.mem_cons_of_mem _ hd)]
      rcases h1 with rfl | ⟨hdr, -⟩
      · rfl
      · exact absurd hdr (hno e List.mem_cons_self)
  obtain ⟨heq, -, -, ⟨hstate, hnotices⟩ | ⟨hstop, -⟩⟩ := h
  · rw [heq, hw, hstate, hnotices]
  · exact absurd hstop hst

theorem setBroken_not_draining (h : ∀ e ∈ x.window, e.isWaiting = true) : ∀ e ∈ x.setBroken.window, e.st ≠ .draining := by
  intro e he
  obtain ⟨d, hd, rfl⟩ := List.mem_map.1 he
  have hw := h d (List.mem_filter.1 hd).1
  have hne : d.st ≠ .draining := by
    intro hst
    rw [Entry.isWaiting, hst] at hw
    cases hw
  split
  · nofun
  · nofun
  · exact hne

/-- What follows the taking down of a group (R89, R95, R96, R111). -/
theorem State.TookDown.follows (h : s.TookDown g w) (hcap : CaptureLaw s) (howner : OwnerLaw s)
    (hd : ∀ m, (s.group m).SlotsDistinct) (hrun : w.isRunning = true) :
    WorkRemoved (fun m => m == g) s w.pump.settle ∧ w.pump.settle.group g = w.group g
      ∧ (∀ m, m ≠ g → w.group m = s.group m → w.pump.settle.Drains m (s.group m))
      ∧ ∀ m, m ≠ g → (∀ e ∈ (s.group m).window, e.isWaiting = true) → w.group m = (s.group m).setBroken →
          w.pump.settle.group m = (s.group m).setBroken := by
  have hslots := h.slotsDistinct hd
  have hdrains := fun m => State.pump_drains hslots m
  have hcleared : s.Cleared (fun m => m == g) w := by
    refine cleared_of_removeWork hd howner h.queue h.converter h.writer h.mark h.retired fun m hm e he hst => ?_
    rcases h.others m hm with heq | ⟨-, hwaits, -⟩
    · rw [← heq] at he
      exact State.entry?_of_mem (hslots m) he
    · have hw := hwaits e he
      rcases hst with hst | hst <;> rw [Entry.isWaiting, hst] at hw <;> cases hw
  have hremoved : WorkRemoved (fun m => m == g) s (State.pumpRounds 8 w) :=
    WorkRemoved.of_cleared hcap hcleared hslots (consequences_pumpRounds 8 w) (State.pumpRounds_idle hrun (by decide))
  refine ⟨?_, ?_, fun m hm heq => ?_, fun m hm hwaits heq => ?_⟩
  · have hpump : w.pump = { State.pumpRounds 8 w with groups := w.pump.groups } := by
      rw [State.pump_of_running hrun]
      exact State.finishStops_eq _
    generalize State.pumpRounds 8 w = p at hremoved hpump
    generalize w.pump = t at hpump
    rw [hpump]
    obtain ⟨h1, h2, h3, h4, h5, h6, h7, h8, h9, h10, h11, h12, h13, h14, h15⟩ := hremoved
    exact ⟨h1, h2, h3, h4, h5, h6, h7, h8, h9, h10, h11, h12, h13, h14, h15⟩
  · rw [State.settle_group]
    refine (hdrains g).1.eq_of_still (fun e he hst => ?_) h.state
    rw [h.retired e he] at hst
    cases hst
  · have hm := hdrains m
    rw [heq] at hm
    generalize w.pump = t at hm
    exact hm
  · have hm := (hdrains m).1
    rw [heq] at hm
    rw [State.settle_group]
    exact hm.eq_of_still (setBroken_not_draining hwaits) nofun

/-! ## A BAD record -/

theorem readAnswered_of_faults {f : Entry → Entry} (h : (s.group g).hasFetching = true)
    (hf : ((s.group g).settleFetch f).readFaults = true) :
    s.readAnswered g f = (((s.answered (.fetcher g)).modGroup g (Group.settleFetch f)).faultGroup g).pump := by
  have hyes : ((s.answered (.fetcher g)).group g).hasFetching = true := h
  have hfault : (((s.answered (.fetcher g)).modGroup g (Group.settleFetch f)).group g).readFaults = true := by
    rw [State.group_modGroup_same]
    exact hf
  simp only [State.readAnswered, hyes, if_true, hfault]

theorem settled_answered (hs : Settled s) (r : Requester) : Settled (s.answered r) := by
  have hcomm : (s.answered r).settle = s.settle.answered r := rfl
  rw [Settled, hcomm, hs]

/-- What an answer leads to differs from the state before it by the port. -/
theorem sameExcept_of_answered {touched : List Block} {r : Requester} (hport : .port ∈ touched)
    (h : SameExcept touched (s.answered r) t) : SameExcept touched s t := by
  intro b hb
  have hsame := h b hb
  cases b with
  | port => exact absurd hport hb
  | resetPin | registers | group _ | pairs | tokens | sets | captureQueue | converter | resultWriter | events | tripUnit
  | admin | completion | requests | groupTicks => exact hsame

/-- The taking down of group `g` by a fault, an ABORT or a trip, over a state `v` that shows what `s` shows elsewhere. -/
theorem tookDown_of_takenDown (hd : (v.group g).SlotsDistinct) (hs : (v.group g).state = .armed → SetLaw v)
    (hrest : (v.group g).state = .armed → RestLaw s)
    (hqueue : v.captureQueue = s.captureQueue) (hconv : v.converter = s.converter) (hwriter : v.writer = s.writer)
    (hmark : v.marks.conv = s.marks.conv) (hstate : state ≠ .stopping)
    (hothers : ∀ m, m ≠ g → v.group m = s.group m) : s.TookDown g (v.takenDown g ending state notices) := by
  obtain ⟨hq, hc, hw, hm⟩ := takenDown_path (v := v) (g := g) (ending := ending) (state := state) (notices := notices)
  refine ⟨by rw [hq, hqueue], by rw [hc, hconv], by rw [hw, hwriter], by rw [hm, hmark], ?_, ?_, ?_, fun m hne => ?_⟩
  · rw [takenDown_group_same hs]
    exact State.retired_st _ _ _ _
  · rw [takenDown_group_same hs]
    exact Group.clearedTo_slotsDistinct hd _ _ _
  · rw [takenDown_group_same hs]
    exact hstate
  · by_cases hshares : (v.group g).state = .armed ∧ v.sharesSet g m = true
    · have harmed : (s.group m).state = .armed := by
        rw [← hothers m hne]
        exact armed_of_sharesSet (hs hshares.1) hshares.2
      refine .inr ⟨harmed, (hrest hshares.1 m).2 harmed, ?_⟩
      rw [takenDown_group_shares (hs hshares.1) hshares.1 hne hshares.2, hothers m hne]
    · rw [takenDown_group_other hs hne hshares]
      exact .inl (hothers m hne)

/-- The taking down leaves the group without a record to show. -/
theorem takenDown_not_producing (hs : (v.group g).state = .armed → SetLaw v) :
    ((v.takenDown g ending state notices).group g).producing = false := by
  rw [takenDown_group_same hs]
  have hno : ((v.group g).clearedTo v g ending state
      (if (v.group g).state = .armed then (notices (v.group g).notices).add .setBroken else notices (v.group g).notices)).hasActive
      = false := by
    rw [Group.hasActive, List.any_eq_false]
    intro e he
    rw [State.retired_st _ _ _ _ e he]
    decide
  rw [Group.producing, hno, Bool.false_and]

/-- The members of a broken set produce nothing, before and after. -/
theorem Group.setBroken_producing (x : Group) : x.setBroken.producing = false := by
  simp [Group.producing, Group.setBroken]

theorem Group.not_producing_of_armed (h : x.state = .armed) : x.producing = false := by
  simp [Group.producing, h]

theorem Group.not_producing_of_starved (h : x.state = .starved) : x.producing = false := by
  simp [Group.producing, h]

theorem State.TookDown.producing (h : s.TookDown g w) (hm : m ≠ g) : (w.group m).producing = (s.group m).producing := by
  rcases h.others m hm with heq | ⟨harmed, -, heq⟩
  · rw [heq]
  · rw [heq, Group.setBroken_producing, Group.not_producing_of_armed harmed]

/-- A group whose records are all kept, none being fetched. -/
theorem Group.kept_eq_self (h : ∀ e ∈ x.window, e.st ≠ .fetching) : x.kept = x.window ∧ x.steppedBack = x.ring := by
  refine ⟨List.filter_eq_self.2 fun e he => by simpa using h e he, if_neg ?_⟩
  simpa [Group.hasFetching] using h

theorem fetched_st (slot : Slot64) (valid : Bool) (e : Entry) : (e.fetched slot valid).st ≠ .fetching := by
  cases valid <;> simp [Entry.fetched]

/-- A BAD record faults an ARMED group at its oldest place and a STARVED one as its next (R27, R35). -/
theorem readFaults_of_bad (h : (x.state = .armed ∧ ∃ e, x.window.head? = some e ∧ e.st = .bad)
    ∨ (x.state = .starved ∧ ∃ e, x.window.find? Entry.isWaiting = some e ∧ e.st = .bad)) : x.readFaults = true := by
  rcases h with ⟨hst, e, he, hbad⟩ | ⟨hst, e, he, hbad⟩
  · simp [Group.readFaults, Group.firstBad, hst, he, hbad]
  · simp [Group.readFaults, Group.nextBad, Group.next?, hst, he, hbad]

/-- Work is looked for on the capture path alone. -/
theorem State.retired_of_path (hqueue : v.captureQueue = s.captureQueue) (hconv : v.converter = s.converter)
    (hwriter : v.writer = s.writer) (g : GroupId) (ending : SegStatus) (l : List Entry) :
    v.retired g ending l = s.retired g ending l := by
  have hwork : v.hasWork g = s.hasWork g := funext fun e => by
    rw [State.hasWork, State.hasWork, hqueue, hconv, hwriter]
  rw [State.retired, State.retired, hwork]

/-- Settles O32: the settled read leaves a BAD record, the group is taken down, and the consequences follow. -/
theorem badRecordFaultsAnArmedOrStarvedGroup : Obligations.BadRecordFaultsAnArmedOrStarvedGroup := by
  unfold Obligations.BadRecordFaultsAnArmedOrStarvedGroup
  intro s g slot hs hring hrest hset hcap howner ha hfetch x c f hcf w hbad
  have hcases : SettlesFetch f ∧ (∀ e, (f e).st ≠ .fetching) ∧ exec c s = .next (s.readAnswered g f).settle := by
    rcases hcf with ⟨rfl, rfl⟩ | ⟨rfl, rfl⟩
    · exact ⟨settlesFetch_fetched slot _, fetched_st slot _, answer_of_awaits ha _⟩
    · exact ⟨settlesFetch_fetchFailed, fun e => by simp [Entry.fetchFailed], answer_of_awaits ha _⟩
  obtain ⟨hf, hnofetch, hexec⟩ := hcases
  have hw : (x.settleFetch f).window = w := congrArg Group.window (Group.settleFetch_eq x f)
  have hstate : (x.settleFetch f).state = x.state := rfl
  have hno : ∀ e ∈ (x.settleFetch f).window, e.st ≠ .fetching := by
    intro e he
    rw [hw] at he
    obtain ⟨d, -, rfl⟩ := List.mem_map.1 he
    split
    · exact hnofetch d
    · assumption
  obtain ⟨hkept, hback⟩ := Group.kept_eq_self hno
  rw [readAnswered_of_faults ((Group.hasFetching_iff _).2 hfetch) (readFaults_of_bad (by rw [hw]; exact hbad)),
    State.faultGroup_takenDown] at hexec
  generalize hv : (s.answered (.fetcher g)).modGroup g (Group.settleFetch f) = v at hexec
  have hgroup : v.group g = x.settleFetch f := by rw [← hv]; exact State.group_modGroup_same ..
  have hothers : ∀ m, m ≠ g → v.group m = s.group m := fun m hm => by rw [← hv]; exact State.group_modGroup_ne _ _ hm
  have hpath : v.captureQueue = s.captureQueue ∧ v.converter = s.converter ∧ v.writer = s.writer
      ∧ v.marks.conv = s.marks.conv ∧ v.sets = s.sets ∧ v.fixed = (s.answered (.fetcher g)).fixed ∧ v.pairs = s.pairs
      ∧ v.tokens = s.tokens ∧ v.ticks = s.ticks := by
    rw [← hv]
    exact ⟨rfl, rfl, rfl, rfl, rfl, rfl, rfl, rfl, rfl⟩
  obtain ⟨hqueue, hconv, hwriter, hmark, hsets, hfixed, hpairs, htokens, hticks⟩ := hpath
  have hvstate : (v.group g).state = x.state := by rw [hgroup]; rfl
  have hvset : SetLaw v := setLaw_of_same hset hsets fun m => by
    by_cases hm : m = g
    · rw [hm, hvstate]
    · rw [hothers m hm]
  have hshares : ∀ m, v.sharesSet g m = s.sharesSet g m := fun m => by rw [State.sharesSet, hsets]; rfl
  have hd : ∀ m, (s.group m).SlotsDistinct := fun m => (hring m).slotsDistinct
  have htook : s.TookDown g (v.takenDown g .aborted .faulted fun k => k.add .faulted) :=
    tookDown_of_takenDown (by rw [hgroup]; exact (hd g).of_recast (settleFetch_recast hf x)) (fun _ => hvset) (fun _ => hrest) hqueue hconv
      hwriter hmark nofun hothers
  have hsame := takenDown_group_same (ending := .aborted) (state := .faulted) (notices := fun k => k.add .faulted)
    (v := v) (g := g) fun _ => hvset
  have hmember : ∀ m, m ≠ g → x.state = .armed → s.sharesSet g m = true →
      (v.takenDown g .aborted .faulted fun k => k.add .faulted).group m = (s.group m).setBroken := fun m hm harmed hsh => by
    rw [takenDown_group_shares hvset (hvstate.trans harmed) hm ((hshares m).trans hsh), hothers m hm]
  have hother : ∀ m, m ≠ g → ¬(x.state = .armed ∧ s.sharesSet g m = true) →
      (v.takenDown g .aborted .faulted fun k => k.add .faulted).group m = s.group m := fun m hm hno => by
    rw [takenDown_group_other (fun _ => hvset) hm (by rw [hvstate, hshares]; exact hno), hothers m hm]
  have hwsets := takenDown_sets (v := v) (g := g) (ending := .aborted) (state := .faulted) (notices := fun k => k.add .faulted)
  have hnot := takenDown_not_producing (ending := .aborted) (state := .faulted) (notices := fun k => k.add .faulted)
    (v := v) (g := g) fun _ => hvset
  obtain ⟨hwfixed, hwpairs, hwtokens, hwticks⟩ := takenDown_rest (v := v) (g := g) (ending := .aborted) (state := .faulted)
    (notices := fun k => k.add .faulted)
  rw [hfixed] at hwfixed
  rw [hpairs] at hwpairs
  rw [htokens] at hwtokens
  rw [hticks] at hwticks
  generalize v.takenDown g .aborted .faulted (fun k => k.add .faulted) = u at *
  have hrun : u.isRunning = true := by
    rw [State.isRunning_of_fixed (t := u) (s := s.answered (.fetcher g)) hwfixed]
    exact beq_iff_eq.2 ha.1
  obtain ⟨hremoved, hleft, hdrains, hbroken⟩ := htook.follows hcap howner hd hrun
  have hslots := htook.slotsDistinct hd
  have hpf : u.pump.fixed = (s.answered (.fetcher g)).fixed := u.fixed_pump.trans hwfixed
  refine ⟨_, hexec, ?_, hremoved, ?_, fun m hm harmed hsh => ?_, fun m hm hno => hdrains m hm (hother m hm hno), ?_, ?_⟩
  · rw [hleft, hsame, hgroup, Group.clearedTo, hkept, hback, hw, State.retired_of_path hqueue hconv hwriter]
    rfl
  · show u.pump.sets = _
    rw [u.sets_pump, hwsets, hvstate, hsets]
  · exact hbroken m hm ((hrest m).2 (armed_of_sharesSet hset hsh)) (hmember m hm harmed hsh)
  · exact ⟨congrArg Fixed.bus hpf, congrArg Fixed.lastFetcher hpf, congrArg Fixed.grantMark hpf⟩
  · refine sameExcept_of_answered (r := .fetcher g) (by simp) (frame_of_fixed (settled_answered hs _) hpf _ (fun m hm => ?_)
      (fun _ => ?_) (fun _ => u.tokens_pump.trans hwtokens) (fun h => absurd (by simp) h) (fun h => absurd (by simp) h)
      (fun h => absurd (by simp) h) (fun h => absurd (by simp) h) (fun h => absurd (by simp) h) fun _ => u.ticks_pump.trans hwticks)
    · exact absurd (by fin_cases m <;> simp) hm
    · refine settle_pairs_of_same (settled_answered hs _) (sameSelection_of_fixed hpf fun m => ?_) (u.pairs_pump.trans hwpairs)
      rw [State.pump_producing hslots]
      by_cases hm : m = g
      · rw [hm, hnot]
        rcases hbad with ⟨hst, -⟩ | ⟨hst, -⟩
        · exact (Group.not_producing_of_armed hst).symm
        · exact (Group.not_producing_of_starved hst).symm
      · exact htook.producing hm

end TakenDown

end Sys2Proof.Machine
end

section
/-! PROOF. The boundaries at which a record ends: the group starves, faults or stops (R32, R34, R37, R38). -/

namespace Sys2Proof.Machine

section Endings

variable {s v : State} {g m : GroupId} {x : Group} {e n : Entry}

/-! ## The window in which a record has ended -/

/-- An entry of a window in which `e` has ended. -/
abbrev Entry.endedIn (e : Entry) (status : SegStatus) (saturated : Bool) (f : Entry) : Entry :=
  if f.slot = e.slot then e.ended status saturated else f

theorem endedIn_not_active (h : x.RunsOne e) (status : SegStatus) (sat : Bool) :
    ∀ f ∈ x.window, (e.endedIn status sat f).st ≠ .active := by
  intro f hf hact
  unfold Entry.endedIn at hact
  split at hact
  · cases hact
  · next hslot => exact hslot (congrArg Entry.slot (h.alone f hf hact))

theorem ended_fetching_iff (h : x.RunsOne e) (status : SegStatus) (sat : Bool) {f : Entry} (hf : f ∈ x.window) :
    (e.endedIn status sat f).st = .fetching ↔ f.st = .fetching := by
  unfold Entry.endedIn
  split
  · next hslot =>
    rw [h.slots.eq hf h.mem hslot, h.st]
    simp
  · exact Iff.rfl

theorem Group.ended_kept (h : x.RunsOne e) (status : SegStatus) (sat : Bool) :
    (x.ended e status sat).kept = x.kept.map (e.endedIn status sat) := by
  unfold Group.kept Group.ended
  dsimp only
  rw [List.filter_map]
  congr 1
  refine List.filter_congr fun f hf => ?_
  have hiff := ended_fetching_iff h status sat hf
  unfold Entry.endedIn at hiff
  rw [Function.comp_apply, Bool.eq_iff_iff, bne_iff_ne, bne_iff_ne, Ne, hiff]

theorem Group.ended_steppedBack (h : x.RunsOne e) (status : SegStatus) (sat : Bool) :
    (x.ended e status sat).steppedBack = x.steppedBack := by
  have hfetching : (x.ended e status sat).hasFetching = x.hasFetching := by
    unfold Group.hasFetching Group.ended
    dsimp only
    rw [List.any_map]
    refine Bool.eq_iff_iff.2 ?_
    simp only [List.any_eq_true, Function.comp_apply, beq_iff_eq]
    exact exists_congr fun f => and_congr_right fun hf => ended_fetching_iff h status sat hf
  unfold Group.steppedBack
  rw [hfetching]
  rfl

theorem Group.ended_slotsDistinct (h : x.RunsOne e) (status : SegStatus) (sat : Bool) : (x.ended e status sat).SlotsDistinct := by
  rw [Group.SlotsDistinct, Group.ended, List.map_map]
  convert h.slots using 1
  refine List.map_congr_left fun f _ => ?_
  rw [Function.comp_apply]
  split
  · next hslot => exact hslot.symm
  · rfl

/-- Where nothing is ACTIVE, the status of the ending does not matter. -/
theorem State.retired_of_not_active (s : State) (g : GroupId) (a b : SegStatus) {l : List Entry} (h : ∀ f ∈ l, f.st ≠ .active) :
    s.retired g a l = s.retired g b l := by
  refine List.map_congr_left fun f hf => ?_
  cases hst : f.st with
  | active => exact absurd hst (h f hf)
  | fetching | ready | bad | draining | retiring => rfl

/-! ## The state in which a record has ended -/

theorem ended_path (status : SegStatus) : (s.ended g e status).captureQueue = s.captureQueue
    ∧ (s.ended g e status).converter = s.converter ∧ (s.ended g e status).writer = s.writer
    ∧ (s.ended g e status).marks.conv = s.marks.conv := ⟨rfl, rfl, rfl, rfl⟩

theorem ended_group_same (status : SegStatus) : (s.ended g e status).group g =
    (s.group g).ended e status (decide (status = SegStatus.ok) && endPostSaturates s e.copy) := State.group_modGroup_same ..

theorem ended_group_ne (status : SegStatus) (hm : m ≠ g) : (s.ended g e status).group m = s.group m :=
  State.group_modGroup_ne _ _ hm

/-- What a boundary shows at which the group faults (R34). -/
theorem periodBoundary_faults {status : SegStatus} (hB : BoundaryOf s g e)
    (hv : (s.markTick g).boundary g e = (s.ended g e status).faultGroup g) :
    ∃ t, exec (.periodBoundary g) s = .next t ∧ TakesTick s t g
      ∧ t.tokens = (if status = SegStatus.ok then tokensAfterEndPost s e.copy else s.tokens)
      ∧ t.group g = { s.group g with
          window := s.retired g .ok ((s.group g).kept.map
            (e.endedIn status (decide (status = SegStatus.ok) && endPostSaturates s e.copy)))
          ring := (s.group g).steppedBack
          counter := 0, slope := .up, pendingStop := .noStop, state := .faulted
          notices := (s.group g).notices.add .faulted }
      ∧ WorkRemoved (fun m => m == g) s t
      ∧ (∀ m, m ≠ g → t.Drains m (s.group m))
      ∧ PairsOfGroup s t g (LeavesTheWaveform s t)
      ∧ SameExcept
          (everyGroup ++ [.pairs, .tokens, .captureQueue, .converter, .resultWriter, .requests, .groupTicks]) s t := by
  have hone := hB.runsOne
  obtain ⟨hs, hring, -, hcapture, howner, hdue, hb, ha⟩ := hB
  have hexec := exec_periodBoundary hdue hb ha
  rw [hv, State.faultGroup_takenDown] at hexec
  obtain ⟨hqueue, hconv, hwriter, hmark⟩ := ended_path (s := s) (g := g) (e := e) status
  have hgroup := ended_group_same (s := s) (g := g) (e := e) status
  have hstate : ((s.ended g e status).group g).state ≠ .armed := by
    rw [hgroup]
    rcases Group.running_of_atBoundary hb with h | h <;> exact fun harmed => GroupState.noConfusion (h.symm.trans harmed)
  have hd : ∀ m, (s.group m).SlotsDistinct := fun m => (hring m).slotsDistinct
  have hset : ((s.ended g e status).group g).state = .armed → SetLaw (s.ended g e status) := fun h => absurd h hstate
  have hothers : ∀ m, m ≠ g → (s.ended g e status).group m = s.group m := fun m hm => ended_group_ne status hm
  have htook : s.TookDown g ((s.ended g e status).takenDown g .aborted .faulted fun k => k.add .faulted) :=
    tookDown_of_takenDown (by rw [hgroup]; exact Group.ended_slotsDistinct hone _ _) hset (fun h => absurd h hstate) hqueue hconv
      hwriter hmark nofun hothers
  have hsame := takenDown_group_same (ending := .aborted) (state := .faulted) (notices := fun k => k.add .faulted) hset
  have hother : ∀ m, m ≠ g →
      ((s.ended g e status).takenDown g .aborted .faulted fun k => k.add .faulted).group m = s.group m := fun m hm => by
    rw [takenDown_group_other hset hm fun h => hstate h.1, hothers m hm]
  have hwsets := takenDown_sets (v := s.ended g e status) (g := g) (ending := .aborted) (state := .faulted)
    (notices := fun k => k.add .faulted)
  have hnot := takenDown_not_producing (ending := .aborted) (state := .faulted) (notices := fun k => k.add .faulted) hset
  obtain ⟨hwfixed, hwpairs, hwtokens, hwticks⟩ := takenDown_rest (v := s.ended g e status) (g := g) (ending := .aborted)
    (state := .faulted) (notices := fun k => k.add .faulted)
  have hfixed : (s.ended g e status).fixed = s.fixed := rfl
  have hpairs : (s.ended g e status).pairs = s.pairs := rfl
  have hsets : (s.ended g e status).sets = s.sets := rfl
  have htokens : (s.ended g e status).tokens = if status = SegStatus.ok then tokensAfterEndPost s e.copy else s.tokens := rfl
  have hticks : (s.ended g e status).ticks = s.marks.group.set g true := rfl
  have hretired : ∀ a l, (s.ended g e status).retired g a l = s.retired g a l := fun a l =>
    State.retired_of_path hqueue hconv hwriter g a l
  rw [if_neg hstate, hsets] at hwsets
  rw [hfixed] at hwfixed
  rw [hpairs] at hwpairs
  rw [htokens] at hwtokens
  rw [hticks] at hwticks
  generalize (s.ended g e status).takenDown g .aborted .faulted (fun k => k.add .faulted) = u at *
  have hafter : u.afterBoundary g = u := if_neg (by rw [hnot]; decide)
  rw [hafter] at hexec
  have hrun : s.ctrl = .running := State.tickDue_running hdue
  have hisrun : u.isRunning = true := by
    rw [State.isRunning_of_fixed hwfixed]
    exact beq_iff_eq.2 hrun
  obtain ⟨hremoved, hleft, hdrains, -⟩ := htook.follows hcapture howner hd hisrun
  have hslots := htook.slotsDistinct hd
  refine ⟨_, hexec, (pump_ticks u).trans hwticks, u.tokens_pump.trans hwtokens, ?_, hremoved,
    fun m hm => hdrains m hm (hother m hm), ?_, pump_frame hs hwfixed hwsets⟩
  · rw [hleft, hsame, if_neg hstate, hgroup, Group.clearedTo, Group.ended_kept hone, Group.ended_steppedBack hone, hretired,
      State.retired_of_not_active s g .aborted .ok fun f hf => ?_]
    · rfl
    · obtain ⟨d, hd, rfl⟩ := List.mem_map.1 hf
      exact endedIn_not_active hone _ _ d (List.mem_filter.1 hd).1
  · refine pairsOfGroup_of_leaves hs (u.fixed_pump.trans hwfixed) hrun (fun m hm => ?_) ?_ (u.pairs_pump.trans hwpairs)
    · rw [State.pump_producing hslots, hother m hm]
    · rw [State.pump_producing hslots, hnot]

/-- The state after a further change of the group whose record has ended. -/
theorem ended_modGroup (status : SegStatus) (f : Group → Group) : (s.ended g e status).modGroup g f =
    { s.setGroup g (f ((s.group g).ended e status (decide (status = SegStatus.ok) && endPostSaturates s e.copy))) with
      tokens := if status = SegStatus.ok then tokensAfterEndPost s e.copy else s.tokens
      marks := { s.marks with group := s.marks.group.set g true } } := by
  rw [State.ended, State.modGroup_modGroup]
  rfl

theorem runningBoundary_of_starves {u : State} (hn : (u.group g).next? = none) (hhold : Seg.hold e.copy = false)
    (hle : Seg.repeats e.copy ≤ e.periodsRun) : u.runningBoundary g e = u.starve g e := by
  unfold State.runningBoundary
  rw [hn]
  exact if_neg (by simp [hhold, Nat.not_lt.2 hle])

theorem runningBoundary_of_faults {u : State} (hn : (u.group g).next? = some n) (hbad : n.st = .bad)
    (hhold : Seg.hold e.copy = false) (hle : Seg.repeats e.copy ≤ e.periodsRun) :
    u.runningBoundary g e = u.endAndFault g e := by
  unfold State.runningBoundary
  rw [hn]
  dsimp only
  rw [if_neg (by rw [hbad]; decide)]
  exact if_neg (by simp [hhold, Nat.not_lt.2 hle])

/-- The group that starves at the boundary that ends its record (R32). -/
def Group.starved (x : Group) : Group := { x.holdCounter with state := .starved }.notify .starved

theorem Group.starved_endsAt (h : (s.group g).RunsOne e) (status : SegStatus) (sat : Bool) :
    EndsAt s g ((s.group g).ended e status sat).starved := by
  refine ⟨Group.ended_slotsDistinct h status sat, fun f hf => ?_⟩
  obtain ⟨d, hd, rfl⟩ := List.mem_map.1 hf
  exact endedIn_not_active h status sat d hd

theorem Group.starved_ended (x : Group) (e : Entry) (sat : Bool) : (x.ended e .ok sat).starved = { x with
    window := x.window.map (e.endedIn .ok sat)
    counter := 0, slope := .up, state := .starved, notices := x.notices.add .starved } := rfl

/-- Settles O39: the record ends, its AT_END post is made, and the group starves or faults. -/
theorem boundaryStarvesOrFaults : Obligations.BoundaryStarvesOrFaults := by
  unfold Obligations.BoundaryStarvesOrFaults
  intro s g e hB hst hhold hle x ended touched
  have hone := hB.runsOne
  have hnext := atPeriodEnd_next? hB
  have hend := ended_eq hone .ok
  rw [if_pos (by decide)] at hend
  refine ⟨fun hnone => ?_, fun n hn hbad => ?_⟩
  · have hv : (s.markTick g).boundary g e = (s.ended g e .ok).modGroup g Group.starved := by
      rw [boundary_of_running hst, runningBoundary_of_starves (e := e.counted) (hnext.trans hnone) hhold hle, ← hend,
        State.modGroup_modGroup]
      rfl
    rw [ended_modGroup, if_pos rfl, decide_eq_true rfl, Bool.true_and] at hv
    have hboundary := periodBoundary_ends hB (Group.starved_endsAt hone .ok (endPostSaturates s e.copy)) hv
    rw [Group.starved_ended] at hboundary
    obtain ⟨t, hexec, htick, htokens, hfollows, -, hpairs, hframe⟩ := hboundary
    exact ⟨t, hexec, htick, htokens, hfollows, hpairs, hframe⟩
  · have hv : (s.markTick g).boundary g e = (s.ended g e .ok).faultGroup g := by
      rw [boundary_of_running hst, runningBoundary_of_faults (e := e.counted) (hnext.trans hn) hbad hhold hle, ← hend]
      rfl
    have hboundary := periodBoundary_faults hB hv
    rw [if_pos rfl, decide_eq_true rfl, Bool.true_and] at hboundary
    exact hboundary

/-! ## A STOPPING group -/

/-- The status with which a stop ends a record (R37). -/
abbrev Entry.stopStatus (e : Entry) : SegStatus := if e.runDone then .ok else .cut

/-- The group that a stop leaves at the boundary that ends its record (R38). -/
def Group.stopped (x : Group) : Group := { x.retireWaiting.holdCounter with pendingStop := .noStop }

theorem stopEnding_eq (h : BoundaryOf s g e) (status : SegStatus) :
    (s.atPeriodEnd g e).stopEnding g e.counted status =
      if (s.group g).nextBad then (s.ended g e status).faultGroup g else (s.ended g e status).modGroup g Group.stopped := by
  have hbad : ((s.atPeriodEnd g e).group g).nextBad = (s.group g).nextBad := by
    rw [Group.nextBad, atPeriodEnd_next? h, Group.nextBad]
  unfold State.stopEnding
  rw [hbad, ended_eq h.runsOne]
  rfl

theorem stoppingBoundary_of_ends (h : BoundaryOf s g e) (hst : (s.group g).state = .stopping)
    (hstop : (s.group g).pendingStop = .periodEnd ∨ ((s.group g).pendingStop = .segmentEnd ∧ e.counted.runDone = true)) :
    (s.markTick g).boundary g e =
      if (s.group g).nextBad then (s.ended g e e.counted.stopStatus).faultGroup g
      else (s.ended g e e.counted.stopStatus).modGroup g Group.stopped := by
  have hpending : ((s.atPeriodEnd g e).group g).pendingStop = (s.group g).pendingStop := by rw [atPeriodEnd_group]; rfl
  rw [boundary_of_stopping hst, ← stopEnding_eq h, State.stoppingBoundary, hpending]
  rcases hstop with hp | ⟨hp, hdone⟩
  · rw [hp]
  · rw [hp, Entry.stopStatus, hdone]
    rfl

theorem stoppingBoundary_of_goesOn (hst : (s.group g).state = .stopping) (hp : (s.group g).pendingStop = .segmentEnd)
    (hdone : e.counted.runDone = false) : (s.markTick g).boundary g e = s.atPeriodEnd g e := by
  have hpending : ((s.atPeriodEnd g e).group g).pendingStop = (s.group g).pendingStop := by rw [atPeriodEnd_group]; rfl
  rw [boundary_of_stopping hst, State.stoppingBoundary, hpending, hp, hdone]
  rfl

/-- The window that a stop leaves at a boundary (R38). -/
theorem Group.stopped_window (h : x.RunsOne e) (status : SegStatus) (sat : Bool) :
    (x.ended e status sat).stopped = { x with
      window := x.window.map fun f => match f.st with
        | .ready => { f with st := .retiring, status := some .aborted }
        | .bad => { f with st := .retiring }
        | _ => e.endedIn status sat f
      counter := 0, slope := .up, pendingStop := .noStop } := by
  show { x with window := List.map _ (List.map _ x.window), counter := 0, slope := .up, pendingStop := .noStop } = _
  rw [List.map_map]
  congr 1
  refine List.map_congr_left fun f hf => ?_
  rw [Function.comp_apply]
  by_cases hslot : f.slot = e.slot
  · rw [h.slots.eq hf h.mem hslot, h.st, if_pos rfl]
    simp
  · have hact : f.st ≠ .active := fun ha => hslot (congrArg Entry.slot (h.alone f hf ha))
    rw [if_neg hslot]
    cases hst : f.st <;> simp [hslot]

theorem Group.stopped_endsAt (h : (s.group g).RunsOne e) (status : SegStatus) (sat : Bool) :
    EndsAt s g ((s.group g).ended e status sat).stopped := by
  have hwindow : ((s.group g).ended e status sat).stopped.window =
      ((s.group g).ended e status sat).window.map fun f => match f.st with
        | .ready => { f with st := .retiring, status := some .aborted }
        | .bad => { f with st := .retiring }
        | _ => f := rfl
  refine ⟨?_, fun f hf => ?_⟩
  · rw [Group.SlotsDistinct, hwindow, List.map_map]
    convert Group.ended_slotsDistinct h status sat using 1
    refine List.map_congr_left fun f _ => ?_
    rw [Function.comp_apply]
    split <;> rfl
  · rw [hwindow, List.mem_map] at hf
    obtain ⟨d, hd, rfl⟩ := hf
    obtain ⟨c, hc, rfl⟩ := List.mem_map.1 hd
    have hno := endedIn_not_active h status sat c hc
    unfold Entry.endedIn at hno
    split
    · nofun
    · nofun
    · exact hno

/-- Settles O40: the record goes on, or ends and the group stops once nothing drains, or faults. -/
theorem boundaryEndsAStoppingRecord : Obligations.BoundaryEndsAStoppingRecord := by
  unfold Obligations.BoundaryEndsAStoppingRecord
  intro s g e hB hst x done saturated ended touched
  have hone := hB.runsOne
  refine ⟨fun hp hdone => ?_, fun hstop => ?_⟩
  · intro u
    have hy : x.goneOn e e.extensionPeriods e.flags.extended = { x with
        counter := 0, slope := .up
        window := x.window.map fun f => if f.slot = e.slot then { f with periodsRun := satSucc32 e.periodsRun } else f } := by
      rw [← Group.countPeriod_eq hone]
      unfold Group.countPeriod
      have hmap := Group.map_slot_congr hone (f := Entry.counted) (f' := fun f => { f with periodsRun := satSucc32 e.periodsRun }) rfl
      exact congrArg (fun w => { x with counter := 0, slope := .up, window := w }) hmap
    have hu : u = (s.setGroup g ((s.group g).goneOn e e.extensionPeriods e.flags.extended)).triggers g :=
      congrArg (fun y => (s.setGroup g y).triggers g) hy.symm
    clear_value u
    have hv : (s.markTick g).boundary g e =
        (s.markTick g).modGroup g fun _ => (s.group g).goneOn e e.extensionPeriods e.flags.extended := by
      rw [stoppingBoundary_of_goesOn hst hp hdone, ← Group.countPeriod_eq hone]
      rfl
    have hgoes := goesOn_of_boundary hB (.inr hst) hv
    rw [← hu] at hgoes
    obtain ⟨t, hexec, hfollows, htick, ⟨e', he', hslot, hcopy, hstatus, hperiods, hext, -⟩, hpairs, hframe⟩ := hgoes
    exact ⟨t, hexec, hfollows, htick, ⟨e', he', hslot, hcopy, hstatus, hperiods, hext⟩, hpairs, hframe⟩
  · have hv := stoppingBoundary_of_ends hB hst hstop
    have hbad : (s.group g).nextBad = true ↔ ∃ n, (s.group g).next? = some n ∧ n.st = .bad := by
      unfold Group.nextBad
      cases (s.group g).next? <;> simp
    have hstatus : decide (e.counted.stopStatus = SegStatus.ok) = done := by
      show decide ((if done then SegStatus.ok else SegStatus.cut) = SegStatus.ok) = done
      cases done <;> rfl
    have hposts : (if e.counted.stopStatus = SegStatus.ok then tokensAfterEndPost s e.copy else s.tokens)
        = if done then tokensAfterEndPost s e.copy else s.tokens := by
      rw [← hstatus]
      simp only [decide_eq_true_eq]
    by_cases hnext : (s.group g).nextBad = true
    · rw [if_pos hnext] at hv
      have hboundary := periodBoundary_faults hB hv
      rw [hposts, hstatus] at hboundary
      obtain ⟨t, hexec, htick, htokens, hgroup, hremoved, hdrains, hpairs, hframe⟩ := hboundary
      have hkept : (s.group g).kept = (s.group g).window ∧ (s.group g).steppedBack = (s.group g).ring := by
        obtain ⟨-, -, -, -, -, -, -, hfetches, -⟩ := hB.rings g
        refine Group.kept_eq_self fun f hf hfetch => ?_
        have hyes := hfetches f hf hfetch
        rw [hst] at hyes
        cases hyes
      refine ⟨t, hexec, htick, htokens, fun hno => ?_, fun n _ _ => ⟨?_, hremoved, hdrains⟩, hpairs, hframe⟩
      · obtain ⟨n, hn, hb⟩ := hbad.1 hnext
        exact absurd hb (hno n hn)
      · rw [hgroup, hkept.1, hkept.2]
        rfl
    · rw [if_neg hnext, ended_modGroup, hposts, hstatus] at hv
      have hboundary := periodBoundary_ends hB (Group.stopped_endsAt hone _ _) hv
      obtain ⟨t, hexec, htick, htokens, hfollows, hstopped, hpairs, hframe⟩ := hboundary
      refine ⟨t, hexec, htick, htokens, fun _ => ⟨?_, hstopped hst⟩, fun n hn hb => absurd (hbad.2 ⟨n, hn, hb⟩) hnext, hpairs, hframe⟩
      rw [Group.stopped_window hone] at hfollows
      exact hfollows

end Endings

end Sys2Proof.Machine
end

section
/-! PROOF. The effect of an accepted command is judged apart from its report; then ABORT (R39 to R42, R166). -/

namespace Sys2Proof.Machine

section Reports

variable {s t u : State} {g : GroupId} {cmd : Slot32} {status : AdminStatus} {value : BitVec 128} {x : Group}

/-! ## An effect and its report -/

/-- The report of a command shows in the administrative processor, the bus requests and the port alone. -/
theorem same_report (u : State) {b : Block} (hb : b ∉ [.admin, .requests, .port]) :
    b.Same u.settle (u.report cmd status value).settle := by
  have hsame := Block.same_refl u.settle b
  cases b with
  | admin | requests | port => simp at hb
  | resetPin | registers | group _ | pairs | tokens | sets | captureQueue | converter | resultWriter | events | tripUnit
  | completion | groupTicks => exact hsame

theorem Block.Same.trans {b : Block} (h : b.Same s t) (h' : b.Same t u) : b.Same s u := by
  cases b with
  | resetPin | group _ | pairs | tokens | sets | captureQueue | groupTicks => exact Eq.trans h' h
  | registers | events | converter | resultWriter | tripUnit | admin | completion | requests | port =>
    simp only [Block.Same] at h h' ⊢
    grind

theorem sameExcept_report {touched : List Block} (hends : [.admin, .requests, .port] ⊆ touched)
    (h : SameExcept touched s.received u.settle) : SameExcept touched s (u.report cmd status value).settle :=
  sameExcept_of_answered (r := .adminProcessor) (hends (by simp)) fun b hb =>
    (h b hb).trans (same_report u fun h => hb (hends h))

/-- Drained records are judged on the group and on the capture path. -/
theorem State.Drains.of_same {t' : State} (h : t.Drains g x) (hgroup : t'.group g = t.group g)
    (hwork : ∀ e, t'.owesWork g e = t.owesWork g e) : t'.Drains g x := by
  refine ⟨by rw [hgroup]; exact h.1, ?_⟩
  rw [hgroup]
  exact fun q hq h1 h2 => (hwork q.1).trans (h.2 q hq h1 h2)

theorem State.Drains.report (h : u.settle.Drains g x) : (u.report cmd status value).settle.Drains g x := h

/-- The removal of capture work is judged on the capture path. -/
theorem WorkRemoved.of_path {gone : GroupId → Bool} {t' : State} (h : WorkRemoved gone s t) (hqueue : t'.captureQueue = t.captureQueue)
    (hconv : t'.converter = t.converter) (hmark : t'.marks.conv = t.marks.conv)
    (hwriter : Block.Same t t' .resultWriter) : WorkRemoved gone s t' := by
  obtain ⟨h1, h2, h3, h4, h5, h6, h7, h8, h9, h10, h11, h12, h13, h14, h15⟩ := h
  obtain ⟨hq, hf, hj, hb, -⟩ := hwriter
  constructor <;> (try simp only [hqueue, hconv, hmark, hq, hf, hj, hb]) <;> assumption

theorem WorkRemoved.report {gone : GroupId → Bool} (h : WorkRemoved gone s u.settle) :
    WorkRemoved gone s (u.report cmd status value).settle :=
  h.of_path rfl rfl rfl ⟨rfl, rfl, rfl, rfl, rfl⟩

end Reports

section Abort

variable {s v w : State} {g m : GroupId} {cmd : Slot32} {x : Group}

/-! ## ABORT -/

abbrev AbortParams (cmd : Slot32) : Prop := byteOf cmd 4 < 4 ∧ byteOf cmd 11 ≤ 1 ∧ OnlyUses cmd [4, 11]

theorem abort_params_iff (cmd : Slot32) :
    (decide (Cmd.discard cmd ≤ 1) && Cmd.reservedClear Cmd.usedAbort cmd) = true ↔
      byteOf cmd 11 ≤ 1 ∧ OnlyUses cmd [4, 11] := by
  simp only [Bool.and_eq_true, decide_eq_true_eq, Cmd.reservedClear_iff]
  rfl

theorem abortVerdict_eq (cmd : Slot32) (s : State) : abortVerdict cmd s =
    groupVerdict (decide (Cmd.discard cmd ≤ 1) && Cmd.reservedClear Cmd.usedAbort cmd)
      (fun g => if (s.group g).state == .unbound then .badState else .ok) (Cmd.group cmd) := rfl

theorem abortVerdict_of_not_params (h : ¬AbortParams cmd) : abortVerdict cmd s = .badParam := by
  rw [abortVerdict_eq]
  exact groupVerdict_of_not_params fun hp => h ⟨hp.1, (abort_params_iff cmd).1 hp.2⟩

theorem abortVerdict_of_params (h : AbortParams cmd) (hg : byteOf cmd 4 = g) :
    abortVerdict cmd s = if (s.group g).state == .unbound then .badState else .ok := by
  rw [abortVerdict_eq]
  exact groupVerdict_of_params hg ((abort_params_iff cmd).2 h.2)

/-- The ring that DISCARD leaves of the ring `r` of a group with the records `kept` (R41). -/
abbrev discardedRing (discard : Nat) (kept : List Entry) (r : Ring) : Ring :=
  if discard = 0 then r
  else if kept = [] then { r with fetch := r.tail, retire := r.tail, span := 0 }
  else { r with fetch := r.tail, span := r.span + (r.tail + r.size - r.fetch) % r.size }

theorem State.modGroup_of_fixed {f : Group → Group} (h : f (v.group g) = v.group g) : v.modGroup g f = v := by
  rw [State.modGroup, h, State.setGroup]
  congr 1
  exact Vector.set_getElem_self ..

/-- DISCARD, where the command names it. -/
def Group.discarded (discard : Nat) (x : Group) : Group := { x with ring := discardedRing discard x.window x.ring }

theorem Group.discarded_eq {discard : Nat} (h : discard ≤ 1) (x : Group) :
    x.discarded discard = if discard = 1 then x.discard else x := by
  unfold Group.discarded Group.discard discardedRing
  obtain rfl | rfl : discard = 0 ∨ discard = 1 := by omega
  · rfl
  · cases x.window <;> rfl

/-- The effect of an accepted ABORT before its consequences. -/
abbrev State.aborted (g : GroupId) (discard : Nat) (v : State) : State :=
  (v.takenDown g .aborted (v.group g).state.aborted (abortNotices (v.group g).state)).modGroup g (Group.discarded discard)

theorem abortEffect_eq (hg : byteOf cmd 4 = g) (hd : byteOf cmd 11 ≤ 1) (v : State) :
    abortEffect cmd v = (v.aborted g (byteOf cmd 11)).pump := by
  have hgroup : groupOfCode (Cmd.group cmd) = some g := (groupOfCode_eq_some_iff _ _).2 hg
  have heffect : abortEffect cmd v =
      (if Cmd.discard cmd = 1 then (v.abortGroup g).modGroup g Group.discard else v.abortGroup g).pump := by
    rw [abortEffect, hgroup]
  rw [heffect, State.abortGroup_takenDown, State.aborted]
  congr 1
  rw [State.modGroup_congr (Group.discarded_eq hd _)]
  show _ = State.modGroup g (fun x => if Cmd.discard cmd = 1 then x.discard else x) _
  split
  · rfl
  · exact (State.modGroup_of_fixed rfl).symm

/-- A change of the ring alone leaves the group taken down. -/
theorem State.TookDown.modGroup (h : s.TookDown g w) {f : Group → Group} (hwindow : (f (w.group g)).window = (w.group g).window)
    (hstate : (f (w.group g)).state = (w.group g).state) : s.TookDown g (w.modGroup g f) := by
  have hsame := State.group_modGroup_same w g f
  refine ⟨h.queue, h.converter, h.writer, h.mark, ?_, ?_, ?_, fun m hm => ?_⟩
  · rw [hsame, hwindow]; exact h.retired
  · rw [hsame, Group.SlotsDistinct, hwindow]; exact h.slots
  · rw [hsame, hstate]; exact h.state
  · rw [State.group_modGroup_ne w f hm]; exact h.others m hm

/-- The records of a window that is left for a DISCARD. -/
theorem State.retired_eq_nil (v : State) (g : GroupId) (ending : SegStatus) (l : List Entry) :
    v.retired g ending l = [] ↔ l = [] := List.map_eq_nil_iff

/-- The group that an ABORT leaves (R39, R40, R41). -/
theorem aborted_group {discard : Nat} (hx : (v.group g).state ≠ .unbound) (hset : SetLaw v) :
    (v.aborted g discard).group g = { v.group g with
      window := v.retired g .aborted (v.group g).kept
      ring := discardedRing discard (v.group g).kept (v.group g).steppedBack
      state := if (v.group g).state = .tripped then .tripped else .stopped
      notices :=
        if (v.group g).state = .stopped ∨ (v.group g).state = .tripped then (v.group g).notices
        else if (v.group g).state = .armed then ((v.group g).notices.add .stopped).add .setBroken
        else (v.group g).notices.add .stopped
      counter := 0, slope := .up, pendingStop := .noStop } := by
  rw [State.aborted, State.group_modGroup_same, takenDown_group_same fun _ => hset, Group.discarded, Group.clearedTo]
  simp only [discardedRing, State.retired_eq_nil]
  cases hst : (v.group g).state with
  | unbound => exact absurd hst hx
  | stopped | armed | running | starved | stopping | tripped | faulted => simp [GroupState.aborted, abortNotices]

theorem aborted_not_producing {discard : Nat} (hset : SetLaw v) : ((v.aborted g discard).group g).producing = false := by
  rw [State.aborted, State.group_modGroup_same]
  exact takenDown_not_producing fun _ => hset

/-- The pairs of a group under a trip condition show their safe levels whatever becomes of the group (R58). -/
theorem pairs_of_tripped {u : State} (hs : Settled s) (hf : u.fixed = s.fixed) (htrip : s.tripCondition g = true)
    (hothers : ∀ m, m ≠ g → (u.group m).producing = (s.group m).producing) (hpairs : u.pairs = s.pairs) :
    u.settle.pairs = s.pairs := by
  refine State.pairs_eq_of_pair fun p => ?_
  have hcond := tripCondition_of_lines (s := s) (t := u) (congrArg Fixed.lines hf)
  have hctrl : u.ctrl = s.ctrl := congrArg Fixed.ctrl hf
  have hsettled : s.settledPair (s.pair p) = s.pair p := ((settled_iff s).1 hs).2.1 p
  rw [State.settle_pair, State.pair_of_pairs hpairs]
  by_cases hg : (s.pair p).group = some g
  · have hsel : u.selection (s.pair p) = s.selection (s.pair p) := by
      simp [State.selection, hg, hctrl, hcond, htrip]
    rw [State.settledPair_eq, hsel, hctrl, ← State.settledPair_eq, hsettled]
  · rw [settledPair_of_other hf fun m hm => hothers m fun h => hg (h ▸ hm), hsettled]

/-- Settles O57: the group is taken down, its ring discarded where the command names it, and the consequences follow. -/
theorem abortRetiresTheWindow : Obligations.AbortRetiresTheWindow := by
  unfold Obligations.AbortRetiresTheWindow
  intro s cmd hs hring hrest hset hcap howner ha hop c params
  have hexec : exec c s = command false true cmd (abortVerdict cmd s) 0 (abortEffect cmd) s := exec_of_row rfl hop
  refine ⟨fun hp => refused_of_command hs ha hexec (abortVerdict_of_not_params hp) (by decide), ?_⟩
  intro hp g hg x r
  have hverdict := abortVerdict_of_params (s := s) hp hg
  refine ⟨fun hu => refused_of_command hs ha hexec (hverdict.trans (if_pos (by simp [x, ← hu]))) (by decide), fun hu => ?_⟩
  have hrun := exec_of_accepted hexec ha (hverdict.trans (if_neg (by simpa using hu)))
  rw [abortEffect_eq hg hp.2.1] at hrun
  have hd : ∀ m, (s.group m).SlotsDistinct := fun m => (hring m).slotsDistinct
  have hvset : SetLaw s.received := hset
  have htook : s.TookDown g (s.received.aborted g (byteOf cmd 11)) := by
    refine State.TookDown.modGroup (tookDown_of_takenDown (v := s.received) (hd g) (fun _ => hvset) (fun _ => hrest) rfl rfl rfl rfl ?_
      fun _ _ => rfl) rfl rfl
    show x.state.aborted ≠ .stopping
    obtain ⟨-, -, -, h | h⟩ := GroupState.aborted_facts hu <;> rw [h] <;> decide
  have hsame := aborted_group (v := s.received) (g := g) (discard := byteOf cmd 11) hu hvset
  have hnot := aborted_not_producing (v := s.received) (g := g) (discard := byteOf cmd 11) hvset
  have hmember : ∀ m, m ≠ g → x.state = .armed → s.sharesSet g m = true →
      (s.received.aborted g (byteOf cmd 11)).group m = (s.group m).setBroken := fun m hm harmed hsh => by
    rw [State.aborted, State.group_modGroup_ne _ _ hm]
    exact takenDown_group_shares hvset harmed hm hsh
  have hother : ∀ m, m ≠ g → ¬(x.state = .armed ∧ s.sharesSet g m = true) →
      (s.received.aborted g (byteOf cmd 11)).group m = s.group m := fun m hm hno => by
    rw [State.aborted, State.group_modGroup_ne _ _ hm]
    exact takenDown_group_other (fun _ => hvset) hm hno
  have hwsets : (s.received.aborted g (byteOf cmd 11)).sets =
      if x.state = .armed then s.sets.filter (fun u => !u.members.getLsbD g) else s.sets := takenDown_sets
  obtain ⟨hwfixed, hwpairs, hwtokens, hwticks⟩ : (s.received.aborted g (byteOf cmd 11)).fixed = s.received.fixed
      ∧ (s.received.aborted g (byteOf cmd 11)).pairs = s.pairs ∧ (s.received.aborted g (byteOf cmd 11)).tokens = s.tokens
      ∧ (s.received.aborted g (byteOf cmd 11)).ticks = s.ticks := takenDown_rest (v := s.received)
  generalize s.received.aborted g (byteOf cmd 11) = u at *
  have hisrun : u.isRunning = true := by
    rw [State.isRunning_of_fixed (t := u) (s := s.received) hwfixed]
    exact beq_iff_eq.2 ha.1
  obtain ⟨hremoved, hleft, hdrains, hbroken⟩ := htook.follows hcap howner hd hisrun
  have hslots := htook.slotsDistinct hd
  have hpf : u.pump.fixed = s.received.fixed := u.fixed_pump.trans hwfixed
  have hrs : Settled s.received := settled_answered hs _
  have hothers : ∀ m, m ≠ g → (u.pump.group m).producing = (s.received.group m).producing := fun m hm => by
    rw [State.pump_producing hslots, htook.producing hm]
    rfl
  have hpairsOf := pairsOfGroup_of_leaves hrs hpf ha.1 hothers (by rw [State.pump_producing hslots, hnot]) (u.pairs_pump.trans hwpairs)
  have hsetsPump : u.pump.sets = u.sets := u.sets_pump
  have htokensPump : u.pump.tokens = u.tokens := u.tokens_pump
  have hticksPump : u.pump.ticks = u.ticks := u.ticks_pump
  have hpairsPump : u.pump.pairs = u.pairs := u.pairs_pump
  generalize u.pump = p at *
  refine ⟨_, hrun, hleft.trans hsame, hremoved.report, s.hasWork_eq g, hsetsPump.trans hwsets,
    fun m hm harmed hsh => hbroken m hm ((hrest m).2 (armed_of_sharesSet hset hsh)) (hmember m hm harmed hsh),
    fun m hm hno => (hdrains m hm (hother m hm hno)).report, ⟨hpairsOf, fun htrip => ?_⟩, ?_, ?_⟩
  · have hpairs : p.settle.pairs = s.received.pairs := pairs_of_tripped hrs hpf htrip hothers (hpairsPump.trans hwpairs)
    exact hpairs
  · exact reported_settle (congrArg Fixed.admin hpf) (congrArg Fixed.bus hpf) (congrArg Fixed.lastFetcher hpf) (congrArg Fixed.grantMark hpf)
  · refine sameExcept_report (by simp) (frame_of_fixed hrs hpf _ (fun m hm => ?_)
      (fun h => absurd (by simp) h) (fun _ => htokensPump.trans hwtokens) (fun h => absurd (by simp) h) (fun h => absurd (by simp) h)
      (fun h => absurd (by simp) h) (fun h => absurd (by simp) h) (fun h => absurd (by simp) h) fun _ => hticksPump.trans hwticks)
    exact absurd (by fin_cases m <;> simp) hm

end Abort

end Sys2Proof.Machine
end

section
/-! PROOF. STOP (R36 to R38, R164): its checks, the window it leaves, and the consequences, of which there are none where
the capture path was at rest and no record has ended. -/

namespace Sys2Proof.Machine

section AtRest

variable {s v : State} {g m : GroupId} {e : Entry}

/-! ## The consequences where nothing is left to do -/

theorem State.inHand_of_path (hqueue : v.captureQueue = s.captureQueue) (hconv : v.converter = s.converter)
    (hwriter : v.writer = s.writer) (ref : EntryRef) : v.inHand ref = s.inHand ref := by
  simp only [State.inHand, State.hasRequest, State.isConverting, State.isHeld, State.hasResult, State.hasJob, hqueue, hconv, hwriter]

theorem State.inFill_of_path (hwriter : v.writer = s.writer) (ref : EntryRef) : v.inFill ref = s.inFill ref := by
  simp only [State.inFill, hwriter]

theorem State.owesWork_of_path (hqueue : v.captureQueue = s.captureQueue) (hconv : v.converter = s.converter)
    (hwriter : v.writer = s.writer) (g : GroupId) (e : Entry) : v.owesWork g e = s.owesWork g e := by
  simp only [State.owesWork, State.inHand_of_path hqueue hconv hwriter, State.inFill_of_path hwriter]

/-- Where no record drains without work, the end of the stops alone follows (R38). -/
theorem State.pump_of_busy (hrun : v.isRunning = true) (hd : ∀ m, (v.group m).SlotsDistinct) (hq : v.Quiet) (hb : v.DrainingBusy) :
    v.pump = v.finishStops := by
  rw [State.pump_of_running hrun, State.pumpRounds_of_fixed (State.pumpOnce_of_quiet hd hq hb)]

theorem State.pump_group_of_quiet (hrun : v.isRunning = true) (hd : ∀ m, (v.group m).SlotsDistinct) (hq : v.Quiet) (m : GroupId) :
    v.pump.group m = Group.finishStop { v.group m with window := (v.group m).window.map (v.drainedEntry m) } := by
  rw [State.pump_of_quiet hrun hd hq, State.finishStops_group, State.quietPump_group hd]

theorem State.drainedEntry_of_busy (h : e.st = .draining → v.Busy (e.ref m)) : v.drainedEntry m e = e :=
  State.drainedEntry_of_not fun ⟨hst, how⟩ => by
    obtain ⟨h1, h2, -⟩ := State.owesWork_eq_false.1 how
    have hb := h hst
    rw [State.Busy, h1, h2] at hb
    simp at hb

/-- The capture law leaves nothing to a group that has not been touched (R13, R38). -/
theorem CaptureLaw.pump_group (hcap : CaptureLaw s) (hrun : v.isRunning = true) (hd : ∀ m, (v.group m).SlotsDistinct)
    (hq : v.Quiet) (hbusy : ∀ ref, v.Busy ref ↔ s.Busy ref) (hsame : v.group m = s.group m) : v.pump.group m = s.group m := by
  obtain ⟨-, -, -, -, -, -, -, hgroups⟩ := hcap
  obtain ⟨hstop, hdraining⟩ := hgroups m
  have hid : ({ v.group m with window := (v.group m).window.map (v.drainedEntry m) } : Group) = s.group m := by
    rw [← hsame]
    refine (Group.eq_of_map_id fun e he => State.drainedEntry_of_busy fun hst => ?_).symm
    rw [hsame] at he
    exact (hbusy _).2 (hdraining e he hst)
  rw [State.pump_group_of_quiet hrun hd hq, hid, Group.finishStop, if_neg]
  rw [Bool.and_eq_true, beq_iff_eq]
  rintro ⟨hst, hall⟩
  rw [hstop hst] at hall
  cases hall

end AtRest

section Stop

variable {s v u t : State} {g m : GroupId} {cmd : Slot32} {x y : Group} {e : Entry}

/-! ## The checks of STOP -/

abbrev StopParams (cmd : Slot32) : Prop := byteOf cmd 4 < 4 ∧ byteOf cmd 8 ≤ 2 ∧ OnlyUses cmd [4, 8]

/-- The mode of a mode byte. -/
def stopModeOfByte (n : Nat) : StopMode := if n = 0 then .periodEnd else if n = 1 then .segmentEnd else .now

theorem stopModeOfCode_eq : ∀ n, stopModeOfCode n = if n ≤ 2 then some (stopModeOfByte n) else none
  | 0 | 1 | 2 => rfl
  | n + 3 => by rw [if_neg (by omega)]; rfl

theorem stop_params_iff (cmd : Slot32) :
    ((stopModeOfCode (Cmd.mode cmd)).isSome && Cmd.reservedClear Cmd.usedStop cmd) = true ↔
      byteOf cmd 8 ≤ 2 ∧ OnlyUses cmd [4, 8] := by
  have hmode : (stopModeOfCode (Cmd.mode cmd)).isSome = true ↔ byteOf cmd 8 ≤ 2 := by
    rw [stopModeOfCode_eq]
    show _ ↔ Cmd.mode cmd ≤ 2
    split <;> simp_all
  simp only [Bool.and_eq_true, hmode, Cmd.reservedClear_iff]
  rfl

/-- STOP is for a group that runs, starves or waits to start (R36). -/
def GroupState.stopVerdict : GroupState → AdminStatus
  | .running | .starved | .armed => .ok
  | _ => .badState

theorem stopVerdict_eq (cmd : Slot32) (s : State) : stopVerdict cmd s =
    groupVerdict ((stopModeOfCode (Cmd.mode cmd)).isSome && Cmd.reservedClear Cmd.usedStop cmd)
      (fun g => (s.group g).state.stopVerdict) (Cmd.group cmd) := rfl

theorem stopVerdict_of_not_params (h : ¬StopParams cmd) : stopVerdict cmd s = .badParam := by
  rw [stopVerdict_eq]
  exact groupVerdict_of_not_params fun hp => h ⟨hp.1, (stop_params_iff cmd).1 hp.2⟩

theorem stopVerdict_of_params (h : StopParams cmd) (hg : byteOf cmd 4 = g) :
    stopVerdict cmd s = (s.group g).state.stopVerdict := by
  rw [stopVerdict_eq]
  exact groupVerdict_of_params hg ((stop_params_iff cmd).2 h.2)

theorem stopEffect_eq (hg : byteOf cmd 4 = g) (hmode : byteOf cmd 8 ≤ 2) (v : State) :
    stopEffect cmd v = (v.stopGroup g (stopModeOfByte (byteOf cmd 8))).pump := by
  have hgroup : groupOfCode (Cmd.group cmd) = some g := (groupOfCode_eq_some_iff _ _).2 hg
  have hstop : stopModeOfCode (Cmd.mode cmd) = some (stopModeOfByte (byteOf cmd 8)) := by
    rw [stopModeOfCode_eq]
    exact if_pos hmode
  rw [stopEffect, hgroup, hstop]

/-! ## The window that is left -/

/-- What STOP makes of a record that is kept (R36, R38). -/
def Entry.stopped (e : Entry) : Entry :=
  match e.st with
  | .ready => { e with st := .retiring, status := some .aborted }
  | .bad => { e with st := .retiring }
  | .active => { e with st := .draining, status := some .cut }
  | _ => e

theorem Entry.stopped_slot (e : Entry) : e.stopped.slot = e.slot := by
  unfold Entry.stopped
  split <;> rfl

theorem Entry.stopped_draining (h : e.stopped.st = .draining) : e.st = .active ∨ (e.st = .draining ∧ e.stopped = e) := by
  unfold Entry.stopped at h ⊢
  cases hst : e.st with
  | active => exact .inl rfl
  | draining => exact .inr ⟨rfl, rfl⟩
  | ready | bad | retiring | fetching => simp [hst] at h

/-- A RUNNING group that is stopped NOW. -/
theorem Group.stopNow_eq (x : Group) : x.stopRunning .now = { x with
    window := x.kept.map Entry.stopped, ring := x.steppedBack, state := .stopping, pendingStop := .noStop
    counter := 0, slope := .up } := by
  have hwindow : ((x.cancelFetch.endActive .cut).retireWaiting).window = x.kept.map Entry.stopped := by
    rw [Group.cancelFetch_eq]
    show List.map _ (List.map _ x.kept) = _
    rw [List.map_map]
    refine List.map_congr_left fun e _ => ?_
    rw [Function.comp_apply, Entry.stopped]
    cases hst : e.st <;> simp [hst]
  show { ((x.cancelFetch.endActive .cut).retireWaiting).holdCounter with state := .stopping, pendingStop := .noStop } = _
  rw [Group.holdCounter, hwindow, Group.cancelFetch_eq]
  rfl

/-- The retiring of the records of a group that runs none. -/
theorem Group.retired_eq (h : ∀ e ∈ x.window, e.st ≠ .active) : x.cancelFetch.retireWaiting = { x with
    window := x.kept.map Entry.stopped, ring := x.steppedBack } := by
  rw [Group.cancelFetch_eq]
  show { x with window := List.map _ x.kept, ring := x.steppedBack } = _
  congr 1
  refine List.map_congr_left fun e he => ?_
  have hne := h e (List.mem_filter.1 he).1
  unfold Entry.stopped
  cases hst : e.st <;> simp_all

theorem Group.stopped_slotsDistinct (h : x.SlotsDistinct) : ((x.kept.map Entry.stopped).map Entry.slot).Nodup := by
  rw [List.map_map, show Entry.slot ∘ Entry.stopped = Entry.slot from funext Entry.stopped_slot]
  exact Group.kept_slotsDistinct h

end Stop

end Sys2Proof.Machine
end

section
/-! PROOF. STOP, continued: its clauses. -/

namespace Sys2Proof.Machine

section Ceases

variable {s v u t : State} {g m : GroupId} {cmd : Slot32} {x y : Group} {e : Entry} {status : AdminStatus} {value : BitVec 128}

/-- A state that differs from `s` by the command received, by groups and by sets. -/
structure State.Ceases (s v : State) : Prop where
  fixed : v.fixed = s.received.fixed
  pairs : v.pairs = s.pairs
  tokens : v.tokens = s.tokens
  ticks : v.ticks = s.ticks
  queue : v.captureQueue = s.captureQueue
  converter : v.converter = s.converter
  writer : v.writer = s.writer
  mark : v.marks.conv = s.marks.conv
  slots : ∀ m, (v.group m).SlotsDistinct

namespace State.Ceases

theorem isRunning (h : s.Ceases v) (ha : Awaits s .adminProcessor) : v.isRunning = true := by
  rw [State.isRunning_of_fixed (t := v) (s := s.received) h.fixed]
  exact beq_iff_eq.2 ha.1

theorem quiet (h : s.Ceases v) (hcap : CaptureLaw s) : v.Quiet := hcap.quiet.of_same h.queue h.converter h.writer

theorem busy (h : s.Ceases v) (ref : EntryRef) : v.Busy ref ↔ s.Busy ref := by
  rw [State.Busy, State.Busy, State.inHand_of_path h.queue h.converter h.writer, State.inFill_of_path h.writer]

theorem owesWork (h : s.Ceases v) (m : GroupId) (e : Entry) : v.owesWork m e = s.owesWork m e :=
  State.owesWork_of_path h.queue h.converter h.writer m e

theorem pumpFixed (h : s.Ceases v) : v.pump.fixed = s.received.fixed := v.fixed_pump.trans h.fixed

theorem reported (h : s.Ceases v) : Reported cmd status value s (v.pump.report cmd status value).settle :=
  reported_settle (congrArg Fixed.admin h.pumpFixed) (congrArg Fixed.bus h.pumpFixed) (congrArg Fixed.lastFetcher h.pumpFixed)
    (congrArg Fixed.grantMark h.pumpFixed)

theorem drains (h : s.Ceases v) (hx : v.group m = x) : (v.pump.report cmd status value).settle.Drains m x := by
  have hd := State.pump_drains h.slots m
  rw [hx] at hd
  generalize v.pump = p at hd
  exact hd

theorem stopped_iff (h : s.Ceases v) (ha : Awaits s .adminProcessor) (hst : (v.group g).state = .stopping) :
    (∀ f ∈ ((v.pump.report cmd status value).settle.group g).window, f.st = .retiring) ↔
      ((v.pump.report cmd status value).settle.group g).state = .stopped :=
  (State.pump_stopped_iff (h.isRunning ha) h.slots hst).symm

/-- What STOP and its consequences leave alone. -/
theorem frame (h : s.Ceases v) (hs : Settled s) {touched : List Block} (hends : [.admin, .requests, .port] ⊆ touched)
    (hgroups : ∀ m, .group m ∉ touched → v.pump.group m = s.group m)
    (hpairs : .pairs ∉ touched → ∀ m, (v.group m).producing = (s.group m).producing)
    (hsets : .sets ∉ touched → v.sets = s.sets)
    (hpath : .captureQueue ∉ touched ∨ .converter ∉ touched →
      v.pump.captureQueue = s.captureQueue ∧ v.pump.converter = s.converter ∧ v.pump.marks.conv = s.marks.conv)
    (hwriter : .resultWriter ∉ touched → Block.Same s v.pump .resultWriter) :
    SameExcept touched s (v.pump.report cmd status value).settle := by
  have hpf := h.pumpFixed
  have hrs : Settled s.received := settled_answered hs _
  have htokens := v.tokens_pump.trans h.tokens
  have hticks := v.ticks_pump.trans h.ticks
  have hpairs' := v.pairs_pump.trans h.pairs
  have hsets' := v.sets_pump
  have hprod := State.pump_producing h.slots
  generalize v.pump = p at *
  refine sameExcept_report hends (frame_of_fixed hrs hpf _ hgroups (fun hb => ?_) (fun _ => htokens)
    (fun hb => hsets'.trans (hsets hb)) (fun hb => (hpath (.inl hb)).1) (fun hb => (hpath (.inr hb)).2) hwriter
    (fun hb => absurd (hends (by simp)) hb) fun _ => hticks)
  exact settle_pairs_of_same hrs (sameSelection_of_fixed hpf fun m => (hprod m).trans (hpairs hb m)) hpairs'

/-- Under the capture law a group that STOP has not touched stays as it is. -/
theorem pump_group (h : s.Ceases v) (ha : Awaits s .adminProcessor) (hcap : CaptureLaw s) (hsame : v.group m = s.group m) :
    v.pump.group m = s.group m :=
  hcap.pump_group (h.isRunning ha) h.slots (h.quiet hcap) h.busy hsame

theorem path (h : s.Ceases v) (ha : Awaits s .adminProcessor) (hcap : CaptureLaw s) :
    v.pump.captureQueue = s.captureQueue ∧ v.pump.converter = s.converter ∧ v.pump.marks.conv = s.marks.conv := by
  obtain ⟨hq, hc, hm, -⟩ := keepsCaptureWork_pump (h.isRunning ha) h.slots (h.quiet hcap)
  exact ⟨hq.trans h.queue, hc.trans h.converter, hm.trans h.mark⟩

/-- Under the capture law a STOP that ends no record leaves the writer as it is. -/
theorem pumpWriter (h : s.Ceases v) (ha : Awaits s .adminProcessor) (hcap : CaptureLaw s)
    (hdraining : ∀ m, ∀ e ∈ (v.group m).window, e.st = .draining → e ∈ (s.group m).window) : v.pump.writer = s.writer := by
  have hbusy : v.DrainingBusy := fun m e he hst => by
    obtain ⟨-, -, -, -, -, -, -, hgroups⟩ := hcap
    exact (h.busy _).2 ((hgroups m).2 e (hdraining m e he hst) hst)
  rw [State.pump_of_busy (h.isRunning ha) h.slots (h.quiet hcap) hbusy, State.finishStops_eq]
  exact h.writer

theorem retiresFinished (h : s.Ceases v) (ha : Awaits s .adminProcessor) (hcap : CaptureLaw s) (m : GroupId)
    (hwindow : x.window = (v.group m).window) : s.RetiresFinished (v.pump.report cmd status value).settle m x := by
  have hr := retiresFinished_pump (h.isRunning ha) h.slots (h.quiet hcap) m
  generalize v.pump = p at hr
  intro q hq hst
  rw [hwindow] at hq
  rw [← h.owesWork]
  exact hr q hq hst

/-- The pairs of a group that produces nothing any more (R38, R55). -/
theorem endsTheWaveform (h : s.Ceases v) (hs : Settled s) (ha : Awaits s .adminProcessor)
    (hothers : ∀ m, m ≠ g → (v.group m).producing = (s.group m).producing) (hnot : (v.group g).producing = false) :
    EndsTheWaveform s (v.pump.report cmd status value).settle g := by
  have hpf := h.pumpFixed
  have hrs : Settled s.received := settled_answered hs _
  have hpairs := v.pairs_pump.trans h.pairs
  have hprod := State.pump_producing h.slots
  generalize v.pump = p at *
  have hothers' : ∀ m, m ≠ g → (p.group m).producing = (s.received.group m).producing := fun m hm =>
    (hprod m).trans (hothers m hm)
  have hleaves := pairsOfGroup_of_leaves hrs hpf ha.1 hothers' ((hprod g).trans hnot) hpairs
  refine ⟨hleaves, fun htrip => ?_⟩
  have htripped : p.settle.pairs = s.received.pairs := pairs_of_tripped hrs hpf htrip hothers' hpairs
  exact htripped

end State.Ceases

/-- The capture work that is kept is judged on the windows and the capture path. -/
theorem KeepsCaptureWork.of_same {u' t' : State} (h : KeepsCaptureWork u t) (hwindow : ∀ m, (u'.group m).window = (u.group m).window)
    (hqueue : u'.captureQueue = u.captureQueue) (hconv : u'.converter = u.converter) (hwriter : u'.writer = u.writer)
    (hmark : u'.marks.conv = u.marks.conv) (hqueue' : t'.captureQueue = t.captureQueue) (hconv' : t'.converter = t.converter)
    (hmark' : t'.marks.conv = t.marks.conv) (hwriter' : t'.writer = { t.writer with write := t'.writer.write }) :
    KeepsCaptureWork u' t' := by
  obtain ⟨hq, hc, hm, joined, ⟨hnodup, hjoins⟩, hkeeps, hfills⟩ := h
  have hentry : ∀ ref, u'.entry? ref = u.entry? ref := fun ref => by rw [State.entry?, hwindow, State.entry?]
  refine ⟨by rw [hqueue', hq, hqueue], by rw [hconv', hc, hconv], by rw [hmark', hm, hmark], joined, ⟨hnodup, fun ref => ?_⟩,
    fun hk => ?_, fun first rest hj hr => ?_⟩
  · rw [State.inHand_of_path hqueue hconv hwriter, State.inFill_of_path hwriter, hwindow]
    exact hjoins ref
  · rw [hwriter] at hk ⊢
    rw [hwriter', hkeeps hk]
  · rw [hwriter] at hj ⊢
    rw [hwriter', hfills first rest hj hr, hentry]

theorem State.Ceases.keepsCaptureWork {u : State} (h : s.Ceases v) (ha : Awaits s .adminProcessor) (hcap : CaptureLaw s)
    (hwindow : ∀ m, (u.group m).window = (v.group m).window) (hqueue : u.captureQueue = s.captureQueue)
    (hconv : u.converter = s.converter) (hwriter : u.writer = s.writer) (hmark : u.marks.conv = s.marks.conv) :
    KeepsCaptureWork u (v.pump.report cmd status value).settle := by
  have hk := keepsCaptureWork_pump (h.isRunning ha) h.slots (h.quiet hcap)
  generalize v.pump = p at hk
  exact hk.of_same hwindow (hqueue.trans h.queue.symm) (hconv.trans h.converter.symm) (hwriter.trans h.writer.symm)
    (hmark.trans h.mark.symm) rfl rfl rfl rfl

theorem ceases_setGroup (hd : ∀ m, (s.group m).SlotsDistinct) (hy : y.SlotsDistinct) : s.Ceases (s.received.setGroup g y) :=
  ⟨rfl, rfl, rfl, rfl, rfl, rfl, rfl, rfl, setGroup_slotsDistinct (s := s.received) hd hy⟩

end Ceases

/-! ## The clauses of STOP -/

section Clauses

variable {s v : State} {g m : GroupId} {c : Instr} {cmd : Slot32} {x y : Group} {e : Entry}

/-- The parts that an accepted STOP and its consequences may change. -/
abbrev stopBlocks : List Block := everyGroup ++ [Block.captureQueue, .converter, .resultWriter, .admin, .requests, .port]

/-- A RUNNING group that is to stop at a boundary. -/
theorem stopRunning_of_boundary {n : Nat} (h : n < 2) (x : Group) : x.stopRunning (stopModeOfByte n) = { x with
    window := x.kept, ring := x.steppedBack, state := .stopping
    pendingStop := if n = 0 then .periodEnd else .segmentEnd } := by
  obtain rfl | rfl : n = 0 ∨ n = 1 := by omega
  · show { x.cancelFetch with state := .stopping, pendingStop := .periodEnd } = _
    rw [Group.cancelFetch_eq]
    rfl
  · show { x.cancelFetch with state := .stopping, pendingStop := .segmentEnd } = _
    rw [Group.cancelFetch_eq]
    rfl

theorem Group.producing_kept (hwindow : y.window = x.kept) (hst : y.state = .stopping) (hx : x.state = .running) :
    y.producing = x.producing := by
  have hact : y.hasActive = x.hasActive := by
    rw [Group.hasActive, Group.hasActive, hwindow, Group.kept, List.any_filter]
    congr 1
    funext e
    cases e.st <;> rfl
  rw [Group.producing, Group.producing, hact, hst, hx]
  rfl

theorem Group.not_active_of_count (h : x.activeCount = 0) : ∀ e ∈ x.window, e.st ≠ .active := by
  intro e he hst
  have hmem : e ∈ x.window.filter fun e => e.st == .active := List.mem_filter.2 ⟨he, by simp [hst]⟩
  rw [List.length_eq_zero_iff.1 h] at hmem
  cases hmem

theorem Group.producing_of_not_active (h : ∀ e ∈ x.window, e.st ≠ .active) : x.producing = false := by
  have hno : x.hasActive = false := by
    rw [Group.hasActive, List.any_eq_false]
    intro e he
    simpa using h e he
  rw [Group.producing, hno, Bool.false_and]

theorem Entry.stopped_not_active (e : Entry) : e.stopped.st ≠ .active := by
  unfold Entry.stopped
  cases hst : e.st <;> simp [hst]

/-- A STOP of a group that runs no record leaves its DRAINING records alone. -/
theorem mem_of_stopped_draining (hno : ∀ e ∈ x.window, e.st ≠ .active) (he : e ∈ x.kept.map Entry.stopped)
    (hst : e.st = .draining) : e ∈ x.window := by
  obtain ⟨d, hd, rfl⟩ := List.mem_map.1 he
  have hmem := (List.mem_filter.1 hd).1
  rcases Entry.stopped_draining hst with h | ⟨-, h⟩
  · exact absurd h (hno d hmem)
  · rw [h]; exact hmem

variable (hs : Settled s) (hring : RingLaw s) (hactive : ActiveLaw s) (ha : Awaits s .adminProcessor)

include hs hring hactive ha

/-- A RUNNING group is to stop at a boundary (R37). -/
theorem stop_running (hst : (s.group g).state = .running) {n : Nat} (hn : n < 2)
    (hexec : exec c s = .next ((s.received.stopGroup g (stopModeOfByte n)).pump.report cmd .ok 0).settle) :
    ∃ t : State, exec c s = .next t
      ∧ t.Drains g { s.group g with
          window := (s.group g).kept, ring := (s.group g).steppedBack, state := .stopping
          pendingStop := if n = 0 then .periodEnd else .segmentEnd }
      ∧ (t.group g).state = .stopping
      ∧ (∀ m, m ≠ g → t.Drains m (s.group m))
      ∧ (CaptureLaw s → SameExcept [.group g, .admin, .requests, .port] s t)
      ∧ Reported cmd .ok 0 s t
      ∧ SameExcept stopBlocks s t := by
  have hd : ∀ m, (s.group m).SlotsDistinct := fun m => (hring m).slotsDistinct
  have hv : s.received.stopGroup g (stopModeOfByte n) = s.received.setGroup g { s.group g with
      window := (s.group g).kept, ring := (s.group g).steppedBack, state := .stopping
      pendingStop := if n = 0 then .periodEnd else .segmentEnd } := by
    unfold State.stopGroup
    have hstate : (s.received.group g).state = .running := hst
    rw [hstate, ← stopRunning_of_boundary hn]
    rfl
  rw [hv] at hexec
  generalize hy : ({ s.group g with
      window := (s.group g).kept, ring := (s.group g).steppedBack, state := .stopping
      pendingStop := if n = 0 then .periodEnd else .segmentEnd } : Group) = y at *
  have hwindow : y.window = (s.group g).kept := by rw [← hy]
  have hstate : y.state = .stopping := by rw [← hy]
  have hc : s.Ceases (s.received.setGroup g y) := ceases_setGroup hd (by rw [Group.SlotsDistinct, hwindow]; exact Group.kept_slotsDistinct (hd g))
  have hgroup : (s.received.setGroup g y).group g = y := State.group_setGroup_same ..
  have hothers : ∀ m, m ≠ g → (s.received.setGroup g y).group m = s.group m := fun m hm => State.group_setGroup_ne _ _ hm
  have hsets : (s.received.setGroup g y).sets = s.sets := rfl
  generalize s.received.setGroup g y = v at *
  have hprod : ∀ m, (v.group m).producing = (s.group m).producing := fun m => by
    by_cases hm : m = g
    · rw [hm, hgroup, Group.producing_kept hwindow hstate hst]
    · rw [hothers m hm]
  have hdraining : ∀ m, ∀ e ∈ (v.group m).window, e.st = .draining → e ∈ (s.group m).window := fun m e he _ => by
    by_cases hm : m = g
    · subst hm
      rw [hgroup, hwindow] at he
      exact (List.mem_filter.1 he).1
    · rw [hothers m hm] at he
      exact he
  refine ⟨_, hexec, ?_, ?_, fun m hm => ?_, fun hcap => ?_, hc.reported, ?_⟩
  · exact hc.drains hgroup
  · have hp : ((v.pump.report cmd .ok 0).settle.group g).producing = true :=
      (State.pump_producing hc.slots g).trans ((hprod g).trans ((Group.producing_iff _).2 ⟨(hactive g).hasActive hst, .inl hst⟩))
    obtain ⟨-, -, -, ⟨h, -⟩ | ⟨-, h, -⟩⟩ := (hc.drains (cmd := cmd) (status := .ok) (value := 0) hgroup).1
    · rw [h, hstate]
    · obtain ⟨-, hr | hr⟩ := (Group.producing_iff _).1 hp <;> rw [h] at hr <;> cases hr
  · exact hc.drains (hothers m hm)
  · exact hc.frame hs (by simp) (fun m hm => hc.pump_group ha hcap (hothers m fun h => hm (by simp [h]))) (fun _ => hprod)
      (fun _ => hsets) (fun _ => hc.path ha hcap) fun _ => by
        rw [Block.Same, hc.pumpWriter ha hcap hdraining]
        exact ⟨rfl, rfl, rfl, rfl, rfl⟩
  · exact hc.frame hs (by simp) (fun m hm => absurd (by fin_cases m <;> simp) hm) (fun _ => hprod) (fun _ => hsets)
      (fun h => absurd h (by simp)) fun h => absurd (by simp) h

omit hactive in
/-- A RUNNING group is stopped at once (R38). -/
theorem stop_now (hst : (s.group g).state = .running)
    (hexec : exec c s = .next ((s.received.stopGroup g .now).pump.report cmd .ok 0).settle) :
    ∃ t : State, exec c s = .next t
      ∧ t.Drains g { s.group g with
          window := (s.group g).kept.map Entry.stopped, ring := (s.group g).steppedBack, state := .stopping, pendingStop := .noStop
          counter := 0, slope := .up }
      ∧ ((∀ e ∈ (t.group g).window, e.st = .retiring) ↔ (t.group g).state = .stopped)
      ∧ (∀ m, m ≠ g → t.Drains m (s.group m))
      ∧ (CaptureLaw s →
          s.RetiresFinished t g { s.group g with window := (s.group g).kept.map Entry.stopped }
          ∧ (∀ m, m ≠ g → s.RetiresFinished t m (s.group m))
          ∧ KeepsCaptureWork (s.setGroup g { s.group g with window := (s.group g).kept.map Entry.stopped }) t)
      ∧ (CaptureLaw s → SameExcept [.group g, .pairs, .resultWriter, .admin, .requests, .port] s t)
      ∧ EndsTheWaveform s t g
      ∧ Reported cmd .ok 0 s t
      ∧ SameExcept (stopBlocks ++ [Block.pairs]) s t := by
  have hd : ∀ m, (s.group m).SlotsDistinct := fun m => (hring m).slotsDistinct
  have hv : s.received.stopGroup g .now = s.received.setGroup g ((s.group g).stopRunning .now) := by
    unfold State.stopGroup
    have hstate : (s.received.group g).state = .running := hst
    rw [hstate]
    rfl
  rw [hv, Group.stopNow_eq] at hexec
  generalize hy : ({ s.group g with
      window := (s.group g).kept.map Entry.stopped, ring := (s.group g).steppedBack, state := .stopping, pendingStop := .noStop
      counter := 0, slope := .up } : Group) = y at *
  have hwindow : y.window = (s.group g).kept.map Entry.stopped := by rw [← hy]
  have hstate : y.state = .stopping := by rw [← hy]
  have hnot : y.producing = false := Group.producing_of_not_active fun e he => by
    rw [hwindow] at he
    obtain ⟨d, -, rfl⟩ := List.mem_map.1 he
    exact d.stopped_not_active
  have hc : s.Ceases (s.received.setGroup g y) := ceases_setGroup hd (by rw [Group.SlotsDistinct, hwindow]; exact Group.stopped_slotsDistinct (hd g))
  have hgroup : (s.received.setGroup g y).group g = y := State.group_setGroup_same ..
  have hothers : ∀ m, m ≠ g → (s.received.setGroup g y).group m = s.group m := fun m hm => State.group_setGroup_ne _ _ hm
  have hsets : (s.received.setGroup g y).sets = s.sets := rfl
  generalize s.received.setGroup g y = v at *
  refine ⟨_, hexec, ?_, hc.stopped_iff ha (by rw [hgroup, hstate]), fun m hm => ?_, fun hcap => ⟨?_, fun m hm => ?_, ?_⟩, fun hcap => ?_,
    ?_, hc.reported, ?_⟩
  · exact hc.drains hgroup
  · exact hc.drains (hothers m hm)
  · exact hc.retiresFinished ha hcap g (by rw [hgroup, hwindow])
  · exact hc.retiresFinished ha hcap m (by rw [hothers m hm])
  · refine hc.keepsCaptureWork ha hcap (fun m => ?_) rfl rfl rfl rfl
    by_cases hm : m = g
    · rw [hm, State.group_setGroup_same, hgroup, hwindow]
    · rw [State.group_setGroup_ne _ _ hm, hothers m hm]
  · exact hc.frame hs (by simp) (fun m hm => hc.pump_group ha hcap (hothers m fun h => hm (by simp [h]))) (fun h => absurd (by simp) h)
      (fun _ => hsets) (fun _ => hc.path ha hcap) fun h => absurd (by simp) h
  · exact hc.endsTheWaveform hs ha (fun m hm => by rw [hothers m hm]) (by rw [hgroup, hnot])
  · exact hc.frame hs (by simp) (fun m hm => absurd (by fin_cases m <;> simp) hm) (fun h => absurd (by simp) h) (fun _ => hsets)
      (fun h => absurd h (by simp)) fun h => absurd (by simp) h

/-- A STARVED group is stopped once nothing drains (R38). -/
theorem stop_starved (hst : (s.group g).state = .starved) {mode : StopMode}
    (hexec : exec c s = .next ((s.received.stopGroup g mode).pump.report cmd .ok 0).settle) :
    ∃ t : State, exec c s = .next t
      ∧ t.Drains g { s.group g with
          window := (s.group g).kept.map Entry.stopped, ring := (s.group g).steppedBack, state := .stopping }
      ∧ ((∀ e ∈ (t.group g).window, e.st = .retiring) ↔ (t.group g).state = .stopped)
      ∧ (∀ m, m ≠ g → t.Drains m (s.group m))
      ∧ (CaptureLaw s → SameExcept [.group g, .admin, .requests, .port] s t)
      ∧ Reported cmd .ok 0 s t
      ∧ SameExcept stopBlocks s t := by
  have hd : ∀ m, (s.group m).SlotsDistinct := fun m => (hring m).slotsDistinct
  have hnone : ∀ e ∈ (s.group g).window, e.st ≠ .active := by
    obtain ⟨-, -, hno, -⟩ := hactive g
    exact Group.not_active_of_count (hno (by rw [hst]; decide) (by rw [hst]; decide))
  have hv : s.received.stopGroup g mode =
      s.received.setGroup g { (s.group g).cancelFetch.retireWaiting with state := .stopping } := by
    unfold State.stopGroup
    have hstate : (s.received.group g).state = .starved := hst
    rw [hstate]
    rfl
  rw [hv, Group.retired_eq hnone] at hexec
  generalize hy : ({ s.group g with
      window := (s.group g).kept.map Entry.stopped, ring := (s.group g).steppedBack, state := .stopping } : Group) = y at *
  have hwindow : y.window = (s.group g).kept.map Entry.stopped := by rw [← hy]
  have hstate : y.state = .stopping := by rw [← hy]
  have hnot : y.producing = false := Group.producing_of_not_active fun e he => by
    rw [hwindow] at he
    obtain ⟨d, -, rfl⟩ := List.mem_map.1 he
    exact d.stopped_not_active
  have hc : s.Ceases (s.received.setGroup g y) := ceases_setGroup hd (by rw [Group.SlotsDistinct, hwindow]; exact Group.stopped_slotsDistinct (hd g))
  have hgroup : (s.received.setGroup g y).group g = y := State.group_setGroup_same ..
  have hothers : ∀ m, m ≠ g → (s.received.setGroup g y).group m = s.group m := fun m hm => State.group_setGroup_ne _ _ hm
  have hsets : (s.received.setGroup g y).sets = s.sets := rfl
  generalize s.received.setGroup g y = v at *
  have hprod : ∀ m, (v.group m).producing = (s.group m).producing := fun m => by
    by_cases hm : m = g
    · rw [hm, hgroup, hnot, Group.producing_of_not_active hnone]
    · rw [hothers m hm]
  have hdraining : ∀ m, ∀ e ∈ (v.group m).window, e.st = .draining → e ∈ (s.group m).window := fun m e he hdr => by
    by_cases hm : m = g
    · subst hm
      rw [hgroup, hwindow] at he
      exact mem_of_stopped_draining hnone he hdr
    · rw [hothers m hm] at he
      exact he
  refine ⟨_, hexec, ?_, hc.stopped_iff ha (by rw [hgroup, hstate]), fun m hm => ?_, fun hcap => ?_, hc.reported, ?_⟩
  · exact hc.drains hgroup
  · exact hc.drains (hothers m hm)
  · exact hc.frame hs (by simp) (fun m hm => hc.pump_group ha hcap (hothers m fun h => hm (by simp [h]))) (fun _ => hprod)
      (fun _ => hsets) (fun _ => hc.path ha hcap) fun _ => by
        rw [Block.Same, hc.pumpWriter ha hcap hdraining]
        exact ⟨rfl, rfl, rfl, rfl, rfl⟩
  · exact hc.frame hs (by simp) (fun m hm => absurd (by fin_cases m <;> simp) hm) (fun _ => hprod) (fun _ => hsets)
      (fun h => absurd h (by simp)) fun h => absurd (by simp) h

omit hactive in
/-- An ARMED group is stopped, and its set is broken (R36, R42). -/
theorem stop_armed (hrest : RestLaw s) (hset : SetLaw s) (hst : (s.group g).state = .armed) {mode : StopMode}
    (hexec : exec c s = .next ((s.received.stopGroup g mode).pump.report cmd .ok 0).settle) :
    ∃ t : State, exec c s = .next t
      ∧ t.group g = { s.group g with
          window := (s.group g).kept.map Entry.stopped, ring := (s.group g).steppedBack, state := .stopped
          notices := ((s.group g).notices.add .stopped).add .setBroken }
      ∧ t.sets = s.sets.filter (fun u => !u.members.getLsbD g)
      ∧ (∀ m : GroupId, m ≠ g → s.sharesSet g m = true → t.group m = (s.group m).setBroken)
      ∧ (∀ m : GroupId, m ≠ g → s.sharesSet g m = false → t.Drains m (s.group m))
      ∧ (CaptureLaw s → SameExcept (everyGroup ++ [Block.sets] ++ [Block.admin, Block.requests, Block.port]) s t)
      ∧ Reported cmd .ok 0 s t
      ∧ SameExcept (stopBlocks ++ [Block.sets]) s t := by
  have hd : ∀ m, (s.group m).SlotsDistinct := fun m => (hring m).slotsDistinct
  have hwaits : ∀ m, (s.group m).state = .armed → ∀ e ∈ (s.group m).window, e.isWaiting = true := fun m h => (hrest m).2 h
  have hnone : ∀ e ∈ (s.group g).window, e.st ≠ .active := fun e he hact => by
    have hw := hwaits g hst e he
    rw [Entry.isWaiting, hact] at hw
    cases hw
  have hv : s.received.stopGroup g mode =
      (s.received.setGroup g { (s.group g).cancelFetch.retireWaiting with
        state := .stopped, notices := (s.group g).notices.add .stopped }).breakSet g := by
    unfold State.stopGroup
    have hstate : (s.received.group g).state = .armed := hst
    rw [hstate]
    have hn : (s.group g).cancelFetch.retireWaiting.notices = (s.group g).notices := by rw [Group.retired_eq hnone]
    rw [← hn]
    rfl
  rw [hv, Group.retired_eq hnone] at hexec
  generalize hy : ({ s.group g with
      window := (s.group g).kept.map Entry.stopped, ring := (s.group g).steppedBack, state := .stopped
      notices := (s.group g).notices.add .stopped } : Group) = y at *
  have hwindow : y.window = (s.group g).kept.map Entry.stopped := by rw [← hy]
  have hstate : y.state = .stopped := by rw [← hy]
  have hnot : y.producing = false := by simp [Group.producing, hstate]
  have hvgroup : (s.received.setGroup g y).group g = y := State.group_setGroup_same ..
  have hvothers : ∀ m, m ≠ g → (s.received.setGroup g y).group m = s.group m := fun m hm => State.group_setGroup_ne _ _ hm
  have hany : ∀ m : GroupId, (((s.received.setGroup g y).sets.find? fun u => u.members.getLsbD g).any fun u => u.members.getLsbD m) = s.sharesSet g m :=
    sharesSet_iff hset g
  have hgroup : ((s.received.setGroup g y).breakSet g).group g = { y with notices := y.notices.add .setBroken } := by
    rw [State.breakSet_group, if_pos ((hany g).trans (sharesSet_self hset hst)), hvgroup, beq_self_eq_true, Group.breakOut_leaver]
  have hmember : ∀ m, m ≠ g → s.sharesSet g m = true →
      ((s.received.setGroup g y).breakSet g).group m = (s.group m).setBroken := fun m hm hsh => by
    have hne : (m == g) = false := by simpa using hm
    rw [State.breakSet_group, if_pos ((hany m).trans hsh), hvothers m hm, hne, Group.breakOut_member (armed_of_sharesSet hset hsh)]
  have hother : ∀ m, m ≠ g → s.sharesSet g m = false →
      ((s.received.setGroup g y).breakSet g).group m = s.group m := fun m hm hsh => by
    rw [State.breakSet_group, if_neg (fun h => by rw [← hany m] at hsh; exact absurd (h.symm.trans hsh) (by decide)), hvothers m hm]
  have hsets : ((s.received.setGroup g y).breakSet g).sets = s.sets.filter (fun u => !u.members.getLsbD g) := by
    rw [State.breakSet_sets]; rfl
  have hc : s.Ceases ((s.received.setGroup g y).breakSet g) := by
    refine ⟨by rw [State.fixed_breakSet]; rfl, by rw [State.pairs_breakSet]; rfl, by rw [State.tokens_breakSet]; rfl,
      by rw [State.ticks_breakSet]; rfl, by rw [State.breakSet_captureQueue]; rfl, by rw [(State.breakSet_converter _ g).1]; rfl,
      by rw [State.breakSet_writer]; rfl, by rw [(State.breakSet_converter _ g).2]; rfl, fun m => ?_⟩
    by_cases hm : m = g
    · rw [hm, hgroup, Group.SlotsDistinct, hwindow]
      exact Group.stopped_slotsDistinct (hd g)
    · cases hsh : s.sharesSet g m with
      | true => rw [hmember m hm hsh]; exact Group.setBroken_slotsDistinct (hd m)
      | false => rw [hother m hm hsh]; exact hd m
  generalize (s.received.setGroup g y).breakSet g = v at *
  have hnodrain : ∀ e ∈ (v.group g).window, e.st ≠ .draining := fun e he hdr => by
    rw [hgroup, hwindow] at he
    have hw := hwaits g hst e (mem_of_stopped_draining hnone he hdr)
    rw [Entry.isWaiting, hdr] at hw
    cases hw
  have hprod : ∀ m, (v.group m).producing = (s.group m).producing := fun m => by
    by_cases hm : m = g
    · rw [hm, hgroup, Group.producing_of_not_active hnone]
      exact hnot
    · cases hsh : s.sharesSet g m with
      | true => rw [hmember m hm hsh, Group.setBroken_producing, Group.not_producing_of_armed (armed_of_sharesSet hset hsh)]
      | false => rw [hother m hm hsh]
  have hdraining : ∀ m, ∀ e ∈ (v.group m).window, e.st = .draining → e ∈ (s.group m).window := fun m e he hdr => by
    by_cases hm : m = g
    · subst hm
      exact absurd hdr (hnodrain e he)
    · cases hsh : s.sharesSet g m with
      | true =>
        rw [hmember m hm hsh] at he
        exact absurd hdr (setBroken_not_draining (hwaits m (armed_of_sharesSet hset hsh)) e he)
      | false =>
        rw [hother m hm hsh] at he
        exact he
  refine ⟨_, hexec, ?_, v.sets_pump.trans hsets, fun m hm hsh => ?_, fun m hm hsh => ?_, fun hcap => ?_, hc.reported, ?_⟩
  · rw [(hc.drains (m := g) rfl).1.eq_of_still hnodrain (by rw [hgroup]; exact fun h => GroupState.noConfusion (hstate.symm.trans h)), hgroup, ← hy]
  · rw [(hc.drains (m := m) rfl).1.eq_of_still (by rw [hmember m hm hsh]; exact setBroken_not_draining (hwaits m (armed_of_sharesSet hset hsh)))
      (by rw [hmember m hm hsh]; nofun), hmember m hm hsh]
  · exact hc.drains (hother m hm hsh)
  · exact hc.frame hs (by simp) (fun m hm => absurd (by fin_cases m <;> simp) hm) (fun _ => hprod)
      (fun h => absurd (by simp) h) (fun _ => hc.path ha hcap) fun _ => by
        rw [Block.Same, hc.pumpWriter ha hcap hdraining]
        exact ⟨rfl, rfl, rfl, rfl, rfl⟩
  · exact hc.frame hs (by simp) (fun m hm => absurd (by fin_cases m <;> simp) hm) (fun _ => hprod) (fun h => absurd (by simp) h)
      (fun h => absurd h (by simp)) fun h => absurd (by simp) h

end Clauses

/-- Settles O56: the group by its state and the mode, and the consequences. -/
theorem stopEndsAGroupByItsState : Obligations.StopEndsAGroupByItsState := by
  unfold Obligations.StopEndsAGroupByItsState
  intro s cmd hs hring hactive hrest hset ha hop c params
  have hexec : exec c s = command false true cmd (stopVerdict cmd s) 0 (stopEffect cmd) s := exec_of_row rfl hop
  refine ⟨fun hp => refused_of_command hs ha hexec (stopVerdict_of_not_params hp) (by decide), ?_⟩
  intro hp g hg x ring kept retired touched keepsWork
  have hverdict := stopVerdict_of_params (s := s) hp hg
  have hrun : x.state.stopVerdict = .ok →
      exec c s = .next ((s.received.stopGroup g (stopModeOfByte (byteOf cmd 8))).pump.report cmd .ok 0).settle := fun hok => by
    rw [exec_of_accepted hexec ha (hverdict.trans hok), stopEffect_eq hg hp.2.1]
  have hretired : retired = kept.map Entry.stopped := rfl
  clear_value retired
  subst hretired
  refine ⟨fun h1 h2 h3 => ?_, fun hst hmode => ?_, fun hst hmode => ?_, fun hst => ?_, fun hst => ?_⟩
  · refine refused_of_command hs ha hexec (hverdict.trans ?_) (by decide)
    show x.state.stopVerdict = .badState
    cases hst : x.state with
    | running => exact absurd hst h1
    | starved => exact absurd hst h2
    | armed => exact absurd hst h3
    | unbound | stopped | stopping | tripped | faulted => rfl
  · exact stop_running hs hring hactive ha hst hmode (hrun (by rw [hst]; rfl))
  · have hexec := hrun (by rw [hst]; rfl)
    rw [hmode] at hexec
    exact stop_now hs hring ha hst hexec
  · exact stop_starved hs hring hactive ha hst (hrun (by rw [hst]; rfl))
  · exact stop_armed hs hring ha hrest hset hst (hrun (by rw [hst]; rfl))

end Sys2Proof.Machine
end

section
/-! PROOF. The capture path from which the work of several groups has been removed, one group after the other (R95, R96,
R111; log 34). -/

namespace Sys2Proof.Machine

section Paths

variable {s w w' : State} {gone : GroupId → Bool} {g m : GroupId} {e : Entry}

/-- The groups `gone`, and `g`. -/
abbrev goneWith (gone : GroupId → Bool) (g : GroupId) : GroupId → Bool := fun m => gone m || m == g

/-- The capture path of `w` is that of `s` without the work of the groups `gone`. -/
structure State.PathWithout (gone : GroupId → Bool) (s w : State) : Prop where
  requests : w.captureQueue = s.captureQueue.filter fun q => !gone q.group
  converter : w.converter = s.converter.without gone
  results : w.writer.queue = s.writer.queue.filter fun r => !gone r.group
  fill : w.writer.fill = s.writer.fill.filter fun r => !gone r.group
  job : w.writer.job = s.writer.job.filter fun j => !gone j.ref.group
  onBus : w.writer.onBus = s.writer.onBus
  mark : w.marks.conv = s.marks.conv

theorem Converter.without_none (c : Converter) : c.without (fun _ => false) = c := by
  unfold Converter.without
  split
  · exact if_neg Bool.false_ne_true
  · exact if_neg Bool.false_ne_true
  · rfl

/-- The state in which nothing has been removed. -/
theorem State.pathWithout_none (hqueue : w.captureQueue = s.captureQueue) (hconv : w.converter = s.converter)
    (hwriter : w.writer = s.writer) (hmark : w.marks.conv = s.marks.conv) : s.PathWithout (fun _ => false) w := by
  have hall : ∀ {α : Type} (l : List α), l.filter (fun _ => !false) = l := fun l => List.filter_eq_self.2 fun _ _ => rfl
  refine ⟨by rw [hall, hqueue], by rw [Converter.without_none, hconv], by rw [hall, hwriter], by rw [hall, hwriter], ?_,
    by rw [hwriter], hmark⟩
  rw [hwriter]
  cases s.writer.job <;> rfl

theorem Converter.without_without (c : Converter) : (c.without gone).without (fun m => m == g) = c.without (goneWith gone g) := by
  unfold Converter.without
  cases hst : c.state with
  | idle => simp [hst]
  | converting =>
    cases hc : c.current with
    | none => simp [hst, hc]
    | some q => cases hg : gone q.group <;> simp [hst, hc, hg]
  | holding =>
    cases hh : c.held with
    | none => simp [hst, hh]
    | some r => cases hg : gone r.group <;> simp [hst, hh, hg]

theorem List.filter_gone {α : Type} (k : α → GroupId) (l : List α) :
    (l.filter fun a => !gone (k a)).filter (fun a => k a != g) = l.filter fun a => !goneWith gone g (k a) := by
  rw [List.filter_filter]
  congr 1
  funext a
  rw [Bool.not_or, Bool.and_comm]
  rfl

/-- The removal of the work of one more group. -/
theorem State.PathWithout.remove (h : s.PathWithout gone w) (hqueue : w'.captureQueue = w.captureQueue.filter fun r => r.group != g)
    (hconv : w'.converter = w.converter.removeGroup g) (hwriter : w'.writer = w.writer.removeGroup g)
    (hmark : w'.marks.conv = w.marks.conv) : s.PathWithout (goneWith gone g) w' := by
  refine ⟨?_, ?_, ?_, ?_, ?_, ?_, hmark.trans h.mark⟩
  · rw [hqueue, h.requests, List.filter_gone]
  · rw [hconv, h.converter, Converter.removeGroup_eq, Converter.without_without]
  · rw [hwriter]
    show w.writer.queue.filter _ = _
    rw [h.results, List.filter_gone]
  · rw [hwriter]
    show w.writer.fill.filter _ = _
    rw [h.fill, List.filter_gone (k := EntryRef.group)]
  · rw [hwriter]
    show (match w.writer.job with | some j => if j.ref.group == g then none else some j | none => none) = _
    rw [h.job]
    cases s.writer.job with
    | none => rfl
    | some j => cases hg : gone j.ref.group <;> cases hj : j.ref.group == g <;> simp [Option.filter, hg, hj]
  · rw [hwriter]
    exact h.onBus

/-- No capture work is for group `g`. -/
structure State.IdleFor (s : State) (g : GroupId) : Prop where
  requests : ∀ q ∈ s.captureQueue, q.group ≠ g
  current : ∀ q, s.converter.current = some q → q.group ≠ g
  held : ∀ r, s.converter.held = some r → r.group ≠ g
  results : ∀ r ∈ s.writer.queue, r.group ≠ g
  fill : ∀ r ∈ s.writer.fill, r.group ≠ g
  job : ∀ j, s.writer.job = some j → j.ref.group ≠ g

/-- Capture work belongs to ACTIVE and DRAINING records (R87). -/
theorem OwnerLaw.idleFor (h : OwnerLaw s) (hno : ∀ e ∈ (s.group g).window, e.st ≠ .active ∧ e.st ≠ .draining) : s.IdleFor g := by
  have hserves : ∀ {ref : EntryRef} {position : Nat}, s.serves ref position → ref.group ≠ g := by
    rintro ref position ⟨e, he, -, hst, -⟩ rfl
    exact hst.elim (hno e he).1 (hno e he).2
  refine ⟨fun q hq => hserves (h.requests q hq), fun q hq => hserves (h.current q hq), fun r hr => hserves (h.held r hr),
    fun r hr => hserves (h.results r hr), fun r hr hg => ?_, fun j hj hg => ?_⟩
  · obtain ⟨-, hfill⟩ := h.fill
    obtain ⟨-, e, he, -, hst, -⟩ := hfill r hr
    exact (hno e (hg ▸ he)).2 hst
  · cases j with
    | result r => exact hserves (h.resultJob r hj) hg
    | fill ref target =>
      obtain ⟨e, he, -, hst, -⟩ := h.fillJob ref target hj
      subst hg
      exact (hno e he).2 hst

/-- A group without work is removed without a change. -/
theorem State.PathWithout.idle (h : s.PathWithout gone w) (hg : s.IdleFor g) (hqueue : w'.captureQueue = w.captureQueue)
    (hconv : w'.converter = w.converter) (hwriter : w'.writer = w.writer) (hmark : w'.marks.conv = w.marks.conv) :
    s.PathWithout (goneWith gone g) w' := by
  have hsame : ∀ {k : GroupId}, k ≠ g → goneWith gone g k = gone k := fun {k} hk => by simp [goneWith, hk]
  have hfilter : ∀ {α : Type} (k : α → GroupId) (l : List α), (∀ a ∈ l, k a ≠ g) →
      l.filter (fun a => !gone (k a)) = l.filter fun a => !goneWith gone g (k a) := fun k l hl =>
    List.filter_congr fun a ha => by rw [hsame (hl a ha)]
  refine ⟨?_, ?_, ?_, ?_, ?_, by rw [hwriter, h.onBus], hmark.trans h.mark⟩
  · rw [hqueue, h.requests, hfilter _ _ hg.requests]
  · rw [hconv, h.converter]
    unfold Converter.without
    split
    · next q _ hq => rw [hsame (hg.current q hq)]
    · next r _ hr => rw [hsame (hg.held r hr)]
    · rfl
  · rw [hwriter, h.results, hfilter _ _ hg.results]
  · rw [hwriter, h.fill, hfilter EntryRef.group _ hg.fill]
  · rw [hwriter, h.job]
    cases hj : s.writer.job with
    | none => rfl
    | some j => simp only [Option.filter, hsame (hg.job j hj)]

/-- Work for a group that is not among `gone` is where it was. -/
theorem State.PathWithout.hasWork (h : s.PathWithout gone w) (hholds : s.converter.Holds) (hg : gone g = false) (e : Entry) :
    w.hasWork g e = s.hasWork g e := by
  have hany : ∀ {α : Type} (k : α → GroupId) (p : α → Bool) (l : List α),
      (l.filter fun a => !gone (k a)).any (fun a => k a == g && p a) = l.any fun a => k a == g && p a := fun k p l => by
    rw [List.any_filter]
    congr 1
    funext a
    by_cases hk : k a = g
    · rw [hk, hg]; simp
    · have hne : (k a == g) = false := by simpa using hk
      rw [hne]; simp
  have hjob : (s.writer.job.filter fun j => !gone j.ref.group).any (fun j => j.ref.group == g && j.ref.slot == e.slot) =
      s.writer.job.any fun j => j.ref.group == g && j.ref.slot == e.slot := by
    cases s.writer.job with
    | none => rfl
    | some j =>
      cases hj : gone j.ref.group with
      | false => simp [Option.filter, hj]
      | true =>
        have hne : j.ref.group ≠ g := fun heq => by rw [heq, hg] at hj; cases hj
        simp [Option.filter, hj, hne]
  have hconv : (s.converter.without gone).current.any (fun q => q.group == g && q.slot == e.slot) =
        s.converter.current.any (fun q => q.group == g && q.slot == e.slot)
      ∧ (s.converter.without gone).held.any (fun r => r.group == g && r.slot == e.slot) =
        s.converter.held.any (fun r => r.group == g && r.slot == e.slot) := by
    rcases Converter.without_cases hholds gone with ⟨hc, -⟩ | ⟨hc, hgone⟩
    · rw [hc]; exact ⟨rfl, rfl⟩
    · have hne : ∀ {k : GroupId}, gone k = true → (k == g) = false := fun {k} hk => by
        have : k ≠ g := fun heq => by rw [heq, hg] at hk; cases hk
        simpa using this
      rw [hc]
      cases hholds with
      | idle _ hcur hheld => rw [hcur, hheld]; exact ⟨rfl, rfl⟩
      | converting q _ hcur hheld =>
        obtain ⟨q', hq', hk⟩ | ⟨r, hr, -⟩ := hgone
        · rw [Option.some.inj (hcur.symm.trans hq')] at hcur
          rw [hcur, hheld]
          simp [hne hk]
        · rw [hheld] at hr; cases hr
      | holding r _ hcur hheld =>
        obtain ⟨q, hq, -⟩ | ⟨r', hr', hk⟩ := hgone
        · rw [hcur] at hq; cases hq
        · rw [Option.some.inj (hheld.symm.trans hr')] at hheld
          rw [hcur, hheld]
          simp [hne hk]
  obtain ⟨hcur, hheld⟩ := hconv
  unfold State.hasWork
  rw [h.requests, h.results, h.fill, h.job, h.onBus, h.converter, hjob, hcur, hheld,
    hany Request.group (fun q => q.slot == e.slot), hany ConvResult.group (fun r => r.slot == e.slot),
    hany EntryRef.group (fun r => r.slot == e.slot)]

theorem State.PathWithout.retired (h : s.PathWithout gone w) (hholds : s.converter.Holds) (hg : gone g = false) (ending : SegStatus)
    (l : List Entry) : w.retired g ending l = s.retired g ending l := by
  have hwork : w.hasWork g = s.hasWork g := funext (h.hasWork hholds hg)
  rw [State.retired, State.retired, hwork]

/-- A state whose capture path is that of a removal, in which nothing drains in the groups `gone`, and every other group
keeps the records that work is kept for. -/
theorem State.PathWithout.cleared (h : s.PathWithout gone w) (hd : ∀ m, (s.group m).SlotsDistinct) (howner : OwnerLaw s)
    (hno : ∀ m, gone m = true → ∀ e ∈ (w.group m).window, e.st ≠ .draining)
    (hkeeps : ∀ m, gone m = false → ∀ e ∈ (s.group m).window, e.st = .active ∨ e.st = .draining → w.entry? (e.ref m) = some e) :
    s.Cleared gone w := by
  refine ⟨h.requests, h.converter, h.results, h.fill, h.job, h.onBus, h.mark, hno, fun r hr hg hdrop => ?_, fun ref hr hg => ?_⟩
  · have hserves : s.serves r.ref r.position := hr.elim (howner.results r) (howner.held r)
    obtain ⟨e, he, hslot, hst, -⟩ := hserves
    have href : e.ref r.group = r.ref := Entry.ref_eq_iff.2 ⟨rfl, hslot⟩
    have hw := hkeeps r.group hg e he hst
    have hs := State.entry?_of_mem (hd r.group) he
    rw [href] at hw hs
    rw [State.dropsResult, hw] at hdrop
    rw [State.dropsResult, hs]
    exact hdrop
  · obtain ⟨-, hfill⟩ := howner.fill
    obtain ⟨-, e, he, hslot, hst, -⟩ := hfill ref hr
    have hw := hkeeps ref.group hg e he (.inr hst)
    rw [Entry.ref_eq_iff.2 ⟨rfl, hslot⟩] at hw
    rw [hw]
    rfl

end Paths

end Sys2Proof.Machine
end

section
/-! PROOF. A latching line trips the groups it names, one after the other (R121, R122; log 34). -/

namespace Sys2Proof.Machine

section Tripped

variable {s w w' : State} {gone : GroupId → Bool} {g m : GroupId} {e : Entry} {x : Group}

/-! ## The state when some groups have tripped -/

/-- A set that the groups `gone` break. -/
abbrev breaksSet (gone : GroupId → Bool) (u : StartSet) : Bool := allGroups.any fun m : GroupId => u.members.getLsbD m && gone m

/-- Group `m` is a member of a set that the groups `gone` break. -/
abbrev State.BrokenFor (s : State) (gone : GroupId → Bool) (m : GroupId) : Prop :=
  ∃ u ∈ s.sets, u.members.getLsbD m = true ∧ breaksSet gone u = true

/-- Group `g` of `s` when it has tripped (R121). -/
def Group.trippedFrom (s : State) (g : GroupId) (x : Group) : Group :=
  { x with
    window := s.retired g .tripped x.kept, ring := x.steppedBack, state := .tripped
    notices := if x.state = .armed then (x.notices.add .tripped).add .setBroken else x.notices.add .tripped
    counter := 0, slope := .up, pendingStop := .noStop }

/-- The groups `gone` have tripped. -/
structure State.Tripped (s : State) (gone : GroupId → Bool) (w : State) : Prop where
  path : s.PathWithout gone w
  sets : w.sets = s.sets.filter fun u => !breaksSet gone u
  unbound : ∀ m, gone m = true → (s.group m).state = .unbound → w.group m = s.group m
  trips : ∀ m, gone m = true → (s.group m).state ≠ .unbound → w.group m = (s.group m).trippedFrom s m
  broken : ∀ m, gone m = false → s.BrokenFor gone m → w.group m = (s.group m).setBroken
  others : ∀ m, gone m = false → ¬s.BrokenFor gone m → w.group m = s.group m

theorem breaksSet_iff {u : StartSet} : breaksSet gone u = true ↔ ∃ m : GroupId, u.members.getLsbD m = true ∧ gone m = true := by
  simp [breaksSet, mem_allGroups]

theorem breaksSet_goneWith (u : StartSet) : breaksSet (goneWith gone g) u = (breaksSet gone u || u.members.getLsbD g) := by
  rw [Bool.eq_iff_iff, Bool.or_eq_true, breaksSet_iff, breaksSet_iff]
  constructor
  · rintro ⟨m, hm, hgone⟩
    rcases Bool.or_eq_true _ _ ▸ hgone with h | h
    · exact .inl ⟨m, hm, h⟩
    · exact .inr (eq_of_beq h ▸ hm)
  · rintro (⟨m, hm, hgone⟩ | hm)
    · exact ⟨m, hm, by simp [goneWith, hgone]⟩
    · exact ⟨g, hm, by simp [goneWith]⟩

theorem State.Tripped.not_armed (h : s.Tripped gone w) (hm : gone m = true) : (w.group m).state ≠ .armed := by
  by_cases hu : (s.group m).state = .unbound
  · rw [h.unbound m hm hu, hu]; decide
  · rw [h.trips m hm hu]; nofun

/-- One more group has tripped. -/
theorem State.Tripped.add (h : s.Tripped gone w) (hwset : SetLaw w) (hpath : s.PathWithout (goneWith gone g) w')
    (hsets : w'.sets = w.sets.filter fun u => !u.members.getLsbD g)
    (hunbound : (s.group g).state = .unbound → w'.group g = s.group g)
    (htrips : (s.group g).state ≠ .unbound → w'.group g = (s.group g).trippedFrom s g)
    (hshares : ∀ m, m ≠ g → w.sharesSet g m = true → w'.group m = (w.group m).setBroken)
    (hothers : ∀ m, m ≠ g → w.sharesSet g m = false → w'.group m = w.group m) : s.Tripped (goneWith gone g) w' := by
  have hstays : ∀ m, m ≠ g → (w.group m).state ≠ .armed → w'.group m = w.group m := fun m hm hst =>
    hothers m hm (Bool.eq_false_of_not_eq_true fun hsh => hst (armed_of_sharesSet hwset hsh))
  have hgone : ∀ {m}, m ≠ g → goneWith gone g m = gone m := fun {m} hm => by simp [goneWith, hm]
  have hne : ∀ {m}, goneWith gone g m = false → m ≠ g ∧ gone m = false := fun {m} hm => by simpa [goneWith, and_comm] using hm
  refine ⟨hpath, ?_, fun m hm hu => ?_, fun m hm hu => ?_, fun m hm hb => ?_, fun m hm hb => ?_⟩
  · rw [hsets, h.sets, List.filter_filter]
    congr 1
    funext u
    rw [breaksSet_goneWith, Bool.not_or, Bool.and_comm]
  · by_cases hmg : m = g
    · subst hmg; exact hunbound hu
    · rw [hgone hmg] at hm
      rw [hstays m hmg (h.not_armed hm), h.unbound m hm hu]
  · by_cases hmg : m = g
    · subst hmg; exact htrips hu
    · rw [hgone hmg] at hm
      rw [hstays m hmg (h.not_armed hm), h.trips m hm hu]
  · obtain ⟨hmg, hm⟩ := hne hm
    by_cases hold : s.BrokenFor gone m
    · have hw := h.broken m hm hold
      rw [hstays m hmg (by rw [hw]; nofun), hw]
    · obtain ⟨u, hu, hmem, hbreaks⟩ := hb
      have hkept : breaksSet gone u = false := Bool.eq_false_of_not_eq_true fun hyes => hold ⟨u, hu, hmem, hyes⟩
      rw [breaksSet_goneWith, hkept, Bool.false_or] at hbreaks
      have hsh : w.sharesSet g m = true := by
        rw [State.sharesSet, h.sets, List.any_eq_true]
        exact ⟨u, List.mem_filter.2 ⟨hu, by rw [hkept]; rfl⟩, by rw [hbreaks, hmem]; rfl⟩
      rw [hshares m hmg hsh, h.others m hm hold]
  · obtain ⟨hmg, hm⟩ := hne hm
    have hold : ¬s.BrokenFor gone m := fun ⟨u, hu, hmem, hyes⟩ =>
      hb ⟨u, hu, hmem, by rw [breaksSet_goneWith, hyes]; rfl⟩
    rw [← h.others m hm hold]
    refine hothers m hmg (Bool.eq_false_of_not_eq_true fun hsh => ?_)
    rw [State.sharesSet, h.sets, List.any_eq_true] at hsh
    obtain ⟨u, hu, hmem⟩ := hsh
    rw [Bool.and_eq_true] at hmem
    exact hb ⟨u, (List.mem_filter.1 hu).1, hmem.2, by rw [breaksSet_goneWith, hmem.1, Bool.or_true]⟩

/-- A group that is not ARMED breaks no set (R72). -/
theorem filter_sets_of_not_armed (hw : SetLaw w) (hst : (w.group g).state ≠ .armed) :
    (w.sets = w.sets.filter fun u => !u.members.getLsbD g) ∧ ∀ m, w.sharesSet g m = false := by
  have hno : ∀ u ∈ w.sets, u.members.getLsbD g = false := fun u hu =>
    Bool.eq_false_of_not_eq_true fun hm => hst (hw.armed hu hm)
  refine ⟨(List.filter_eq_self.2 fun u hu => by rw [hno u hu]; rfl).symm, fun m => ?_⟩
  rw [State.sharesSet, List.any_eq_false]
  intro u hu
  rw [hno u hu]
  exact Bool.false_ne_true

/-! ## A group at rest trips -/

/-- The records of a window of RETIRING ones. -/
theorem State.retired_of_retiring (s : State) (g : GroupId) (ending : SegStatus) (h : ∀ e ∈ x.window, e.st = .retiring) :
    s.retired g ending x.kept = x.window ∧ x.steppedBack = x.ring := by
  obtain ⟨hkept, hback⟩ := Group.kept_eq_self (x := x) fun e he => by rw [h e he]; decide
  refine ⟨?_, hback⟩
  rw [hkept, State.retired]
  refine (List.map_congr_left fun e he => ?_).trans (List.map_id _)
  have hst := h e he
  cases e
  cases hst
  rfl

/-- A STOPPED or FAULTED group of `s` that trips. -/
theorem Group.trippedFrom_of_atRest (hrest : ∀ e ∈ x.window, e.st = .retiring) (hactive : x.ActiveLaw)
    (hst : x.state = .stopped ∨ x.state = .faulted) :
    x.trippedFrom s g = { x with state := .tripped, notices := x.notices.add .tripped } := by
  obtain ⟨-, -, hno, hpending, hcounter⟩ := hactive
  have hne : x.state ≠ .running ∧ x.state ≠ .stopping ∧ x.state ≠ .armed := by rcases hst with h | h <;> rw [h] <;> decide
  obtain ⟨hrun, hstop, harmed⟩ := hne
  obtain ⟨hc, hs⟩ := hcounter (hno hrun hstop)
  have hp : x.pendingStop = .noStop := by
    by_contra h
    exact hstop (hpending h).1
  obtain ⟨hw, hr⟩ := s.retired_of_retiring g .tripped hrest
  rw [Group.trippedFrom, hw, hr, if_neg harmed, ← hc, ← hs, ← hp]

/-- The records of an ARMED group, retired one by one, as by the breaking of its set. -/
theorem State.retired_of_waiting (s : State) (g : GroupId) (h : ∀ e ∈ x.window, e.isWaiting = true) :
    s.retired g .tripped x.kept = x.setBroken.window := by
  refine List.map_congr_left fun e he => ?_
  obtain ⟨hmem, hfetch⟩ := List.mem_filter.1 he
  have hw := h e hmem
  rw [Entry.isWaiting] at hw
  cases hst : e.st <;> simp_all

/-- A member of a set that another member has broken, and that trips then. -/
theorem Group.trippedFrom_of_setBroken (hwaits : ∀ e ∈ x.window, e.isWaiting = true) (hactive : x.ActiveLaw)
    (hst : x.state = .armed) :
    x.trippedFrom s g = { x.setBroken with state := .tripped, notices := x.setBroken.notices.add .tripped } := by
  obtain ⟨-, -, hno, hpending, hcounter⟩ := hactive
  obtain ⟨hc, hs⟩ := hcounter (hno (by rw [hst]; decide) (by rw [hst]; decide))
  have hp : x.pendingStop = .noStop := by
    by_contra h
    exact GroupState.noConfusion (hst.symm.trans (hpending h).1)
  rw [Group.trippedFrom, s.retired_of_waiting g hwaits, if_pos hst]
  show _ = { x with
    window := x.setBroken.window, ring := x.steppedBack, state := .tripped, notices := (x.notices.add .setBroken).add .tripped }
  rw [← hc, ← hs, ← hp]
  rfl

theorem State.Tripped.resting (h : s.Tripped gone w) (hwset : SetLaw w) (hst : (w.group g).state = .stopped ∨ (w.group g).state = .faulted)
    (hidle : s.IdleFor g) (hu : (s.group g).state ≠ .unbound)
    (hfinal : { w.group g with state := .tripped, notices := (w.group g).notices.add .tripped } = (s.group g).trippedFrom s g) :
    s.Tripped (goneWith gone g) (w.tripGroup g) := by
  rw [State.tripGroup_of_resting hst]
  obtain ⟨hsets, hno⟩ := filter_sets_of_not_armed (g := g) hwset (by rcases hst with h | h <;> rw [h] <;> decide)
  refine h.add hwset (h.path.idle hidle rfl rfl rfl rfl) hsets (fun h => absurd h hu) (fun _ => ?_) (fun m _ hsh => ?_)
    fun m hm _ => State.group_modGroup_ne _ _ hm
  · rw [State.group_modGroup_same]
    exact hfinal
  · rw [hno] at hsh
    cases hsh

/-- A group that waits, runs, starves or stops is taken down (R121, R122). -/
theorem tripGroup_takenDown (h : (w.group g).state = .armed ∨ (w.group g).state = .running ∨ (w.group g).state = .starved
    ∨ (w.group g).state = .stopping) : w.tripGroup g = w.takenDown g .tripped .tripped fun k => k.add .tripped := by
  have hclear : (w.removeWork g .tripped).modGroup g (fun x => { x.clearOut with state := .tripped }.notify .tripped) =
      w.clearedOut g .tripped .tripped fun k => k.add .tripped := by
    unfold State.clearedOut
    refine State.modGroup_congr ?_
    have hn : ((w.removeWork g .tripped).group g).clearOut.notices = ((w.removeWork g .tripped).group g).notices :=
      Group.notices_clearOut _
    rw [Group.notify]
    show { ((w.removeWork g .tripped).group g).clearOut with
      state := .tripped, notices := ((w.removeWork g .tripped).group g).clearOut.notices.add .tripped } = _
    rw [hn]
  rw [State.takenDown]
  rcases h with h | h
  · rw [State.tripGroup_of_armed h, if_pos h, hclear]
  · rw [State.tripGroup_of_running h, if_neg (by rcases h with h | h | h <;> rw [h] <;> decide), hclear]

theorem State.Tripped.takenDown (h : s.Tripped gone w) (hwset : SetLaw w) (hcap : CaptureLaw s) (hg : gone g = false)
    (hw : w.group g = s.group g) (hst : (s.group g).state = .armed ∨ (s.group g).state = .running ∨ (s.group g).state = .starved
      ∨ (s.group g).state = .stopping) : s.Tripped (goneWith gone g) (w.tripGroup g) := by
  rw [tripGroup_takenDown (by rw [hw]; exact hst)]
  obtain ⟨hq, hc, hwr, hm⟩ := takenDown_path (v := w) (g := g) (ending := .tripped) (state := .tripped) (notices := fun k => k.add .tripped)
  have hsame := takenDown_group_same (ending := .tripped) (state := .tripped) (notices := fun k => k.add .tripped) (v := w) (g := g)
    fun _ => hwset
  have hshares : ∀ {m}, w.sharesSet g m = true → (w.group g).state = .armed := fun {m} hsh => by
    by_contra hne
    rw [(filter_sets_of_not_armed hwset hne).2 m] at hsh
    cases hsh
  refine h.add hwset (h.path.remove hq hc hwr hm) ?_ (fun hu => ?_) (fun _ => ?_)
    (fun m hm hsh => takenDown_group_shares hwset (hshares hsh) hm hsh)
    fun m hm hsh => takenDown_group_other (fun _ => hwset) hm fun hno => Bool.false_ne_true (hsh.symm.trans hno.2)
  · rw [takenDown_sets]
    split
    · rfl
    · next harmed => exact (filter_sets_of_not_armed hwset harmed).1
  · rcases hst with h | h | h | h <;> exact GroupState.noConfusion (h.symm.trans hu)
  · rw [hsame, hw, Group.clearedTo, h.path.retired hcap.holds hg]
    rfl

/-- One more group trips, in a state that keeps the laws. -/
theorem State.Tripped.tripGroup (h : s.Tripped gone w) (hwset : SetLaw w) (hset : SetLaw s) (hrest : RestLaw s) (hactive : ActiveLaw s)
    (hcap : CaptureLaw s) (howner : OwnerLaw s) (hg : gone g = false) (hst : (s.group g).state ≠ .tripped) :
    s.Tripped (goneWith gone g) (w.tripGroup g) := by
  have hidleRest : (s.group g).state.atRest = true → s.IdleFor g := fun hr =>
    howner.idleFor fun e he => by rw [(hrest g).1 hr e he]; decide
  by_cases hold : s.BrokenFor gone g
  · have hw := h.broken g hg hold
    obtain ⟨u, hu, hmem, -⟩ := hold
    have harmed := hset.armed hu hmem
    have hwaits := (hrest g).2 harmed
    have hidle : s.IdleFor g := howner.idleFor fun e he => by
      have hwait := hwaits e he
      rw [Entry.isWaiting] at hwait
      cases hst : e.st <;> simp_all
    refine h.resting hwset (.inl (by rw [hw]; rfl)) hidle (by rw [harmed]; decide) ?_
    rw [hw, Group.trippedFrom_of_setBroken hwaits (hactive g) harmed]
  · have hw := h.others g hg hold
    have hatRest : (s.group g).state = .stopped ∨ (s.group g).state = .faulted → s.Tripped (goneWith gone g) (w.tripGroup g) :=
      fun hr => by
        have hretiring := (hrest g).1 (by rcases hr with h | h <;> rw [h] <;> rfl)
        refine h.resting hwset (by rw [hw]; exact hr) (hidleRest (by rcases hr with h | h <;> rw [h] <;> rfl))
          (by rcases hr with h | h <;> rw [h] <;> decide) ?_
        rw [hw, Group.trippedFrom_of_atRest hretiring (hactive g) hr]
    cases hcase : (s.group g).state with
    | unbound =>
      obtain ⟨hsets, hno⟩ := filter_sets_of_not_armed (g := g) hwset (by rw [hw, hcase]; decide)
      rw [State.tripGroup_of_out (.inl (by rw [hw, hcase]))]
      refine h.add hwset (h.path.idle (hidleRest (by rw [hcase]; rfl)) rfl rfl rfl rfl) hsets (fun _ => hw) (fun hu => absurd hcase hu)
        (fun m _ hsh => ?_) fun m _ _ => rfl
      rw [hno] at hsh
      cases hsh
    | tripped => exact absurd hcase hst
    | stopped => exact hatRest (.inl hcase)
    | faulted => exact hatRest (.inr hcase)
    | armed => exact h.takenDown hwset hcap hg hw (.inl hcase)
    | running => exact h.takenDown hwset hcap hg hw (.inr (.inl hcase))
    | starved => exact h.takenDown hwset hcap hg hw (.inr (.inr (.inl hcase)))
    | stopping => exact h.takenDown hwset hcap hg hw (.inr (.inr (.inr hcase)))

/-- The groups of a list trip, one after the other. -/
theorem tripped_foldl (hset : SetLaw s) (hrest : RestLaw s) (hactive : ActiveLaw s) (hcap : CaptureLaw s) (howner : OwnerLaw s) :
    ∀ (l : List GroupId) (gone : GroupId → Bool) (w : State), l.Nodup → (∀ g ∈ l, gone g = false ∧ (s.group g).state ≠ .tripped) →
      SetLaw w → s.Tripped gone w →
      s.Tripped (fun m => gone m || l.contains m) (l.foldl (fun t g => t.tripGroup g) w)
  | [], gone, w, _, _, _, h => by
    have hgone : (fun m => gone m || [].contains m) = gone := funext fun m => by simp
    rw [hgone]
    exact h
  | g :: l, gone, w, hnodup, hl, hwset, h => by
    obtain ⟨hg, hst⟩ := hl g List.mem_cons_self
    obtain ⟨hnot, hnodup'⟩ := List.nodup_cons.1 hnodup
    have hgone : (fun m => gone m || (g :: l).contains m) = fun m => goneWith gone g m || l.contains m := funext fun m => by
      rw [List.contains_cons, ← Bool.or_assoc]
    rw [hgone]
    refine tripped_foldl hset hrest hactive hcap howner l _ _ hnodup' (fun k hk => ⟨?_, (hl k (List.mem_cons_of_mem _ hk)).2⟩)
      (setLaw_tripGroup hwset g) (h.tripGroup hwset hset hrest hactive hcap howner hg hst)
    have hne : k ≠ g := fun h => hnot (h ▸ hk)
    simp [goneWith, (hl k (List.mem_cons_of_mem _ hk)).1, hne]

end Tripped

end Sys2Proof.Machine
end

section
/-! PROOF. A latching line trips every bound group it names: the groups, the capture path and the pairs (R121, R122). -/

namespace Sys2Proof.Machine

section TripMoves

variable {s w p : State} {gone : GroupId → Bool} {l : LineId} {g m : GroupId}

/-! ## The groups that trip -/

/-- The groups that a change of line `l` trips. -/
abbrev State.tripsOf (s : State) (l : LineId) : GroupId → Bool := fun m => (s.line l).mask.getLsbD m && !s.tripCondition m

/-- The trip condition after line `l` has become active. -/
theorem tripCondition_latched (hf : (s.line l).filtered = false) (m : GroupId) :
    (s.setLine l (s.line l).change).tripCondition m = (s.tripCondition m || (s.line l).mask.getLsbD m) := by
  have hchange : (s.line l).mask.getLsbD m = true → (s.line l).change.latch = true := fun hm => by
    have hmask : (s.line l).mask ≠ 0 := fun h0 => by
      rw [h0] at hm
      exact absurd hm (by simp)
    rw [TripLine.change_eq]
    exact if_pos ⟨hf, hmask⟩
  rw [Bool.eq_iff_iff, Bool.or_eq_true]
  constructor
  · intro h
    obtain ⟨k, hlatch, hmask⟩ := (State.tripCondition_iff _ m).1 h
    rw [State.line_setLine] at hlatch hmask
    split at hlatch
    · next hk =>
      subst hk
      rw [if_pos rfl] at hmask
      exact .inr hmask
    · next hk =>
      rw [if_neg hk] at hmask
      exact .inl ((s.tripCondition_iff m).2 ⟨k, hlatch, hmask⟩)
  · rintro (h | h)
    · exact tripCondition_change s l h
    · refine (State.tripCondition_iff _ m).2 ⟨l, ?_⟩
      rw [State.line_setLine, if_pos rfl]
      exact ⟨hchange h, h⟩

theorem breaksSet_none (u : StartSet) : breaksSet (fun _ => false) u = false := by
  rw [← Bool.not_eq_true, breaksSet_iff]
  rintro ⟨m, -, h⟩
  cases h

/-- No group has tripped. -/
theorem tripped_none (hqueue : w.captureQueue = s.captureQueue) (hconv : w.converter = s.converter) (hwriter : w.writer = s.writer)
    (hmark : w.marks.conv = s.marks.conv) (hsets : w.sets = s.sets) (hgroups : ∀ m, w.group m = s.group m) :
    s.Tripped (fun _ => false) w := by
  refine ⟨State.pathWithout_none hqueue hconv hwriter hmark, ?_, nofun, nofun, fun m _ hbroken => ?_, fun m _ _ => hgroups m⟩
  · rw [hsets]
    exact (List.filter_eq_self.2 fun u _ => by rw [breaksSet_none]; rfl).symm
  · obtain ⟨u, -, -, hb⟩ := hbroken
    rw [breaksSet_none] at hb
    cases hb

/-- The laws of a state in which a line latches. -/
structure State.Lawful (s : State) : Prop where
  rings : RingLaw s
  rest : RestLaw s
  sets : SetLaw s
  trips : TripLaw s
  actives : ActiveLaw s
  capture : CaptureLaw s
  owners : OwnerLaw s

/-- The change of a line that becomes active, before its consequences: the groups it names have tripped. -/
theorem levelChange_tripped (h : s.Lawful) (hrun : s.ctrl = .running) (hf : (s.line l).filtered = false) :
    ∃ w, s.Tripped (s.tripsOf l) w ∧ w.ctrl = .running
      ∧ (s.levelChange l = w.pump ∨ (s.levelChange l = w ∧ s.tripsOf l = fun _ => false)) := by
  by_cases htrips : (s.line l).trips = true
  · rw [levelChange_eq, if_pos htrips, if_pos (by simpa [State.isRunning] using hrun)]
    refine ⟨_, ?_, ?_, .inl rfl⟩
    · have hgone : s.tripsOf l = fun m => false || (newlyTripped s (s.setLine l (s.line l).change)).contains m := funext fun m => by
        rw [Bool.eq_iff_iff, Bool.false_or, List.contains_iff_mem, mem_newlyTripped, tripCondition_latched hf]
        cases hc : s.tripCondition m <;> simp [State.tripsOf, hc]
      rw [hgone]
      refine tripped_foldl h.sets h.rest h.actives h.capture h.owners _ _ _ (List.Nodup.filter _ allGroups_nodup) (fun g hg => ⟨rfl, fun hst => ?_⟩)
        (setLaw_of_same h.sets rfl fun _ => Iff.rfl) (tripped_none rfl rfl rfl rfl rfl fun _ => rfl)
      have hlaw := h.trips.1 hrun g
      rw [if_neg (by rw [hst]; decide)] at hlaw
      have hno := (mem_newlyTripped.1 hg).2
      rw [hlaw.1 hst] at hno
      cases hno
    · have hfixed : ∀ v : State, v.ctrl = .running →
          ((newlyTripped s (s.setLine l (s.line l).change)).foldl (fun t g => t.tripGroup g) v).ctrl = .running := fun v hv =>
        (congrArg Fixed.ctrl (foldl_keeps State.fixed _ State.fixed_tripGroup _ v)).trans hv
      exact hfixed _ hrun
  · have hmask : (s.line l).mask = 0 := by
      by_contra hne
      exact htrips ((s.line l).trips_iff.2 ⟨hf, hne⟩)
    have hnone : s.tripsOf l = fun _ => false := funext fun m => by simp [State.tripsOf, hmask]
    rw [levelChange_of_not_trips htrips]
    refine ⟨s.setLine l (s.line l).change, ?_, hrun, .inr ⟨rfl, hnone⟩⟩
    rw [hnone]
    exact tripped_none rfl rfl rfl rfl rfl fun _ => rfl

/-! ## The consequences -/

theorem State.Tripped.slotsDistinct (h : s.Tripped gone w) (hd : ∀ m, (s.group m).SlotsDistinct) (m : GroupId) :
    (w.group m).SlotsDistinct := by
  by_cases hm : gone m = true
  · by_cases hu : (s.group m).state = .unbound
    · rw [h.unbound m hm hu]; exact hd m
    · rw [h.trips m hm hu, Group.SlotsDistinct, Group.trippedFrom, State.retired_slots]
      exact Group.kept_slotsDistinct (hd m)
  · rw [Bool.not_eq_true] at hm
    by_cases hb : s.BrokenFor gone m
    · rw [h.broken m hm hb]; exact Group.setBroken_slotsDistinct (hd m)
    · rw [h.others m hm hb]; exact hd m

/-- The records of a group that has tripped. -/
theorem State.Tripped.retiring (h : s.Tripped gone w) (hrest : RestLaw s) (hm : gone m = true) :
    (∀ e ∈ (w.group m).window, e.st = .retiring) ∧ (w.group m).state ≠ .stopping := by
  by_cases hu : (s.group m).state = .unbound
  · rw [h.unbound m hm hu, hu]
    exact ⟨(hrest m).1 (by rw [hu]; rfl), by decide⟩
  · rw [h.trips m hm hu]
    exact ⟨State.retired_st _ _ _ _, nofun⟩

theorem State.BrokenFor.armed (h : s.BrokenFor gone m) (hset : SetLaw s) : (s.group m).state = .armed := by
  obtain ⟨u, hu, hm, -⟩ := h
  exact hset.armed hu hm

theorem State.Tripped.cleared (h : s.Tripped gone w) (hs : s.Lawful) : s.Cleared gone w := by
  have hd : ∀ m, (s.group m).SlotsDistinct := fun m => (hs.rings m).slotsDistinct
  refine h.path.cleared hd hs.owners (fun m hm e he => ?_) fun m hm e he hst => ?_
  · rw [(h.retiring hs.rest hm).1 e he]; decide
  · by_cases hb : s.BrokenFor gone m
    · have hw := (hs.rest m).2 (hb.armed hs.sets) e he
      rcases hst with hst | hst <;> rw [Entry.isWaiting, hst] at hw <;> cases hw
    · have hsame := h.others m hm hb
      exact State.entry?_of_mem (h.slotsDistinct hd m) (hsame ▸ he)

/-- A group that trips produces nothing; any other produces as before. -/
theorem State.Tripped.producing (h : s.Tripped gone w) (hset : SetLaw s) (hm : gone m = false) :
    (w.group m).producing = (s.group m).producing := by
  by_cases hb : s.BrokenFor gone m
  · rw [h.broken m hm hb, Group.setBroken_producing, Group.not_producing_of_armed (hb.armed hset)]
  · rw [h.others m hm hb]

/-- What a group that nothing has touched shows. -/
theorem State.drains_refl (t : State) (m : GroupId) : t.Drains m (t.group m) := by
  have hsame : ∀ q ∈ (t.group m).window.zip (t.group m).window, q.2 = q.1 := fun q hq =>
    List.forall₂_zip (R := fun e f => f = e) (List.forall₂_same.2 fun _ _ => rfl) (a := q.1) (b := q.2) hq
  refine ⟨⟨rfl, rfl, fun q hq => .inl (hsame q hq), .inl ⟨rfl, rfl⟩⟩, fun q hq hst hst' => ?_⟩
  rw [hsame q hq, hst] at hst'
  cases hst'

/-- What follows when the groups have tripped (R89, R96, R111). -/
theorem State.Tripped.follows (h : s.Tripped gone w) (hs : s.Lawful) (hrun : w.ctrl = .running)
    (hp : p = w.pump ∨ (p = w ∧ gone = fun _ => false)) :
    WorkRemoved gone s p ∧ p.sets = w.sets ∧ ∀ m, p.Drains m (w.group m) ∧ (p.group m).producing = (w.group m).producing := by
  have hslots := h.slotsDistinct fun m => (hs.rings m).slotsDistinct
  have hcleared := h.cleared hs
  have hisrun : w.isRunning = true := beq_iff_eq.2 hrun
  rcases hp with rfl | ⟨rfl, rfl⟩
  · refine ⟨?_, w.sets_pump, fun m => ⟨State.pump_drains hslots m, State.pump_producing hslots m⟩⟩
    have hremoved : WorkRemoved gone s (State.pumpRounds 8 w) :=
      WorkRemoved.of_cleared hs.capture hcleared hslots (consequences_pumpRounds 8 w) (State.pumpRounds_idle hisrun (by decide))
    have hpump : w.pump = { State.pumpRounds 8 w with groups := w.pump.groups } := by
      rw [State.pump_of_running hisrun]
      exact State.finishStops_eq _
    generalize State.pumpRounds 8 w = q at hremoved hpump
    generalize w.pump = p at hpump
    rw [hpump]
    exact hremoved.of_path rfl rfl rfl ⟨rfl, rfl, rfl, rfl, rfl⟩
  · refine ⟨WorkRemoved.of_cleared hs.capture hcleared hslots .refl fun hidle => ?_, rfl, fun m => ⟨p.drains_refl m, rfl⟩⟩
    obtain ⟨-, -, hempty, -⟩ := hs.capture
    rw [h.path.converter, Converter.without_none] at hidle
    rw [h.path.requests, hempty hidle]
    rfl

/-! ## The state after the change of the line -/

theorem tokens_levelChange (s : State) (l : LineId) : (s.levelChange l).tokens = s.tokens := by
  rw [levelChange_eq]
  split
  · split
    · rw [State.tokens_pump, foldl_keeps State.tokens _ State.tokens_tripGroup]; rfl
    · rfl
  · rfl

theorem ticks_levelChange (s : State) (l : LineId) : (s.levelChange l).ticks = s.ticks := by
  rw [levelChange_eq]
  split
  · split
    · rw [State.ticks_pump, foldl_keeps State.ticks _ State.ticks_tripGroup]; rfl
    · rfl
  · rfl

/-- The parts that a trip may change. -/
abbrev tripBlocks : List Block :=
  everyGroup ++ [Block.events, .pairs, .sets, .captureQueue, .converter, .resultWriter, .tripUnit, .requests]

theorem levelChange_frame (s : State) (l : LineId) : SameExcept tripBlocks s (s.levelChange l).settle := by
  have hf := fixed_levelChange s l
  have htokens := tokens_levelChange s l
  have hticks := ticks_levelChange s l
  generalize s.levelChange l = p at *
  intro b hb
  have hreg : p.ctrl = s.ctrl ∧ p.stat = s.stat ∧ p.holding = s.holding ∧ p.admBase = s.admBase ∧ p.cplBase = s.cplBase
      ∧ p.admCode = s.admCode ∧ p.cplCode = s.cplCode ∧ p.readData = s.readData :=
    ⟨congrArg Fixed.ctrl hf, congrArg Fixed.stat hf, congrArg Fixed.holding hf, congrArg Fixed.admBase hf, congrArg Fixed.cplBase hf,
      congrArg Fixed.admCode hf, congrArg Fixed.cplCode hf, congrArg Fixed.readData hf⟩
  have hadmin : p.admin.tail = s.admin.tail ∧ p.admin.fetch = s.admin.fetch ∧ p.admin.queue = s.admin.queue := by
    rw [show p.admin = s.admin from congrArg Fixed.admin hf]
    exact ⟨rfl, rfl, rfl⟩
  have hcpl : p.cpl.write = s.cpl.write ∧ p.cpl.lap = s.cpl.lap ∧ p.cpl.release = s.cpl.release
      ∧ p.cpl.unreleased = s.cpl.unreleased ∧ p.cpl.lastServed = s.cpl.lastServed ∧ p.cpl.inFlight = s.cpl.inFlight := by
    rw [show p.cpl = s.cpl from congrArg Fixed.cpl hf]
    exact ⟨rfl, rfl, rfl, rfl, rfl, rfl⟩
  cases b with
  | events | pairs | sets | captureQueue | converter | resultWriter | tripUnit | requests => exact absurd (by simp) hb
  | group m => exact absurd (by fin_cases m <;> simp) hb
  | resetPin => exact congrArg Fixed.rstn hf
  | registers => exact hreg
  | tokens => exact htokens
  | groupTicks => exact hticks
  | admin => exact hadmin
  | completion => exact hcpl
  | port => exact ⟨congrArg Fixed.bus hf, congrArg Fixed.lastFetcher hf, congrArg Fixed.grantMark hf⟩

/-- A pair of a group under a trip condition, while RUNNING. -/
theorem settledPair_of_tripped {u : PairUnit} (hrun : p.ctrl = .running) (hg : u.group = some g) (ht : p.tripCondition g = true) :
    p.settledPair u = { u with raw := false, outP := ⟨0, false⟩, outN := ⟨0, false⟩, pins := u.safe } := by
  have hsel : p.selection u = .safe := by simp [State.selection, hg, hrun, ht]
  rw [State.settledPair, hsel, hrun]
  rfl

/-- A pair settles as before where its group shows the same. -/
theorem settledPair_of_group {u : PairUnit} (hctrl : p.ctrl = s.ctrl)
    (h : ∀ g, u.group = some g → p.tripCondition g = s.tripCondition g
      ∧ (s.tripCondition g = false → (p.group g).producing = (s.group g).producing)) : p.settledPair u = s.settledPair u := by
  have hsel : p.selection u = s.selection u := by
    cases hg : u.group with
    | none => rw [State.selection_of_unbound hg, State.selection_of_unbound hg]
    | some g =>
      obtain ⟨hcond, hprod⟩ := h g hg
      cases hc : s.tripCondition g with
      | true => simp [State.selection, hg, hctrl, hcond, hc]
      | false => simp [State.selection, hg, hctrl, hcond, hc, hprod hc]
  rw [State.settledPair_eq, State.settledPair_eq, hsel, hctrl]

/-- Settles O51: the groups that trip, what follows on the capture path, and the pairs. -/
theorem tripMovesEveryNamedGroup : Obligations.TripMovesEveryNamedGroup := by
  unfold Obligations.TripMovesEveryNamedGroup
  intro s l level hs hring hrest hset htrip hactive hcap howner hrun hr hl hne hlen hf trips breaks
  have hlaws : s.Lawful := ⟨hring, hrest, hset, htrip, hactive, hcap, howner⟩
  have hexec := exec_filteredLevelChange hr hl
  rw [judgeSample_of_completes (((s.line l).completesRun_iff level).2 ⟨hne, hlen⟩)] at hexec
  obtain ⟨w, hw, hwrun, hp⟩ := levelChange_tripped hlaws hrun hf
  obtain ⟨hremoved, hsets, hgroups⟩ := hw.follows hlaws hwrun hp
  have hframe := levelChange_frame s l
  have hpairs := pairs_levelChange s l
  have hctrl : (s.levelChange l).ctrl = s.ctrl := congrArg Fixed.ctrl (fixed_levelChange s l)
  have hcond : ∀ m, (s.levelChange l).tripCondition m = (s.tripCondition m || (s.line l).mask.getLsbD m) := fun m =>
    (tripCondition_of_lines (levelChange_lines s l) m).trans (tripCondition_latched hf m)
  clear hp
  generalize s.levelChange l = p at *
  have htripped : ∀ {g : GroupId}, trips g = true → p.tripCondition g = true := fun {g} hg => by
    have hmask : (s.line l).mask.getLsbD g = true := (Bool.and_eq_true_iff.1 hg).1
    rw [hcond, hmask, Bool.or_true]
  have hstill : ∀ m, (∀ e ∈ (w.group m).window, e.st ≠ .draining) → (w.group m).state ≠ .stopping → p.group m = w.group m :=
    fun m hno hst => (hgroups m).1.1.eq_of_still hno hst
  have hgone : ∀ {g : GroupId}, trips g = true → p.group g = w.group g := fun {g} hg => by
    obtain ⟨hretiring, hst⟩ := hw.retiring hrest hg
    exact hstill g (fun e he => by rw [hretiring e he]; decide) hst
  refine ⟨_, hexec, fun g hg => ⟨htripped hg, fun hu => ?_, fun hu => ?_⟩, fun m hm hb => ?_, fun m hm hb => ?_, ?_,
    hremoved.of_path rfl rfl rfl ⟨rfl, rfl, rfl, rfl, rfl⟩, fun q g hq hg => ?_, fun q hq => ?_, hframe⟩
  · exact (hgone hg).trans (hw.unbound g hg hu)
  · exact (hgone hg).trans (hw.trips g hg hu)
  · have hbroken : s.BrokenFor trips m := hb
    have hwm := hw.broken m hm hbroken
    refine (hstill m ?_ ?_).trans hwm
    · rw [hwm]; exact setBroken_not_draining ((hrest m).2 (hbroken.armed hset))
    · rw [hwm]; nofun
  · have hdrains := (hgroups m).1
    rw [hw.others m hm fun ⟨u, hu, hmem, hyes⟩ => Bool.false_ne_true ((hb u hu hmem).symm.trans hyes)] at hdrains
    exact hdrains
  · exact hsets.trans hw.sets
  · rw [GoesSafe, State.settle_pair, State.pair_of_pairs hpairs]
    exact settledPair_of_tripped (hctrl.trans hrun) hq (htripped hg)
  · rw [State.settle_pair, State.pair_of_pairs hpairs, settledPair_of_group hctrl fun g hg => ⟨?_, fun hc => ?_⟩]
    · exact ((settled_iff s).1 hs).2.1 q
    · have hno : ((s.line l).mask.getLsbD g && !s.tripCondition g) = false := hq g hg
      rw [hcond]
      generalize (s.line l).mask.getLsbD g = b at hno
      cases hc : s.tripCondition g with
      | true => rfl
      | false => simpa [hc] using hno
    · exact (hgroups g).2.trans (hw.producing hset (hq g hg))

end TripMoves

end Sys2Proof.Machine
end

section
/-! PROOF. The converter: its ticks, and the end of a conversion with the consequences of its result (R92, R93, R104 to
R106). -/

namespace Sys2Proof.Machine

section Rounds

variable {s u t : State} {g m : GroupId} {r : ConvResult} {q : Request} {e : Entry} {ref : EntryRef}

/-! ## The take of the next request -/

/-- A converter that has delivered, with the requests that wait (R91). -/
def Converter.following (c : Converter) (queue : List Request) : Converter :=
  match queue.head? with
  | none => { c with state := .idle, current := none, step := 0, done := 0, sum := 0 }
  | some h => { c with state := .converting, current := some h, step := 0, done := 0, sum := 0 }

/-- A converter without work. -/
structure Converter.Free (c : Converter) : Prop where
  state : c.state = .idle
  current : c.current = none
  step : c.step = 0
  done : c.done = 0
  sum : c.sum = 0

theorem Converter.Free.following_nil {c : Converter} (h : c.Free) : c.following [] = c := by
  obtain ⟨hstate, hcurrent, hstep, hdone, hsum⟩ := h
  cases c
  cases hstate
  cases hcurrent
  cases hstep
  cases hdone
  cases hsum
  rfl

theorem State.converterTake_following (hrun : u.isRunning = true) (hfree : u.converter.Free) :
    u.converterTake = { u with
      captureQueue := u.captureQueue.tail, converter := u.converter.following u.captureQueue
      marks := { u.marks with conv := u.marks.conv || u.captureQueue.head?.isSome } } := by
  cases hq : u.captureQueue with
  | nil =>
    rw [State.converterTake_of_empty hq, hfree.following_nil]
    show u = { u with captureQueue := [], marks := { u.marks with conv := u.marks.conv || false } }
    rw [Bool.or_false, ← hq]
  | cons q rest =>
    rw [State.converterTake_of_cons hrun hfree.state hq, Converter.following]
    simp

theorem Converter.following_not_holding (c : Converter) (queue : List Request) : (c.following queue).state ≠ .holding := by
  unfold Converter.following
  split <;> nofun

/-- After its take a converter is IDLE where no request waits. -/
theorem Converter.following_idle {c : Converter} {queue : List Request} (h : (c.following queue).state = .idle) : queue = [] := by
  cases queue with
  | nil => rfl
  | cons _ _ => cases h

/-- A round from an IDLE converter. -/
theorem State.pumpOnce_of_idle (hd : ∀ m, (u.group m).SlotsDistinct) (hrun : u.isRunning = true) (hidle : u.converter.state = .idle) :
    u.pumpOnce = u.drain.converterTake.chooseJob := by
  have hconv := State.drain_converter hd
  have hrun' : u.drain.isRunning = true := by
    rw [(State.drain_eq hd).1]; exact hrun
  have hidle' : u.drain.converter.state = .idle := by rw [hconv]; exact hidle
  rw [State.pumpOnce, State.offerHeld_of_not]
  left
  cases hq : u.drain.captureQueue with
  | nil => rw [State.converterTake_of_empty hq, hidle']; decide
  | cons q rest => rw [State.converterTake_of_cons hrun' hidle' hq]; nofun

/-- The rounds from a state in which only a fill may be chosen. -/
theorem State.pumpRounds_of_quiet (hd : ∀ m, (s.group m).SlotsDistinct) (hq : s.Quiet) (n : Nat) :
    State.pumpRounds (n + 1) s = s.quietPump := by
  rw [State.pumpRounds, State.pumpOnce_quiet hd hq, State.pumpRounds_of_fixed (State.pumpOnce_quietPump hd hq)]

/-- The end of the stops leaves the capture path alone. -/
theorem State.pump_path (hrun : u.isRunning = true) : u.pump.captureQueue = (State.pumpRounds 8 u).captureQueue
    ∧ u.pump.converter = (State.pumpRounds 8 u).converter ∧ u.pump.marks = (State.pumpRounds 8 u).marks
    ∧ u.pump.writer = (State.pumpRounds 8 u).writer := by
  rw [State.pump_of_running hrun]
  generalize State.pumpRounds 8 u = p
  rw [State.finishStops_eq]
  exact ⟨rfl, rfl, rfl, rfl⟩

/-- The taking of a request keeps the work in hand. -/
theorem State.Busy.converterTake (h : u.Busy ref) (hfree : u.converter.state = .idle → u.converter.current = none) :
    u.converterTake.Busy ref := by
  by_cases hc : u.isRunning = true ∧ u.converter.state = .idle
  · cases hq : u.captureQueue with
    | nil => rw [State.converterTake_of_empty hq]; exact h
    | cons q rest =>
      rw [State.converterTake_of_cons hc.1 hc.2 hq]
      have hcurrent := hfree hc.2
      simp only [State.Busy, State.inHand_iff, State.inFill_iff, hq, hcurrent, List.mem_cons] at h ⊢
      grind
  · rw [State.converterTake_of_not hc]
    exact h

end Rounds

section ConversionEnd

variable {s u t : State} {g m : GroupId} {r : ConvResult} {q : Request} {e : Entry} {ref : EntryRef}

/-! ## The end of a conversion -/

/-- The result of a request that is complete (R93). -/
abbrev Request.result (q : Request) (sum : Nat) : ConvResult :=
  { group := q.group, slot := q.slot, position := q.position, sum := sum }

/-- The conversion of request `q` stands at its end (R92). -/
structure State.AtEnd (s : State) (q : Request) : Prop where
  settled : Settled s
  slots : ∀ m, (s.group m).SlotsDistinct
  running : s.ctrl = .running
  converting : s.converter.state = .converting
  step : s.converter.step = 14
  current : s.converter.current = some q

theorem exec_conversionEnd (h : s.AtEnd q) : exec .conversionEnd s = .next s.conversionEnd.settle := by
  have hdue : s.conversionAtEnd = true := by
    simp [State.conversionAtEnd, State.isRunning, h.running, h.converting, h.step, h.current]
  exact congrArg (fun due => happen due s s.conversionEnd) hdue

theorem conversionEnd_of_left (h : s.converter.current = some q) (hleft : s.converter.done + 1 < q.oversample) :
    s.conversionEnd = { s with converter := { s.converter with
      step := 0, done := s.converter.done + 1, sum := s.converter.sum + s.converter.sample } } := by
  unfold State.conversionEnd
  rw [h]
  exact if_pos hleft

theorem conversionEnd_of_complete (h : s.converter.current = some q) (hdone : q.oversample ≤ s.converter.done + 1) :
    s.conversionEnd = (s.offerResult (q.result (s.converter.sum + s.converter.sample))).pump := by
  unfold State.conversionEnd
  rw [h]
  exact if_neg (Nat.not_lt.2 hdone)

/-- The converter that has delivered its result. -/
abbrev Converter.delivered (c : Converter) : Converter :=
  { c with state := .idle, current := none, step := 0, done := 0, sum := 0 }

theorem offerResult_of_room (h : s.writer.queue.length < 4) : s.offerResult r = { s with
    converter := s.converter.delivered, writer := { s.writer with queue := s.writer.queue ++ [r] } } := if_pos h

theorem offerResult_of_full (h : 4 ≤ s.writer.queue.length) : s.offerResult r = { s with
    converter := { s.converter with state := .holding, held := some r, current := none, step := 0, done := 0, sum := 0 } } :=
  if_neg (Nat.not_lt.2 h)

theorem Converter.delivered_following (c : Converter) (queue : List Request) :
    c.delivered.following queue = c.following queue := by
  unfold Converter.following
  split <;> rfl

/-- The delivery of a result keeps the work in hand. -/
theorem State.inHand_offerResult (hcurrent : s.converter.current = some q) (hheld : s.converter.held = none ∨ s.writer.queue.length < 4)
    {sum : Nat} (h : s.inHand ref = true) : (s.offerResult (q.result sum)).inHand ref = true := by
  have hq : q.ref = (q.result sum).ref := rfl
  rcases Nat.lt_or_ge s.writer.queue.length 4 with hroom | hfull
  · rw [offerResult_of_room hroom]
    simp only [State.inHand_iff, hcurrent, List.mem_append, List.mem_singleton] at h ⊢
    grind
  · rw [offerResult_of_full hfull]
    have hnone := hheld.resolve_right (Nat.not_lt.2 hfull)
    simp only [State.inHand_iff, hcurrent, hnone] at h ⊢
    grind

theorem offerResult_rest (s : State) (r : ConvResult) : (s.offerResult r).fixed = s.fixed ∧ (s.offerResult r).groups = s.groups
    ∧ (s.offerResult r).pairs = s.pairs ∧ (s.offerResult r).tokens = s.tokens ∧ (s.offerResult r).sets = s.sets
    ∧ (s.offerResult r).ticks = s.ticks ∧ (s.offerResult r).captureQueue = s.captureQueue ∧ (s.offerResult r).marks = s.marks := by
  unfold State.offerResult
  split <;> exact ⟨rfl, rfl, rfl, rfl, rfl, rfl, rfl, rfl⟩

/-- The parts that a delivered result and its consequences may change. -/
abbrev deliveryBlocks : List Block := everyGroup ++ [Block.captureQueue, .converter, .resultWriter, .requests]

/-- What the delivery of a result leaves alone, and what the groups show (R13). -/
theorem delivery_frame (h : s.AtEnd q) (r : ConvResult) :
    (∀ m, (s.offerResult r).pump.settle.Drains m (s.group m)) ∧ SameExcept deliveryBlocks s (s.offerResult r).pump.settle := by
  obtain ⟨hfixed, hgroups, hpairs, htokens, hsets, hticks, -, -⟩ := offerResult_rest s r
  generalize s.offerResult r = u at *
  have hgroup : ∀ m, u.group m = s.group m := fun m => congrArg (fun w => w[m]) hgroups
  have hslots : ∀ m, (u.group m).SlotsDistinct := fun m => by rw [hgroup]; exact h.slots m
  have hf := u.fixed_pump.trans hfixed
  refine ⟨fun m => ?_, frame_of_fixed h.settled hf _ (fun m hm => absurd (by fin_cases m <;> simp) hm) (fun _ => ?_)
    (fun _ => u.tokens_pump.trans htokens) (fun _ => u.sets_pump.trans hsets) (fun h => absurd (by simp) h) (fun h => absurd (by simp) h)
    (fun h => absurd (by simp) h) (fun h => absurd (by simp) h) fun _ => u.ticks_pump.trans hticks⟩
  · have hd := State.pump_drains hslots m
    rw [hgroup] at hd
    generalize u.pump = p at hd
    exact hd
  · exact settle_pairs_of_same h.settled (sameSelection_of_fixed hf fun m => by rw [State.pump_producing hslots, hgroup])
      (u.pairs_pump.trans hpairs)

/-- The writer's request for the bus follows its job. -/
theorem settle_writer_of_job (hs : Settled s) (hf : u.fixed = s.fixed) (hwrite : u.writer.write = s.writer.write)
    (hjob : u.writer.job.isSome = s.writer.job.isSome) : u.settle.writer = u.writer := by
  obtain ⟨-, -, -, hw, -⟩ := (settled_iff s).1 hs
  have hctrl : u.ctrl = s.ctrl := congrArg Fixed.ctrl hf
  have hsettled : u.settledWriter = u.writer.write := by
    rw [hwrite, ← hw, State.settledWriter, State.settledWriter, hctrl, hwrite, hjob]
  show { u.writer with write := u.settledWriter } = u.writer
  rw [hsettled]

/-- Under the capture law nothing is left to do for the groups (R13, R38). -/
theorem CaptureLaw.finishStops (hcap : CaptureLaw s) (hgroups : u.groups = s.groups) : u.finishStops = u := by
  rw [State.finishStops_eq]
  have hsame : u.finishStops.groups = u.groups := State.groups_eq_of_group fun m => by
    have hgroup : u.group m = s.group m := congrArg (fun w => w[m]) hgroups
    obtain ⟨-, -, -, -, -, -, -, hlaw⟩ := hcap
    rw [State.finishStops_group, hgroup, Group.finishStop, if_neg]
    rw [Bool.and_eq_true, beq_iff_eq]
    rintro ⟨hst, hall⟩
    rw [(hlaw m).1 hst] at hall
    cases hall
  rw [hsame]

theorem CaptureLaw.drainingBusy (hcap : CaptureLaw s) : s.DrainingBusy := by
  obtain ⟨-, -, -, -, -, -, -, hlaw⟩ := hcap
  exact fun m e he hst => (hlaw m).2 e he hst

/-! ### The result joins the queue of a writer at work -/

theorem State.drain_isRunning (hd : ∀ m, (u.group m).SlotsDistinct) (hrun : u.isRunning = true) : u.drain.isRunning = true := by
  rw [(State.drain_eq hd).1]; exact hrun

/-- The converter's take leaves a state in which the writer alone may choose. -/
theorem State.quiet_of_following (hjob : u.writer.job = none → u.writer.queue = [] ∧ u.writer.fill = [])
    {c : Converter} {queue : List Request} (hconv : u.converter = c.following queue) (hqueue : u.captureQueue = queue.tail) : u.Quiet := by
  refine ⟨fun hidle => ?_, fun hholding => ?_, hjob⟩
  · rw [hconv] at hidle
    rw [hqueue, Converter.following_idle hidle]
    rfl
  · rw [hconv] at hholding
    exact absurd hholding (c.following_not_holding queue)

/-- The rounds from a free converter beside a writer at work: the converter takes the head of its queue, and records drain
around it. -/
theorem State.pumpRounds_of_free (hd : ∀ m, (u.group m).SlotsDistinct) (hrun : u.isRunning = true) (hfree : u.converter.Free)
    (hjob : u.writer.job ≠ none) (n : Nat) : State.pumpRounds (n + 2) u = u.drain.converterTake.drain := by
  have hconv := State.drain_converter hd
  have hwriter := State.drain_writer hd
  have htake := State.converterTake_following (State.drain_isRunning hd hrun) (hconv ▸ hfree)
  have hslots : ∀ m, (u.drain.converterTake.group m).SlotsDistinct := fun m => by
    rw [htake]
    exact State.drain_slotsDistinct hd m
  have hjob' : u.drain.converterTake.writer.job ≠ none := by
    rw [htake]
    show u.drain.writer.job ≠ none
    rw [hwriter]
    exact hjob
  have hquiet : u.drain.converterTake.Quiet :=
    State.quiet_of_following (fun h => absurd h hjob') (c := u.drain.converter) (queue := u.drain.captureQueue) (by rw [htake])
      (by rw [htake])
  rw [State.pumpRounds, State.pumpOnce_of_idle hd hrun hfree.state, State.chooseJob_of_job hjob',
    State.pumpRounds_of_quiet hslots hquiet, State.quietPump_of_keeps (.inl hjob')]

theorem conversionEnd_queued (h : s.AtEnd q) (hjob : s.writer.job.isSome = true) (hroom : s.writer.queue.length < 4) (sum : Nat) :
    let t := (s.offerResult (q.result sum)).pump.settle
    t.writer.queue = s.writer.queue ++ [q.result sum] ∧ t.writer.job = s.writer.job
      ∧ t.converter = s.converter.following s.captureQueue ∧ t.captureQueue = s.captureQueue.tail
      ∧ t.marks.conv = (s.marks.conv || s.captureQueue.head?.isSome)
      ∧ (CaptureLaw s → t.writer = { s.writer with queue := s.writer.queue ++ [q.result sum] } ∧ t.groups = s.groups) := by
  intro t
  have hbusy : CaptureLaw s → (s.offerResult (q.result sum)).DrainingBusy := fun hcap m e he hst => by
    obtain ⟨-, hgroups, -⟩ := offerResult_rest s (q.result sum)
    have hgroup : (s.offerResult (q.result sum)).group m = s.group m := congrArg (fun w => w[m]) hgroups
    rw [hgroup] at he
    refine (hcap.drainingBusy m e he hst).imp (State.inHand_offerResult h.current (.inr hroom)) fun hfill => ?_
    rw [offerResult_of_room hroom]
    exact hfill
  rw [offerResult_of_room hroom] at hbusy
  have ht : t = (s.offerResult (q.result sum)).pump.settle := rfl
  rw [offerResult_of_room hroom] at ht
  clear_value t
  generalize hu : ({ s with converter := s.converter.delivered
                            writer := { s.writer with queue := s.writer.queue ++ [q.result sum] } } : State) = u at *
  have hrun : u.isRunning = true := by rw [← hu]; exact beq_iff_eq.2 h.running
  have hslots : ∀ m, (u.group m).SlotsDistinct := by rw [← hu]; exact h.slots
  have hfree : u.converter.Free := by rw [← hu]; exact ⟨rfl, rfl, rfl, rfl, rfl⟩
  have hujob : u.writer.job ≠ none := by
    rw [← hu]
    exact Option.isSome_iff_ne_none.1 hjob
  have hrounds := State.pumpRounds_of_free hslots hrun hfree hujob 6
  have htake := State.converterTake_following (State.drain_isRunning hslots hrun) (State.drain_converter hslots ▸ hfree)
  have hslots' : ∀ m, (u.drain.converterTake.group m).SlotsDistinct := fun m => by
    rw [htake]
    exact State.drain_slotsDistinct hslots m
  obtain ⟨hq, hc, hm, hw⟩ := State.pump_path hrun
  rw [hrounds, State.drain_captureQueue hslots', htake, State.drain_captureQueue hslots] at hq
  rw [hrounds, State.drain_converter hslots', htake, State.drain_converter hslots, State.drain_captureQueue hslots] at hc
  rw [hrounds, State.drain_marks hslots', htake, State.drain_marks hslots, State.drain_captureQueue hslots] at hm
  rw [hrounds, State.drain_writer hslots', htake, State.drain_writer hslots] at hw
  have hcapture : CaptureLaw s → t.writer = u.writer ∧ t.groups = s.groups := fun hcap => by
    have hbusy := hbusy hcap
    have hfixed : u.drain = u := State.drain_of_busy hslots hbusy
    rw [hfixed] at hrounds htake hslots'
    have hbusy' : u.converterTake.DrainingBusy := fun m e he hst => by
      have hgroup : u.converterTake.group m = u.group m := by rw [htake]; rfl
      rw [hgroup] at he
      exact State.Busy.converterTake (hbusy m e he hst) fun _ => hfree.current
    rw [State.drain_of_busy hslots' hbusy'] at hrounds
    have hgroups : u.converterTake.groups = s.groups := by rw [htake, ← hu]
    have hpump : u.pump = u.converterTake := by
      rw [State.pump_of_running hrun, hrounds, hcap.finishStops hgroups]
    have hwriter : u.converterTake.writer = u.writer := by rw [htake]
    have hfixed' : u.converterTake.fixed = s.fixed := by rw [htake, ← hu]; rfl
    rw [ht, hpump]
    refine ⟨?_, hgroups⟩
    rw [settle_writer_of_job h.settled hfixed' (by rw [hwriter, ← hu]) (by rw [hwriter, ← hu]), hwriter]
  have htq : t.captureQueue = u.pump.captureQueue := by rw [ht]; rfl
  have htc : t.converter = u.pump.converter := by rw [ht]; rfl
  have htm : t.marks = u.pump.marks := by rw [ht]; rfl
  have htw : t.writer.queue = u.pump.writer.queue ∧ t.writer.job = u.pump.writer.job := by rw [ht]; exact ⟨rfl, rfl⟩
  rw [hw] at htw
  rw [htq, htc, htm, hq, hc, hm, htw.1, htw.2]
  subst hu
  exact ⟨rfl, rfl, s.converter.delivered_following _, rfl, rfl, hcapture⟩

/-! ### The result is held -/

theorem conversionEnd_held (h : s.AtEnd q) (hjob : s.writer.job.isSome = true) (hfull : 4 ≤ s.writer.queue.length) (sum : Nat) :
    let t := (s.offerResult (q.result sum)).pump.settle
    t.writer.queue = s.writer.queue ∧ t.writer.job = s.writer.job
      ∧ t.converter = { s.converter with
          state := .holding, held := some (q.result sum), current := none, step := 0, done := 0, sum := 0 }
      ∧ t.captureQueue = s.captureQueue ∧ t.marks.conv = s.marks.conv
      ∧ (CaptureLaw s → t.writer = s.writer ∧ t.groups = s.groups) := by
  intro t
  have hbusy : CaptureLaw s → (s.offerResult (q.result sum)).DrainingBusy := fun hcap m e he hst => by
    obtain ⟨-, hgroups, -⟩ := offerResult_rest s (q.result sum)
    have hgroup : (s.offerResult (q.result sum)).group m = s.group m := congrArg (fun w => w[m]) hgroups
    rw [hgroup] at he
    have hheld : s.converter.held = none := by
      obtain ⟨-, hholding, -⟩ := hcap
      rw [← Option.not_isSome_iff_eq_none, ← hholding, h.converting]
      nofun
    refine (hcap.drainingBusy m e he hst).imp (State.inHand_offerResult h.current (.inl hheld)) fun hfill => ?_
    rw [offerResult_of_full hfull]
    exact hfill
  rw [offerResult_of_full hfull] at hbusy
  have ht : t = (s.offerResult (q.result sum)).pump.settle := rfl
  rw [offerResult_of_full hfull] at ht
  clear_value t
  generalize hu : ({ s with converter := { s.converter with
    state := .holding, held := some (q.result sum), current := none, step := 0, done := 0, sum := 0 } } : State) = u at *
  have hrun : u.isRunning = true := by rw [← hu]; exact beq_iff_eq.2 h.running
  have hslots : ∀ m, (u.group m).SlotsDistinct := by rw [← hu]; exact h.slots
  have hujob : u.writer.job ≠ none := by
    rw [← hu]
    exact Option.isSome_iff_ne_none.1 hjob
  have hquiet : u.Quiet := by
    refine ⟨fun hidle => ?_, fun _ => ?_, fun hno => absurd hno hujob⟩
    · rw [← hu] at hidle
      cases hidle
    · rw [← hu]
      exact hfull
  have hrounds := State.pumpRounds_of_quiet hslots hquiet 7
  rw [State.quietPump_of_keeps (.inl hujob)] at hrounds
  obtain ⟨hq, hc, hm, hw⟩ := State.pump_path hrun
  rw [hrounds, State.drain_captureQueue hslots] at hq
  rw [hrounds, State.drain_converter hslots] at hc
  rw [hrounds, State.drain_marks hslots] at hm
  rw [hrounds, State.drain_writer hslots] at hw
  have hcapture : CaptureLaw s → t.writer = u.writer ∧ t.groups = s.groups := fun hcap => by
    have hgroups : u.groups = s.groups := by rw [← hu]
    have hpump : u.pump = u := by
      rw [State.pump_of_running hrun, hrounds, State.drain_of_busy hslots (hbusy hcap), hcap.finishStops hgroups]
    rw [ht, hpump]
    refine ⟨?_, hgroups⟩
    exact settle_writer_of_job h.settled (by rw [← hu]; rfl) (by rw [← hu]) (by rw [← hu])
  have htq : t.captureQueue = u.pump.captureQueue := by rw [ht]; rfl
  have htc : t.converter = u.pump.converter := by rw [ht]; rfl
  have htm : t.marks = u.pump.marks := by rw [ht]; rfl
  have htw : t.writer.queue = u.pump.writer.queue ∧ t.writer.job = u.pump.writer.job := by rw [ht]; exact ⟨rfl, rfl⟩
  rw [hw] at htw
  rw [htq, htc, htm, hq, hc, hm, htw.1, htw.2]
  subst hu
  exact ⟨rfl, rfl, rfl, rfl, rfl, hcapture⟩

/-! ### The result comes to a free writer -/

theorem State.entry?_of_groups (h : u.groups = s.groups) (ref : EntryRef) : u.entry? ref = s.entry? ref := by
  have hgroup : u.group ref.group = s.group ref.group := congrArg (fun w => w[ref.group]) h
  rw [State.entry?, hgroup, State.entry?]

/-- A list of one element at most. -/
theorem List.eq_of_nodup_of_forall {α : Type} {l : List α} {a : α} {c : Prop} [Decidable c] (hnodup : l.Nodup)
    (h : ∀ b, b ∈ l ↔ b = a ∧ c) : l = if c then [a] else [] := by
  split
  · next hc =>
    have ha : a ∈ l := (h a).2 ⟨rfl, hc⟩
    exact (List.perm_singleton.1 ((List.perm_ext_iff_of_nodup hnodup (List.nodup_singleton a)).2 fun b => by
      rw [h, List.mem_singleton]; exact ⟨And.left, fun hb => ⟨hb, hc⟩⟩))
  · next hc => exact List.eq_nil_iff_forall_not_mem.2 fun b hb => hc ((h b).1 hb).2

/-- The result of a conversion that a free writer drops or takes (R104, R105), and the record that may be filled then
(R106). -/
theorem conversionEnd_free (h : s.AtEnd q) (hjob : s.writer.job = none) (hqueue : s.writer.queue = []) (hfill : s.writer.fill = [])
    (hhand : ∀ m, ∀ f ∈ (s.group m).window, f.st = .draining → s.inHand (f.ref m) = true) (sum : Nat)
    (he : s.entry? (q.result sum).ref = some e) :
    let r := q.result sum
    let t := (s.offerResult r).pump.settle
    let dropped := e.faulted = true ∨ r.position < e.nextPos
    let fills := e.st = .draining ∧ e.owes = true ∧ s.hasRequest r.ref = false ∧ s.isHeld r.ref = false
    t.writer.job = (if ¬dropped then some (.result r) else if fills then some (.fill r.ref e.triggered) else none)
      ∧ t.writer.queue = [] ∧ t.writer.fill = []
      ∧ t.writer.lastSource = (if dropped ∧ fills then .fillList else .resultQueue)
      ∧ t.writer.onBus = s.writer.onBus
      ∧ t.converter = s.converter.following s.captureQueue ∧ t.captureQueue = s.captureQueue.tail
      ∧ t.marks.conv = (s.marks.conv || s.captureQueue.head?.isSome) := by
  intro r t dropped fills
  have hroom : s.writer.queue.length < 4 := by rw [hqueue]; decide
  have ht : t = (s.offerResult (q.result sum)).pump.settle := rfl
  have hbusy : (s.offerResult (q.result sum)).DrainingBusy := fun m f hf hst => by
    obtain ⟨-, hgroups, -⟩ := offerResult_rest s (q.result sum)
    have hgroup : (s.offerResult (q.result sum)).group m = s.group m := congrArg (fun w => w[m]) hgroups
    rw [hgroup] at hf
    exact .inl (State.inHand_offerResult h.current (.inr hroom) (hhand m f hf hst))
  rw [offerResult_of_room hroom, hqueue, List.nil_append] at ht hbusy
  clear_value t
  generalize hu : ({ s with converter := s.converter.delivered, writer := { s.writer with queue := [q.result sum] } } : State) = u at *
  have hrun : u.isRunning = true := by rw [← hu]; exact beq_iff_eq.2 h.running
  have hslots : ∀ m, (u.group m).SlotsDistinct := by rw [← hu]; exact h.slots
  have hfree : u.converter.Free := by rw [← hu]; exact ⟨rfl, rfl, rfl, rfl, rfl⟩
  have htake := State.converterTake_following hrun hfree
  have hwriter : u.writer = { s.writer with queue := [q.result sum] } := by rw [← hu]
  have hsource : u.converterTake.writer.nextSource = some .resultQueue := by
    rw [htake]
    show u.writer.nextSource = _
    rw [hwriter, ResultWriter.nextSource, hfill]
  have hdrops : u.converterTake.dropsResult r = decide dropped := by
    have hentry : u.converterTake.entry? r.ref = some e := by
      rw [State.entry?_of_groups (s := s) (by rw [htake, ← hu]), he]
    rw [State.dropsResult, hentry]
    show (e.faulted || decide (r.position < e.nextPos)) = _
    by_cases hf : e.faulted = true <;> simp [dropped, hf]
  have honce : u.pumpOnce = u.converterTake.chooseJob := by
    rw [State.pumpOnce_of_idle hslots hrun hfree.state, State.drain_of_busy hslots hbusy]
  rw [State.chooseJob_of_result (by rw [htake]; show u.writer.job = none; rw [hwriter]; exact hjob) hsource
    (by rw [htake]; show u.writer.queue = [r]; rw [hwriter]), hdrops, htake, hwriter] at honce
  generalize hv : u.pumpOnce = v at honce
  have hvwriter : v.writer = { s.writer with
      queue := [], lastSource := .resultQueue, job := if decide dropped = true then none else some (.result r) } := by rw [honce]
  have hvconv : v.converter = s.converter.following s.captureQueue := by
    rw [honce, ← hu]
    exact s.converter.delivered_following _
  have hvqueue : v.captureQueue = s.captureQueue.tail := by rw [honce, ← hu]
  have hvmarks : v.marks.conv = (s.marks.conv || s.captureQueue.head?.isSome) := by rw [honce, ← hu]
  have hvgroups : v.groups = s.groups := by rw [honce, ← hu]
  have hvslots : ∀ m, (v.group m).SlotsDistinct := fun m => by
    have hgroup : v.group m = s.group m := congrArg (fun w => w[m]) hvgroups
    rw [hgroup]
    exact h.slots m
  clear honce htake hsource hdrops
  have hvquiet : v.Quiet := State.quiet_of_following (fun _ => by rw [hvwriter]; exact ⟨rfl, hfill⟩) hvconv hvqueue
  have hhandv : ∀ b, v.inHand b = true ↔ s.hasRequest b = true ∨ s.isHeld b = true ∨ (¬dropped ∧ r.ref = b) := fun b => by
    rw [State.inHand_iff, State.hasRequest_iff, State.isHeld_iff, hvqueue, hvconv, hvwriter, Converter.following]
    cases s.captureQueue with
    | nil => by_cases hd : dropped <;> simp [hd, Job.ref]
    | cons q' rest => by_cases hd : dropped <;> simp [hd, Job.ref, or_assoc, or_left_comm]
  have hjoining : v.joining = if dropped ∧ fills then [r.ref] else [] := by
    refine List.eq_of_nodup_of_forall (State.joins_joining hvslots).1 fun b => ?_
    rw [State.mem_joining hvslots, State.entry?_of_groups hvgroups, ← Bool.not_eq_true, hhandv]
    have hvfill : v.inFill b = false := by rw [← Bool.not_eq_true, State.inFill_iff, hvwriter, hfill]; nofun
    constructor
    · rintro ⟨hno, -, f, hf, hst, howes⟩
      have hs := hhand b.group f (State.mem_of_entry? hf).1 hst
      rw [State.ref_of_entry? hf, State.inHand_iff, ← State.hasRequest_iff, ← State.isHeld_iff, hqueue, hjob, h.current] at hs
      simp only [not_or, not_and] at hno
      obtain ⟨hreq, hheld, hdrop⟩ := hno
      have hb : b = r.ref := by
        rcases hs with hs | ⟨q', hq', hs⟩ | hs | ⟨_, hs, -⟩ | ⟨_, hs, -⟩
        · exact absurd hs hreq
        · rw [← hs, ← Option.some.inj hq']
          rfl
        · exact absurd hs hheld
        · cases hs
        · cases hs
      subst hb
      obtain rfl : f = e := Option.some.inj (hf.symm.trans he)
      exact ⟨rfl, by_contra fun hd => hdrop hd rfl, hst, howes, by simpa using hreq, by simpa using hheld⟩
    · rintro ⟨rfl, hdrop, hst, howes, hreq, hheld⟩
      refine ⟨?_, hvfill, e, he, hst, howes⟩
      rw [hreq, hheld]
      simp [hdrop]
  have hrounds : State.pumpRounds 8 u = v.quietPump := by
    rw [State.pumpRounds, hv, State.pumpRounds_of_quiet hvslots hvquiet]
  obtain ⟨hq, hc, hm, hw⟩ := State.pump_path hrun
  have hquietPath : v.quietPump.captureQueue = v.captureQueue ∧ v.quietPump.converter = v.converter ∧ v.quietPump.marks = v.marks := by
    unfold State.quietPump
    split <;> exact ⟨State.drain_captureQueue hvslots, State.drain_converter hvslots, State.drain_marks hvslots⟩
  have htq : t.captureQueue = u.pump.captureQueue := by rw [ht]; rfl
  have htc : t.converter = u.pump.converter := by rw [ht]; rfl
  have htm : t.marks = u.pump.marks := by rw [ht]; rfl
  have htw : t.writer.job = u.pump.writer.job ∧ t.writer.queue = u.pump.writer.queue ∧ t.writer.fill = u.pump.writer.fill
      ∧ t.writer.lastSource = u.pump.writer.lastSource ∧ t.writer.onBus = u.pump.writer.onBus := by
    rw [ht]; exact ⟨rfl, rfl, rfl, rfl, rfl⟩
  rw [hw, hrounds] at htw
  have hpath : t.converter = s.converter.following s.captureQueue ∧ t.captureQueue = s.captureQueue.tail
      ∧ t.marks.conv = (s.marks.conv || s.captureQueue.head?.isSome) := by
    rw [htc, htq, htm, hq, hc, hm, hrounds, hquietPath.1, hquietPath.2.1, hquietPath.2.2]
    exact ⟨hvconv, hvqueue, hvmarks⟩
  obtain ⟨htjob, htqueue, htfill, htlast, htbus⟩ := htw
  by_cases hboth : dropped ∧ fills
  · rw [if_pos hboth] at hjoining
    have hpump := State.quietPump_of_fills (by rw [hvwriter, if_pos (by simpa using hboth.1)]) hjoining
    rw [State.entry?_of_groups hvgroups, he] at hpump
    rw [htjob, htqueue, htfill, htlast, htbus, hpump, hvwriter, if_neg (not_not.2 hboth.1), if_pos hboth.2, if_pos hboth]
    exact ⟨rfl, rfl, rfl, rfl, rfl, hpath⟩
  · rw [if_neg hboth] at hjoining
    rw [htjob, htqueue, htfill, htlast, htbus, State.quietPump_of_keeps (.inr hjoining), State.drain_writer hvslots, hjoining, hvwriter,
      if_neg hboth]
    refine ⟨?_, rfl, ?_, rfl, rfl, hpath⟩
    · by_cases hd : dropped
      · have hf : ¬fills := fun hf => hboth ⟨hd, hf⟩
        simp [hd, hf]
      · simp [hd]
    · show s.writer.fill ++ [] = []
      rw [hfill]
      rfl

/-! ### A converter tick -/

theorem exec_converterTick {v : BitVec 12} (hrun : s.ctrl = .running) (hpresc : s.converter.presc = 0) (hmark : s.marks.conv = false) :
    exec (.converterTick v) s = .next (s.convTick v).settle := by
  have hdue : s.convTickDue = true := by simp [State.convTickDue, State.isRunning, hrun, hpresc, hmark]
  exact congrArg (fun due => happen due s (s.convTick v)) hdue

/-- The converter and its mark are read by nothing that settles. -/
theorem settle_of_converter (hs : Settled s) (c : Converter) (marks : Marks) :
    ({ s with converter := c, marks := marks } : State).settle = { s with converter := c, marks := marks } := by
  have hcomm : ({ s with converter := c, marks := marks } : State).settle = { s.settle with converter := c, marks := marks } := rfl
  rw [hcomm, hs]

theorem converterTick_clauses {v : BitVec 12} (hs : Settled s) (hrun : s.ctrl = .running) (hpresc : s.converter.presc = 0)
    (hmark : s.marks.conv = false) :
    (s.converter.state = .converting → s.converter.step < 14 →
      exec (.converterTick v) s = .next { s with
        converter := { s.converter with
          step := s.converter.step + 1
          sample := if s.converter.step = 0 then v.toNat else s.converter.sample }
        marks := { s.marks with conv := true } })
    ∧ (s.converter.state ≠ .converting →
      exec (.converterTick v) s = .next { s with marks := { s.marks with conv := true } }) := by
  rw [exec_converterTick hrun hpresc hmark]
  refine ⟨fun hconv hstep => ?_, fun hconv => ?_⟩
  · have htick : s.convTick v = { s with
        converter := { s.converter with
          step := s.converter.step + 1
          sample := if s.converter.step = 0 then v.toNat else s.converter.sample }
        marks := { s.marks with conv := true } } := if_pos (by simp [hconv, hstep])
    rw [htick]
    exact congrArg Host.Outcome.next (settle_of_converter hs _ _)
  · have htick : s.convTick v = { s with converter := s.converter, marks := { s.marks with conv := true } } :=
      if_neg (by simp [hconv])
    rw [htick]
    exact congrArg Host.Outcome.next (settle_of_converter hs _ _)

/-- Settles O44: the ticks, and the end of a conversion by what is left and by where its result goes. -/
theorem conversionsRunAndDeliverResults : Obligations.ConversionsRunAndDeliverResults := by
  unfold Obligations.ConversionsRunAndDeliverResults
  refine ⟨fun s v hs hrun hpresc hmark => converterTick_clauses hs hrun hpresc hmark, ?_⟩
  intro s q hs hring hrun hconv hstep hcur sum done r next takes touched
  have hend : s.AtEnd q := ⟨hs, fun m => (hring m).slotsDistinct, hrun, hconv, hstep, hcur⟩
  have hexec := exec_conversionEnd hend
  have hnext : next = s.converter.following s.captureQueue := rfl
  clear_value next
  subst hnext
  obtain ⟨hdrains, hframe⟩ := delivery_frame hend r
  have hcomplete : q.oversample ≤ done → exec .conversionEnd s = .next (s.offerResult r).pump.settle := fun hdone => by
    rw [hexec, conversionEnd_of_complete hcur hdone]
  refine ⟨fun hleft => ?_, fun hdone hjob hroom => ?_, fun hdone hjob hfull => ?_, fun hdone hjob hqueue hfill hhand e he => ?_⟩
  · rw [hexec, conversionEnd_of_left hcur hleft]
    exact congrArg Host.Outcome.next (settle_of_converter hs _ s.marks)
  · obtain ⟨h1, h2, h3, h4, h5, h6⟩ := conversionEnd_queued hend hjob hroom sum
    exact ⟨_, hcomplete hdone, h1, h2, h3, h4, h5, h6, hdrains, hframe⟩
  · obtain ⟨h1, h2, h3, h4, h5, h6⟩ := conversionEnd_held hend hjob hfull sum
    exact ⟨_, hcomplete hdone, h1, h2, h3, h4, h5, h6, hdrains, hframe⟩
  · obtain ⟨h1, h2, h3, h4, h5, h6, h7, h8⟩ := conversionEnd_free hend hjob hqueue hfill hhand sum he
    intro dropped fills
    refine ⟨_, hcomplete hdone, ?_, h2, h3, ?_, h5, h6, h7, h8, hdrains, hframe⟩
    · rw [h1]
    · rw [h4]

end ConversionEnd

end Sys2Proof.Machine
end

section
/-! PROOF. The answer to a result write: a clause of its statement does not hold in a state that the capture law excludes
(R104, R106, R108). -/

namespace Sys2Proof.Machine

/-! ## A converter at rest that still names a request -/

/-- The DRAINING record: one of its two words has been written, and it owes the other. -/
def owingEntry : Entry := { slot := 0, st := .draining, status := some .ok, triggered := 2, nextPos := 1 }

/-- The answer to the last write of the record's job is awaited. The converter is IDLE, but names a request of the record
as its current one, which the capture law excludes (R91), and a request of another record waits in the capture queue. -/
def staleConverterState : State :=
  { ctrl := .running
    groups := #v[{ state := .starved
                   ring := { bound := true, size := 4, tail := 1, fetch := 1, retire := 0, span := 1 }
                   window := [owingEntry] }, {}, {}, {}]
    captureQueue := [{ group := 1, slot := 0, position := 0, input := 0, oversample := 1 }]
    converter := { current := some { group := 0, slot := 0, position := 1, input := 0, oversample := 1 } }
    writer := { job := some (.result { group := 0, slot := 0, position := 0, sum := 0 })
                write := .onBus, onBus := some ⟨⟨0, 0⟩, 0⟩ }
    bus := [{ requester := .resultWriter, addr := 0, op := .writeWord 0, late := false }] }

/-- The state after the word has been counted and the job has ended, before its consequences. -/
def staleCounted : State := State.countWord ⟨⟨0, 0⟩, 0⟩ staleConverterState.wordAnswered

theorem staleConverterState_settled : Settled staleConverterState := rfl

theorem staleConverterState_rings : RingLaw staleConverterState := by decide

theorem staleConverterState_awaits : Awaits staleConverterState .resultWriter := ⟨rfl, rfl⟩

/-- The only DRAINING record of the state is the one whose write is answered. -/
theorem staleConverterState_draining (m : GroupId) (f : Entry) (hf : f ∈ (staleConverterState.group m).window) :
    f.ref m = ⟨0, 0⟩ := by
  revert f
  revert m
  decide

/-- The take of the waiting request leaves nothing of the record in hand, so a second round lists and fills it. -/
theorem staleCounted_second_round : staleCounted.pumpOnce.pumpOnce.writer.job = some (.fill ⟨0, 0⟩ 2) := rfl

theorem staleCounted_slots (m : GroupId) : (staleCounted.group m).SlotsDistinct := by
  revert m
  decide

theorem settle_job (s : State) : s.settle.writer.job = s.writer.job := rfl

/-- The writer is at work on the fill at the end of the answer. -/
theorem staleAnswer_fills : (staleConverterState.resultAnswered State.countWord).settle.writer.job = some (.fill ⟨0, 0⟩ 2) := by
  have hanswered : staleConverterState.resultAnswered State.countWord = staleCounted.pump := rfl
  have hrounds : State.pumpRounds 8 staleCounted = State.pumpRounds 6 staleCounted.pumpOnce.pumpOnce := rfl
  have hchain : Consequences staleCounted staleCounted.pumpOnce.pumpOnce :=
    Relation.ReflTransGen.trans (consequences_pumpOnce staleCounted) (consequences_pumpOnce _)
  have hslots : ∀ m, (staleCounted.pumpOnce.pumpOnce.group m).SlotsDistinct := fun m =>
    (Consequences.follows staleCounted_slots hchain).distinct (staleCounted_slots m)
  have hkeeps := ((consequences_pumpRounds 6 staleCounted.pumpOnce.pumpOnce).writerPath hslots).job _ staleCounted_second_round
  obtain ⟨-, -, -, hw⟩ := State.pump_path (u := staleCounted) rfl
  rw [hrounds] at hw
  rw [hanswered, settle_job, hw, hkeeps]

/-- Refutes O46: the clause on the job that ends while no other work waits leaves out the request of another record that an
IDLE converter takes. It asks for no capture law, so it speaks of a converter that is IDLE and still names a request of the
record as its current one: its record does not count as free then, but is free once the waiting request has been taken, and
the writer fills it instead of being IDLE. -/
theorem not_resultAnswerIsCountedOnce : ¬Obligations.ResultAnswerIsCountedOnce := by
  unfold Obligations.ResultAnswerIsCountedOnce
  rintro ⟨-, -, -, h⟩
  obtain ⟨-, -, hends, -⟩ := h staleConverterState ⟨⟨0, 0⟩, 0⟩ owingEntry staleConverterState_settled staleConverterState_rings
    staleConverterState_awaits rfl rfl
  obtain ⟨-, hok, -⟩ := hends (by decide) (.result { group := 0, slot := 0, position := 0, sum := 0 }) rfl rfl
  obtain ⟨t, hexec, -, hjob, -⟩ := hok (by decide)
  obtain ⟨hnone, -⟩ := hjob rfl rfl (by decide) fun m f hf _ hne => absurd (staleConverterState_draining m f hf) hne
  have hconverting : staleConverterState.isConverting ⟨0, 0⟩ = true := rfl
  rw [if_neg fun hfills => by
    obtain ⟨-, -, -, hno, -⟩ := hfills
    rw [hconverting] at hno
    cases hno] at hnone
  have ht : (staleConverterState.resultAnswered State.countWord).settle = t :=
    Host.Outcome.next.inj ((answer_of_awaits staleConverterState_awaits _).symm.trans hexec)
  rw [← ht, staleAnswer_fills] at hnone
  exact Option.some_ne_none _ hnone

end Sys2Proof.Machine
end

section
/-! PROOF. The laws of capture work, cut into what every part of a happening keeps and what the consequences at its end
establish (R83, R87, R91 to R94, R104 to R108). -/

namespace Sys2Proof.Machine

/-! ## The laws in parts -/

/-- The converter's state tells what it holds (R91 to R93). -/
structure Converter.Shape (c : Converter) : Prop where
  converting : c.state = .converting ↔ c.current.isSome = true
  holding : c.state = .holding ↔ c.held.isSome = true
  rest : c.state ≠ .converting → c.step = 0 ∧ c.done = 0 ∧ c.sum = 0

/-- What every part of a happening keeps of the capture path: all capture work has its record (R87). -/
structure State.Sound (s : State) : Prop where
  slots : ∀ m, (s.group m).SlotsDistinct
  shape : s.converter.Shape
  bus : s.writer.onBus.isSome = true → s.writer.write = .onBus
  owner : OwnerLaw s

/-- No consequence is left undone (R38, R91, R94, R104, R106, R110). -/
structure State.Done (s : State) : Prop where
  quiet : s.Quiet
  draining : s.DrainingBusy
  stops : ∀ m, (s.group m).state = .stopping → (s.group m).allRetiring = false

/-- The positions that an ACTIVE record has triggered below its capacity when the first `k` points of a tick have been
judged (R82, R83): of the points that trigger on the tick only those are counted. -/
def Group.positionsPassed (k : Nat) (x : Group) (e : Entry) : Nat :=
  min (e.periodsRun * Seg.pointCount e.copy) (Seg.capacity e.copy)
    + ((List.range 4).filter fun j =>
        decide (j < Seg.pointCount e.copy) && x.reached e.copy j
          && decide (e.periodsRun * Seg.pointCount e.copy + j < Seg.capacity e.copy)
          && (decide (j < k) || !x.pointTriggers e.copy j)).length

/-- The counts of a group's records, `k` points of the group's tick having been judged (R83, R107). -/
abbrev Group.CountLaw (k : Nat) (x : Group) : Prop :=
  ∀ e ∈ x.window, e.triggered ≤ Seg.capacity e.copy ∧ e.nextPos ≤ Seg.capacity e.copy
    ∧ (e.st = .active → e.triggered ≤ x.positionsPassed k e)
    ∧ (e.isWaiting = true → e.triggered = 0 ∧ e.nextPos = 0 ∧ e.periodsRun = 0)

/-- The sixth law with `K m` points of the tick of group `m` judged. -/
structure State.Counted (K : GroupId → Nat) (s : State) : Prop where
  counts : ∀ m, (s.group m).CountLaw (K m)
  words : ∀ m, ∀ e ∈ (s.group m).window, e.wordsWritten + (if s.writeOnBus (e.ref m) then 1 else 0) ≤ e.nextPos
  job : ∀ j ∈ s.writer.job, ∀ e ∈ s.entry? j.ref,
    e.nextPos < j.limit ∨ (s.writeOnBus j.ref = true ∧ e.nextPos ≤ j.limit)

section Laws

variable {s t u : State} {g m : GroupId} {ref : EntryRef} {e f : Entry} {x y : Group} {k : Nat} {K : GroupId → Nat}

theorem Group.positionsPassed_all (x : Group) (e : Entry) : x.positionsPassed 4 e = x.positionsReached e := by
  unfold Group.positionsPassed Group.positionsReached
  congr 2
  refine List.filter_congr fun j hj => ?_
  rw [decide_eq_true (List.mem_range.1 hj), Bool.true_or, Bool.and_true]

theorem positionLaw_iff : PositionLaw s ↔ s.Counted fun _ => 4 := by
  constructor
  · rintro ⟨hentries, hjob⟩
    refine ⟨fun m e he => ?_, fun m e he => (hentries m e he).2.2.1, hjob⟩
    obtain ⟨htrig, hnext, -, hactive, hwait⟩ := hentries m e he
    exact ⟨htrig, hnext, fun h => (Group.positionsPassed_all _ e).symm ▸ hactive h, hwait⟩
  · rintro ⟨hcounts, hwords, hjob⟩
    refine ⟨fun m e he => ?_, hjob⟩
    obtain ⟨htrig, hnext, hactive, hwait⟩ := hcounts m e he
    exact ⟨htrig, hnext, hwords m e he, fun h => Group.positionsPassed_all _ e ▸ hactive h, hwait⟩

theorem CaptureLaw.sound (h : CaptureLaw s) (ho : OwnerLaw s) (hd : ∀ m, (s.group m).SlotsDistinct) : s.Sound := by
  obtain ⟨hconv, hheld, -, -, -, hbus, hrest, -⟩ := h
  exact ⟨hd, ⟨hconv, hheld, hrest⟩, hbus, ho⟩

theorem CaptureLaw.done (h : CaptureLaw s) : s.Done := by
  refine ⟨h.quiet, h.drainingBusy, fun m => ?_⟩
  obtain ⟨-, -, -, -, -, -, -, hlaw⟩ := h
  exact (hlaw m).1

theorem State.Sound.captureLaw (h : s.Sound) (hdone : s.Done) (hbound : s.writer.queue.length ≤ 4) : CaptureLaw s :=
  ⟨h.shape.converting, h.shape.holding, hdone.quiet.idle, fun hh => Nat.le_antisymm hbound (hdone.quiet.holding hh),
    hdone.quiet.free, h.bus, h.shape.rest, fun m => ⟨hdone.stops m, fun e he hst => hdone.draining m e he hst⟩⟩

/-! ## Whose work it is -/

/-- The record `ref` is ACTIVE or DRAINING. -/
abbrev State.Runs (s : State) (ref : EntryRef) : Prop :=
  ∃ e ∈ (s.group ref.group).window, e.slot = ref.slot ∧ (e.st = .active ∨ e.st = .draining)

theorem State.serves.runs {position : Nat} (h : s.serves ref position) : s.Runs ref := by
  obtain ⟨e, he, hslot, hst, -⟩ := h
  exact ⟨e, he, hslot, hst⟩

theorem OwnerLaw.job_runs (h : OwnerLaw s) {j : Job} (hj : s.writer.job = some j) : s.Runs j.ref := by
  cases j with
  | result r => exact (h.resultJob r hj).runs
  | fill ref target =>
    obtain ⟨e, he, hslot, hst, -⟩ := h.fillJob ref target hj
    exact ⟨e, he, hslot, .inr hst⟩

/-- A record with work runs or drains (R87). -/
theorem OwnerLaw.runs (h : OwnerLaw s) (hb : s.Busy ref) : s.Runs ref := by
  rw [State.Busy, State.inHand_iff, State.inFill_iff] at hb
  rcases hb with (⟨q, hq, rfl⟩ | ⟨q, hq, rfl⟩ | ⟨r, hr, rfl⟩ | ⟨r, hr, rfl⟩ | ⟨j, hj, rfl⟩) | hf
  · exact (h.requests q hq).runs
  · exact (h.current q hq).runs
  · exact (h.held r hr).runs
  · exact (h.results r hr).runs
  · exact h.job_runs hj
  · obtain ⟨-, e, he, hslot, hst, -⟩ := h.fill.2 ref hf
    exact ⟨e, he, hslot, .inr hst⟩

/-! ## Records that last -/

/-- A record that runs, drains or retires does so no less afterwards; what its work is reckoned by stays. -/
structure Entry.Lasts (e f : Entry) : Prop where
  slot : f.slot = e.slot
  copy : f.copy = e.copy
  active : e.st = .active → f.st = .active ∨ f.st = .draining
  draining : e.st = .draining → f.st = .draining ∧ f.triggered = e.triggered
  retiring : e.st = .retiring → f.st = .retiring

theorem Entry.Lasts.refl (e : Entry) : e.Lasts e := ⟨rfl, rfl, .inl, fun h => ⟨h, rfl⟩, id⟩

theorem Entry.Lasts.runs (h : e.Lasts f) (hst : e.st = .active ∨ e.st = .draining) : f.st = .active ∨ f.st = .draining :=
  hst.elim h.active fun hd => .inr (h.draining hd).1

theorem Entry.Lasts.trans {d : Entry} (h : d.Lasts e) (h' : e.Lasts f) : d.Lasts f := by
  refine ⟨h'.slot.trans h.slot, h'.copy.trans h.copy, fun hd => h'.runs (h.active hd), fun hd => ?_,
    fun hd => h'.retiring (h.retiring hd)⟩
  obtain ⟨hst, htrig⟩ := h.draining hd
  exact ⟨(h'.draining hst).1, (h'.draining hst).2.trans htrig⟩

/-- A path of no more work than before. -/
structure State.Sheds (s t : State) : Prop where
  requests : ∀ q ∈ t.captureQueue, q ∈ s.captureQueue
  current : ∀ q, t.converter.current = some q → s.converter.current = some q
  held : ∀ r, t.converter.held = some r → s.converter.held = some r
  results : ∀ r ∈ t.writer.queue, r ∈ s.writer.queue
  fill : List.Sublist t.writer.fill s.writer.fill
  job : ∀ j, t.writer.job = some j → s.writer.job = some j

theorem State.sheds_of_same (hq : t.captureQueue = s.captureQueue) (hc : t.converter.current = s.converter.current)
    (hh : t.converter.held = s.converter.held) (hr : t.writer.queue = s.writer.queue) (hf : t.writer.fill = s.writer.fill)
    (hj : t.writer.job = s.writer.job) : s.Sheds t :=
  ⟨fun _ h => hq ▸ h, fun _ h => hc ▸ h, fun _ h => hh ▸ h, fun _ h => hr ▸ h, hf ▸ .refl _, fun _ h => hj ▸ h⟩

theorem State.Sheds.inHand (h : s.Sheds t) (hb : t.inHand ref = true) : s.inHand ref = true := by
  rw [State.inHand_iff] at hb ⊢
  rcases hb with ⟨q, hq, hr⟩ | ⟨q, hq, hr⟩ | ⟨r, hr', hr⟩ | ⟨r, hr', hr⟩ | ⟨j, hj, hr⟩
  · exact .inl ⟨q, h.requests q hq, hr⟩
  · exact .inr (.inl ⟨q, h.current q hq, hr⟩)
  · exact .inr (.inr (.inl ⟨r, h.held r hr', hr⟩))
  · exact .inr (.inr (.inr (.inl ⟨r, h.results r hr', hr⟩)))
  · exact .inr (.inr (.inr (.inr ⟨j, h.job j hj, hr⟩)))

/-- The records with work are still there in `t`. -/
abbrev State.Lasting (s t : State) : Prop :=
  ∀ m, ∀ e ∈ (s.group m).window, e.st = .active ∨ e.st = .draining → t.Busy (e.ref m) →
    ∃ f ∈ (t.group m).window, e.Lasts f ∧ (s.inFill (e.ref m) = true → f.owes = e.owes)

/-- The record of a write on the bus retires, or the write is the current job's (R111). -/
abbrev State.BusOwned (s : State) : Prop :=
  ∀ w ∈ s.writer.onBus,
    ∃ e ∈ (s.group w.ref.group).window, e.slot = w.ref.slot ∧ (e.st = .retiring ∨ s.hasJob w.ref = true)

theorem Entry.ref_of_slot {r : EntryRef} (h : e.slot = r.slot) : e.ref r.group = r := Entry.ref_eq_iff.2 ⟨rfl, h⟩

/-- Work that is left keeps its records. -/
theorem OwnerLaw.of_sheds (h : OwnerLaw s) (hp : s.Sheds t) (hl : s.Lasting t) (hbus : t.BusOwned) : OwnerLaw t := by
  have serves : ∀ {ref position}, s.serves ref position → t.Busy ref → t.serves ref position := by
    rintro ref position ⟨e, he, hslot, hst, hpos⟩ hb
    obtain ⟨f, hf, hlast, -⟩ := hl _ e he hst ((Entry.ref_of_slot hslot).symm ▸ hb)
    exact ⟨f, hf, hlast.slot.trans hslot, hlast.runs hst, hlast.copy.symm ▸ hpos⟩
  have hand : ∀ {ref}, _ → t.Busy ref := fun {ref} hw => .inl (State.inHand_iff (ref := ref).2 hw)
  refine ⟨fun q hq => ?_, fun q hq => ?_, fun r hr => ?_, fun r hr => ?_, ⟨h.fill.1.sublist hp.fill, fun r hr => ?_⟩,
    fun r hr => ?_, fun r target hr => ?_, hbus⟩
  · exact serves (h.requests q (hp.requests q hq)) (hand (.inl ⟨q, hq, rfl⟩))
  · exact serves (h.current q (hp.current q hq)) (hand (.inr (.inl ⟨q, hq, rfl⟩)))
  · exact serves (h.held r (hp.held r hr)) (hand (.inr (.inr (.inl ⟨r, hr, rfl⟩))))
  · exact serves (h.results r (hp.results r hr)) (hand (.inr (.inr (.inr (.inl ⟨r, hr, rfl⟩)))))
  · have hr' := hp.fill.subset hr
    obtain ⟨hno, e, he, hslot, hst, howes⟩ := h.fill.2 r hr'
    refine ⟨?_, ?_⟩
    · by_contra hb
      rw [hp.inHand (by simpa using hb)] at hno
      cases hno
    · have href : e.ref r.group = r := Entry.ref_of_slot hslot
      obtain ⟨f, hf, hlast, how⟩ := hl _ e he (.inr hst) (href.symm ▸ .inr (State.inFill_iff.2 hr))
      exact ⟨f, hf, hlast.slot.trans hslot, (hlast.draining hst).1, (how (href.symm ▸ State.inFill_iff.2 hr')).trans howes⟩
  · exact serves (h.resultJob r (hp.job _ hr)) (hand (.inr (.inr (.inr (.inr ⟨_, hr, rfl⟩)))))
  · obtain ⟨e, he, hslot, hst, htarget⟩ := h.fillJob r target (hp.job _ hr)
    have href : e.ref r.group = r := Entry.ref_of_slot hslot
    obtain ⟨f, hf, hlast, -⟩ := hl _ e he (.inr hst) (href.symm ▸ hand (.inr (.inr (.inr (.inr ⟨_, hr, rfl⟩)))))
    exact ⟨f, hf, hlast.slot.trans hslot, (hlast.draining hst).1, htarget.trans (hlast.draining hst).2.symm⟩

/-- The record of a write on the bus is still there, with its job or retiring. -/
theorem State.BusOwned.of_lasting (h : OwnerLaw s) (hj : t.writer.job = s.writer.job)
    (hbus : ∀ w, t.writer.onBus = some w → s.writer.onBus = some w)
    (hl : s.Lasting t) (hret : ∀ m, ∀ e ∈ (s.group m).window, e.st = .retiring → s.writeOnBus (e.ref m) = true →
      ∃ f ∈ (t.group m).window, e.Lasts f) : t.BusOwned := by
  intro w hw
  obtain ⟨e, he, hslot, hst⟩ := h.onBus w (hbus w hw)
  have hjob : ∀ r, t.hasJob r = s.hasJob r := fun r => by rw [State.hasJob, State.hasJob, hj]
  rcases hst with hst | hst
  · obtain ⟨f, hf, hlast⟩ := hret _ e he hst ((Entry.ref_of_slot hslot).symm ▸ State.writeOnBus_iff.2 ⟨w, hbus w hw, rfl⟩)
    exact ⟨f, hf, hlast.slot.trans hslot, .inl (hlast.retiring hst)⟩
  · obtain ⟨j, hj', href⟩ := State.hasJob_iff.1 hst
    have hruns := href ▸ h.job_runs hj'
    obtain ⟨e', he', hslot', hst'⟩ := hruns
    have hb : t.Busy (e'.ref w.ref.group) := by
      rw [Entry.ref_of_slot hslot']
      exact .inl (State.inHand_iff.2 (.inr (.inr (.inr (.inr ⟨j, hj ▸ hj', href⟩)))))
    obtain ⟨f, hf, hlast, -⟩ := hl _ e' he' hst' hb
    exact ⟨f, hf, hlast.slot.trans hslot', .inr (hjob _ ▸ hst)⟩

/-- No consequence has been left out of what `Done` says where the groups and the path are the same. -/
theorem State.Done.of_same (h : s.Done) (hg : t.groups = s.groups) (hq : t.captureQueue = s.captureQueue)
    (hst : t.converter.state = s.converter.state) (hc : t.converter.current = s.converter.current)
    (hh : t.converter.held = s.converter.held) (hr : t.writer.queue = s.writer.queue) (hf : t.writer.fill = s.writer.fill)
    (hj : t.writer.job = s.writer.job) : t.Done := by
  have hgroup : ∀ m, t.group m = s.group m := fun m => congrArg (fun w => w[m]) hg
  refine ⟨⟨by rw [hst, hq]; exact h.quiet.idle, by rw [hst, hr]; exact h.quiet.holding, by rw [hj, hr, hf]; exact h.quiet.free⟩,
    fun m e he hd => ?_, fun m => by rw [hgroup]; exact h.stops m⟩
  have hb := h.draining m e (hgroup m ▸ he) hd
  rw [State.Busy, State.inHand_iff, State.inFill_iff] at hb ⊢
  rw [hq, hc, hh, hr, hf, hj]
  exact hb

end Laws

end Sys2Proof.Machine
end

section
/-! PROOF. Each consequence on the capture path keeps every piece of work with its record and the counts within their
bounds, and the rounds of consequences come to their end (R91, R94, R104 to R106, R110). -/

namespace Sys2Proof.Machine

/-- A part of a happening: it keeps all capture work with its records, and the counts. -/
structure State.Preserves (s t : State) : Prop where
  sound : s.Sound → t.Sound
  counted : s.Sound → ∀ K, s.Counted K → t.Counted K

section Parts

variable {s t u : State} {g m : GroupId} {ref : EntryRef} {e f : Entry} {K K' : GroupId → Nat}

theorem State.Preserves.refl (s : State) : s.Preserves s := ⟨id, fun _ _ => id⟩

theorem State.Preserves.trans (h : s.Preserves t) (h' : t.Preserves u) : s.Preserves u :=
  ⟨fun hs => h'.sound (h.sound hs), fun hs K hK => h'.counted (h.sound hs) K (h.counted hs K hK)⟩

theorem preserves_foldl {α : Type} {f : State → α → State} (h : ∀ (s : State) (a : α), s.Preserves (f s a)) (l : List α) (s : State) :
    s.Preserves (l.foldl f s) :=
  foldl_inv s.Preserves f (fun t a ht => ht.trans (h t a)) l s (.refl s)

/-- Where every entry comes from one of the same next position, and no job is new. -/
theorem State.Counted.of_origin (h : s.Counted K) (hd : ∀ m, (s.group m).SlotsDistinct)
    (hcounts : ∀ m, (t.group m).CountLaw (K' m)) (hbus : t.writer.onBus = s.writer.onBus)
    (hjob : ∀ j, t.writer.job = some j → s.writer.job = some j)
    (horigin : ∀ m, ∀ f ∈ (t.group m).window, ∃ e ∈ (s.group m).window,
      f.slot = e.slot ∧ f.nextPos = e.nextPos ∧ f.wordsWritten ≤ e.wordsWritten) : t.Counted K' := by
  have hwrite : ∀ r, t.writeOnBus r = s.writeOnBus r := fun r => by rw [State.writeOnBus, State.writeOnBus, hbus]
  refine ⟨hcounts, fun m f hf => ?_, fun j hj f hf => ?_⟩
  · obtain ⟨e, he, hslot, hnext, hwords⟩ := horigin m f hf
    have hlaw := h.words m e he
    have href : f.ref m = e.ref m := by rw [Entry.ref, hslot, Entry.ref]
    rw [hwrite, href, hnext]
    omega
  · obtain ⟨hmem, hfslot⟩ := State.mem_of_entry? hf
    obtain ⟨e, he, hslot, hnext, -⟩ := horigin _ f hmem
    have hentry := State.entry?_of_mem (hd _) he
    rw [Entry.ref_of_slot (hslot.symm.trans hfslot)] at hentry
    rw [hwrite, hnext]
    exact h.job j (hjob j hj) e hentry

/-! ## Work in hand after a consequence -/

/-- A consequence gives a record work in hand only where the writer takes its fill (R104). -/
theorem Consequence.inHand (h : Consequence s t) (hb : t.inHand ref = true) :
    s.inHand ref = true ∨ ∃ rest, s.writer.fill = ref :: rest ∧ t.writer.fill = rest := by
  rw [State.inHand_iff] at hb ⊢
  cases h with
  | take _ hrun hidle hq =>
    rw [hq]
    simp only [List.mem_cons] at hb ⊢
    grind
  | offer _ hstate hheld hroom =>
    simp only [List.mem_append, List.mem_singleton] at hb
    grind
  | result _ hj hn hq =>
    rw [hq]
    simp only [List.mem_cons] at hb ⊢
    split at hb <;> grind [Job.ref]
  | fill _ hj hn hf =>
    rw [hf]
    simp only [Option.map_eq_some_iff] at hb ⊢
    grind [Job.ref]
  | join | retire => exact .inl hb

/-- Work that is not in hand does not get there but by the take of a fill, which leaves the list. -/
theorem Consequence.inHand_false (h : Consequence s t) (hno : s.inHand ref = false) (hlist : ref ∈ t.writer.fill)
    (hnodup : s.writer.fill.Nodup) : t.inHand ref = false := by
  by_contra hb
  rcases h.inHand (by simpa using hb) with hb | ⟨rest, hs, ht⟩
  · rw [hno] at hb; cases hb
  · rw [hs, List.nodup_cons] at hnodup
    exact hnodup.1 (ht ▸ hlist)

/-! ## One consequence -/

theorem Consequence.bus (h : Consequence s t) : t.writer.onBus = s.writer.onBus ∧ t.writer.write = s.writer.write := by
  cases h <;> exact ⟨rfl, rfl⟩

theorem Consequence.shape (h : Consequence s t) (hs : s.converter.Shape) : t.converter.Shape := by
  obtain ⟨hconv, hhold, hrest⟩ := hs
  cases h with
  | take _ hrun hidle hq =>
    have hheld : s.converter.held = none := by simpa [hidle] using hhold
    exact ⟨by simp, by simp [hheld], fun h => absurd rfl h⟩
  | offer _ hstate hheld hroom =>
    have hcurrent : s.converter.current = none := by simpa [hstate] using hconv
    exact ⟨by simp [hcurrent], by simp, fun _ => hrest (by simp [hstate])⟩
  | result | fill | join | retire => exact ⟨hconv, hhold, hrest⟩

/-- A write on the bus without a job of its record is that of a RETIRING record. -/
theorem OwnerLaw.retiring_of_bus (h : OwnerLaw s) {w : WordOnBus} (hw : w ∈ s.writer.onBus) (hj : s.hasJob w.ref = false) :
    ∃ e ∈ (s.group w.ref.group).window, e.slot = w.ref.slot ∧ e.st = .retiring := by
  obtain ⟨e, he, hslot, hst⟩ := h.onBus w hw
  exact ⟨e, he, hslot, hst.resolve_right fun h => by rw [hj] at h; cases h⟩

/-- Where the writer has no job, no record has one. -/
theorem State.hasJob_of_none (h : s.writer.job = none) : s.hasJob ref = false := by
  rw [State.hasJob, h]

theorem OwnerLaw.bus_of_no_job (h : OwnerLaw s) (hj : s.writer.job = none) (hg : ∀ m, t.group m = s.group m)
    (hbus : t.writer.onBus = s.writer.onBus) : t.BusOwned := by
  intro w hw
  obtain ⟨e, he, hslot, hst⟩ := h.retiring_of_bus (hbus ▸ hw) (State.hasJob_of_none hj)
  exact ⟨e, (hg _).symm ▸ he, hslot, .inl hst⟩

theorem Consequence.owner (hd : ∀ m, (s.group m).SlotsDistinct) (h : Consequence s t) (ho : OwnerLaw s) : OwnerLaw t := by
  have hhand : ∀ {r}, r ∈ t.writer.fill → s.inHand r = false → t.inHand r = false := fun hr hno =>
    h.inHand_false hno hr ho.fill.1
  cases h with
  | @take q rest _ hrun hidle hq =>
    exact { ho with
      requests := fun p hp => ho.requests p (hq ▸ List.mem_cons_of_mem _ hp)
      current := fun p hp => Option.some.inj hp ▸ ho.requests q (hq ▸ List.mem_cons_self)
      fill := ⟨ho.fill.1, fun r hr => ⟨hhand hr (ho.fill.2 r hr).1, (ho.fill.2 r hr).2⟩⟩ }
  | @offer r _ hstate hheld hroom =>
    exact { ho with
      held := nofun
      results := fun p hp => (List.mem_append.1 hp).elim (ho.results p) fun hp => List.mem_singleton.1 hp ▸ ho.held r hheld
      fill := ⟨ho.fill.1, fun r hr => ⟨hhand hr (ho.fill.2 r hr).1, (ho.fill.2 r hr).2⟩⟩ }
  | @result r rest _ hj hn hq =>
    exact { ho with
      results := fun p hp => ho.results p (hq ▸ List.mem_cons_of_mem _ hp)
      fill := ⟨ho.fill.1, fun r hr => ⟨hhand hr (ho.fill.2 r hr).1, (ho.fill.2 r hr).2⟩⟩
      resultJob := fun p hp => by
        dsimp only at hp
        split at hp
        · cases hp
        · cases hp
          exact ho.results r (hq ▸ List.mem_cons_self)
      fillJob := fun p target hp => by
        dsimp only at hp
        split at hp <;> cases hp
      onBus := ho.bus_of_no_job hj (fun _ => rfl) rfl }
  | @fill ref rest _ hj hn hf =>
    have hnodup := ho.fill.1
    rw [hf] at hnodup
    exact { ho with
      fill := ⟨(List.nodup_cons.1 hnodup).2, fun r hr =>
        have hr' : r ∈ s.writer.fill := hf ▸ List.mem_cons_of_mem _ hr
        ⟨hhand hr (ho.fill.2 r hr').1, (ho.fill.2 r hr').2⟩⟩
      resultJob := fun p hp => by
        obtain ⟨e, -, he⟩ := Option.map_eq_some_iff.1 hp
        cases he
      fillJob := fun p target hp => by
        obtain ⟨e, he, hjob⟩ := Option.map_eq_some_iff.1 hp
        cases hjob
        obtain ⟨hmem, hslot⟩ := State.mem_of_entry? he
        obtain ⟨-, d, hd', hdslot, hst, -⟩ := ho.fill.2 ref (hf ▸ List.mem_cons_self)
        obtain rfl : d = e := (hd _).eq hd' hmem (hdslot.trans hslot.symm)
        exact ⟨d, hmem, hslot, hst, rfl⟩
      onBus := ho.bus_of_no_job hj (fun _ => rfl) rfl }
  | @join ref e _ he hst hno hfill howes =>
    have hnot : ref ∉ s.writer.fill := fun h => by rw [State.inFill_iff.2 h] at hfill; cases hfill
    obtain ⟨hmem, hslot⟩ := State.mem_of_entry? he
    refine { ho with fill := ⟨?_, fun r hr => ?_⟩ }
    · exact List.nodup_append.2 ⟨ho.fill.1, List.nodup_singleton _, fun a ha b hb hab => by
        rw [List.mem_singleton.1 hb] at hab
        exact hnot (hab ▸ ha)⟩
    · rcases List.mem_append.1 hr with hr | hr
      · exact ho.fill.2 r hr
      · obtain rfl := List.mem_singleton.1 hr
        exact ⟨hno, e, hmem, hslot, hst, howes⟩
  | @retire ref e _ he hst hno hfill howes =>
    have hbusy : ∀ r, (s.modEntry ref fun e => { e with st := .retiring }).Busy r ↔ s.Busy r := fun _ => Iff.rfl
    have hlast : ∀ m, ∀ f ∈ (s.group m).window, f.ref m ≠ ref →
        f ∈ ((s.modEntry ref fun e => { e with st := .retiring }).group m).window := by
      intro m f hf hne
      rw [State.modEntry, State.group_modGroup]
      split
      · next hm =>
        subst hm
        refine List.mem_map.2 ⟨f, hf, if_neg ?_⟩
        simpa using fun h => hne (Entry.ref_of_slot h)
      · exact hf
    have hfree : ¬s.Busy ref := by simp [State.Busy, hno, hfill]
    have hl : s.Lasting (s.modEntry ref fun e => { e with st := .retiring }) := fun m f hf _ hb =>
      ⟨f, hlast m f hf fun hr => hfree (hr ▸ (hbusy _).1 hb), .refl f, fun _ => rfl⟩
    refine ho.of_sheds (State.sheds_of_same rfl rfl rfl rfl rfl rfl) hl (.of_lasting ho rfl (fun _ h => h) hl fun m f hf hret _ => ?_)
    refine ⟨f, hlast m f hf fun hr => ?_, .refl f⟩
    have hentry := State.entry?_of_mem (hd m) hf
    rw [hr, he] at hentry
    rw [Option.some.inj hentry, hret] at hst
    cases hst

theorem Group.positionsPassed_congr {x y : Group} (hm : y.mode = x.mode) (hc : y.counter = x.counter) (hs : y.slope = x.slope)
    (k : Nat) (e : Entry) : y.positionsPassed k e = x.positionsPassed k e := by
  simp only [Group.positionsPassed, Group.reached, Group.pointTriggers, hm, hc, hs]

/-- A window after a drained record: nothing that the counts are reckoned by is changed. -/
theorem Consequence.counted (h : Consequence s t) (hs : s.Sound) (hc : s.Counted K) : t.Counted K := by
  cases h with
  | take | offer | join => exact ⟨hc.counts, hc.words, hc.job⟩
  | @result r rest _ hj hn hq =>
    refine ⟨hc.counts, hc.words, fun j hjob e he => ?_⟩
    dsimp only at hjob
    split at hjob
    · cases hjob
    · next hdrop =>
      cases hjob
      have he' : s.entry? r.ref = some e := he
      rw [State.dropsResult, he'] at hdrop
      simp only [Bool.or_eq_true, decide_eq_true_eq, not_or, Nat.not_lt] at hdrop
      exact .inl (Nat.lt_succ_of_le hdrop.2)
  | @fill ref rest _ hj hn hf =>
    refine ⟨hc.counts, hc.words, fun j hjob e he => ?_⟩
    obtain ⟨d, hd, rfl⟩ := Option.map_eq_some_iff.1 hjob
    obtain rfl : d = e := Option.some.inj (hd.symm.trans he)
    obtain ⟨hmem, hslot⟩ := State.mem_of_entry? hd
    obtain ⟨-, d', hd', hdslot, -, howes⟩ := hs.owner.fill.2 ref (hf ▸ List.mem_cons_self)
    obtain rfl : d' = d := (hs.slots _).eq hd' hmem (hdslot.trans hslot.symm)
    simp only [Entry.owes, Bool.and_eq_true, decide_eq_true_eq] at howes
    exact .inl howes.1
  | @retire ref e _ he hst hno hfill howes =>
    have horigin : ∀ m, ∀ f ∈ ((s.modEntry ref fun e => { e with st := .retiring }).group m).window,
        ∃ d ∈ (s.group m).window, f = d ∨ f = { d with st := .retiring } := by
      intro m f hf
      rw [State.modEntry, State.group_modGroup] at hf
      split at hf
      · next hm =>
        subst hm
        obtain ⟨d, hd, rfl⟩ := List.mem_map.1 hf
        refine ⟨d, hd, ?_⟩
        split
        · exact .inr rfl
        · exact .inl rfl
      · exact ⟨f, hf, .inl rfl⟩
    refine hc.of_origin hs.slots (fun m f hf => ?_) rfl (fun _ h => h) fun m f hf => ?_
    · obtain ⟨d, hd, hor⟩ := horigin m f hf
      obtain ⟨htrig, hnext, hactive, hwait⟩ := hc.counts m d hd
      have hclock : ∀ (k : Nat) (d : Entry), Group.positionsPassed k ((s.modEntry ref fun e => { e with st := .retiring }).group m) d
          = (s.group m).positionsPassed k d := by
        intro k d
        rw [State.modEntry, State.group_modGroup]
        split <;> exact Group.positionsPassed_congr rfl rfl rfl k d
      rcases hor with rfl | rfl
      · exact ⟨htrig, hnext, fun h => (hclock _ f).symm ▸ hactive h, hwait⟩
      · exact ⟨htrig, hnext, nofun, nofun⟩
    · obtain ⟨d, hd, rfl | rfl⟩ := horigin m f hf <;> exact ⟨_, hd, rfl, rfl, Nat.le_refl _⟩

theorem Consequence.preserves (h : Consequence s t) : s.Preserves t := by
  refine ⟨fun hs => ⟨?_, h.shape hs.shape, ?_, h.owner hs.slots hs.owner⟩, fun hs _ hc => h.counted hs hc⟩
  · exact fun m => (Consequences.follows hs.slots (.single h)).distinct (hs.slots m)
  · rw [h.bus.1, h.bus.2]
    exact hs.bus

theorem Consequences.preserves (h : Consequences s t) : s.Preserves t := by
  induction h with
  | refl => exact .refl s
  | tail _ hc ih => exact ih.trans hc.preserves

end Parts

end Sys2Proof.Machine
end

section
/-! PROOF. Changes of a group that take no capture work from its records: what they carry over of the work and of the
counts (R13, R83, R87). -/

namespace Sys2Proof.Machine

/-! ## Entries and groups -/

/-- An entry that keeps its counts and bytes: it stays in its state, or its run ends, or it is retired unrun. -/
structure Entry.Moves (e f : Entry) : Prop where
  slot : f.slot = e.slot
  copy : f.copy = e.copy
  triggered : f.triggered = e.triggered
  nextPos : f.nextPos = e.nextPos
  words : f.wordsWritten = e.wordsWritten
  faulted : f.faulted = e.faulted
  periods : f.periodsRun = e.periodsRun
  st : f.st = e.st ∨ (e.st = .active ∧ f.st = .draining) ∨ (e.isWaiting = true ∧ f.st = .retiring)

/-- A group whose records with work are carried over with their counts. -/
structure Group.Carries (x y : Group) : Prop where
  slots : x.SlotsDistinct → y.SlotsDistinct
  kept : ∀ e ∈ x.window, e.isWaiting = false → ∃ f ∈ y.window, e.Lasts f ∧ f.owes = e.owes
  counts : ∀ k, x.CountLaw k → y.CountLaw k
  origin : ∀ k, x.CountLaw k → ∀ f ∈ y.window, ∃ e ∈ x.window,
    f.slot = e.slot ∧ f.nextPos = e.nextPos ∧ f.wordsWritten ≤ e.wordsWritten

/-- No record of the group begins to drain, and its stop is not left to be ended (R38, R110). -/
structure Group.Calm (x y : Group) : Prop where
  draining : ∀ f ∈ y.window, f.st = .draining → ∃ e ∈ x.window, e.st = .draining ∧ f.slot = e.slot
  stops : y.state = .stopping → y.allRetiring = true → x.state = .stopping ∧ x.allRetiring = true

section Carrying

variable {x y z : Group} {e f : Entry} {slot : Nat} {s t : State} {g : GroupId} {K : GroupId → Nat}

theorem Entry.isWaiting_iff : e.isWaiting = true ↔ e.st = .ready ∨ e.st = .bad ∨ e.st = .fetching := by
  simp [Entry.isWaiting, or_assoc]

theorem Entry.isWaiting_eq_false_iff : e.isWaiting = false ↔ e.st = .active ∨ e.st = .draining ∨ e.st = .retiring := by
  unfold Entry.isWaiting
  cases e.st <;> decide

theorem Entry.Moves.refl (e : Entry) : e.Moves e := ⟨rfl, rfl, rfl, rfl, rfl, rfl, rfl, .inl rfl⟩

theorem Entry.Moves.lasts (h : e.Moves f) (hw : e.isWaiting = false) : e.Lasts f := by
  have hst : f.st = e.st ∨ (e.st = .active ∧ f.st = .draining) :=
    h.st.imp_right fun h => h.resolve_right fun ⟨h, _⟩ => by rw [hw] at h; cases h
  refine ⟨h.slot, h.copy, fun ha => ?_, fun hd => ⟨?_, h.triggered⟩, fun hr => ?_⟩
  · rcases hst with h | ⟨-, h⟩
    · exact .inl (h.trans ha)
    · exact .inr h
  · rcases hst with h | ⟨h, -⟩
    · exact h.trans hd
    · rw [hd] at h; cases h
  · rcases hst with h | ⟨h, -⟩
    · exact h.trans hr
    · rw [hr] at h; cases h

theorem Entry.Moves.owes (h : e.Moves f) : f.owes = e.owes := by
  rw [Entry.owes, Entry.owes, h.nextPos, h.triggered, h.faulted]

/-- An entry that waits still has waited before, and one that is ACTIVE still has run before. -/
theorem Entry.Moves.waited (h : e.Moves f) (hf : f.isWaiting = true) : e.isWaiting = true := by
  rcases h.st with h | ⟨-, h⟩ | ⟨h, -⟩
  · rw [Entry.isWaiting, h] at hf
    exact hf
  · rw [Entry.isWaiting, h] at hf
    cases hf
  · exact h

theorem Entry.Moves.active (h : e.Moves f) (hf : f.st = .active) : e.st = .active := by
  rcases h.st with h | ⟨-, h⟩ | ⟨-, h⟩
  · exact h ▸ hf
  · rw [h] at hf; cases hf
  · rw [h] at hf; cases hf

theorem Group.Carries.refl (x : Group) : x.Carries x :=
  ⟨id, fun e he _ => ⟨e, he, .refl e, rfl⟩, fun _ => id, fun _ _ f hf => ⟨f, hf, rfl, rfl, Nat.le_refl _⟩⟩

theorem Group.Carries.trans (h : x.Carries y) (h' : y.Carries z) : x.Carries z := by
  refine ⟨fun hd => h'.slots (h.slots hd), fun e he hw => ?_, fun k hk => h'.counts k (h.counts k hk), fun k hk f hf => ?_⟩
  · obtain ⟨d, hd, hlast, howes⟩ := h.kept e he hw
    have hwd : d.isWaiting = false := by
      rw [Entry.isWaiting_eq_false_iff] at hw ⊢
      rcases hw with hw | hw | hw
      · exact (hlast.active hw).imp_right .inl
      · exact .inr (.inl (hlast.draining hw).1)
      · exact .inr (.inr (hlast.retiring hw))
    obtain ⟨f, hf, hlast', howes'⟩ := h'.kept d hd hwd
    exact ⟨f, hf, hlast.trans hlast', howes'.trans howes⟩
  · obtain ⟨d, hd, hslot, hnext, hwords⟩ := h'.origin k (h.counts k hk) f hf
    obtain ⟨e, he, hslot', hnext', hwords'⟩ := h.origin k hk d hd
    exact ⟨e, he, hslot.trans hslot', hnext.trans hnext', hwords.trans hwords'⟩

/-- A group's counter and slope stand as they did, or no record is ACTIVE. -/
abbrev Group.SameClock (x y : Group) : Prop :=
  (y.mode = x.mode ∧ y.counter = x.counter ∧ y.slope = x.slope) ∨ ∀ f ∈ y.window, f.st ≠ .active

theorem Group.CountLaw.of_moves {k : Nat} (h : x.CountLaw k) (hclock : x.SameClock y) {e f : Entry} (he : e ∈ x.window)
    (hf : f ∈ y.window) (hef : e.Moves f) : f.triggered ≤ Seg.capacity f.copy ∧ f.nextPos ≤ Seg.capacity f.copy
      ∧ (f.st = .active → f.triggered ≤ y.positionsPassed k f)
      ∧ (f.isWaiting = true → f.triggered = 0 ∧ f.nextPos = 0 ∧ f.periodsRun = 0) := by
  obtain ⟨htrig, hnext, hactive, hwait⟩ := h e he
  rw [hef.triggered, hef.nextPos, hef.copy, hef.periods]
  refine ⟨htrig, hnext, fun ha => ?_, fun hw => hwait (hef.waited hw)⟩
  rcases hclock with ⟨hm, hc, hs⟩ | hno
  · have hpassed : y.positionsPassed k f = x.positionsPassed k e := by
      rw [Group.positionsPassed_congr hm hc hs]
      simp only [Group.positionsPassed, hef.copy, hef.periods]
    rw [hpassed]
    exact hactive (hef.active ha)
  · exact absurd ha (hno f hf)

theorem slots_of_moves {l k : List Entry} (h : List.Forall₂ Entry.Moves l k) : k.map Entry.slot = l.map Entry.slot := by
  induction h with
  | nil => rfl
  | cons hab _ ih => rw [List.map_cons, List.map_cons, hab.slot, ih]

theorem exists_of_forall₂ {R : Entry → Entry → Prop} {l k : List Entry} (h : List.Forall₂ R l k) {e : Entry} (he : e ∈ l) :
    ∃ f ∈ k, R e f := by
  induction h with
  | nil => cases he
  | cons hab _ ih =>
    rcases List.mem_cons.1 he with rfl | he
    · exact ⟨_, List.mem_cons_self .., hab⟩
    · obtain ⟨f, hf, hr⟩ := ih he
      exact ⟨f, List.mem_cons_of_mem _ hf, hr⟩

theorem Group.Carries.of_moves (hw : List.Forall₂ Entry.Moves x.window y.window) (hclock : x.SameClock y) : x.Carries y := by
  refine ⟨fun hd => ?_, fun e he hwait => ?_, fun k hk f hf => ?_, fun _ _ f hf => ?_⟩
  · rw [Group.SlotsDistinct, slots_of_moves hw]; exact hd
  · obtain ⟨f, hf, hef⟩ := exists_of_forall₂ hw he
    exact ⟨f, hf, hef.lasts hwait, hef.owes⟩
  · obtain ⟨e, he, hef⟩ := mem_of_forall₂ hw hf
    exact hk.of_moves hclock he hf hef
  · obtain ⟨e, he, hef⟩ := mem_of_forall₂ hw hf
    exact ⟨e, he, hef.slot, hef.nextPos, hef.words.le⟩

theorem Group.Carries.of_map {φ : Entry → Entry} (hw : y.window = x.window.map φ) (hφ : ∀ e ∈ x.window, e.Moves (φ e))
    (hclock : x.SameClock y) : x.Carries y :=
  Group.Carries.of_moves (hw ▸ forall₂_map _ hφ) hclock

/-- A group of the same window. -/
theorem Group.Carries.of_window (hw : y.window = x.window) (hclock : x.SameClock y) : x.Carries y :=
  Group.Carries.of_moves (hw ▸ List.forall₂_same.2 fun e _ => .refl e) hclock

theorem Group.no_active_of_count (h : x.activeCount = 0) : ∀ e ∈ x.window, e.st ≠ .active := Group.activeCount_eq_zero_iff.1 h

/-! ## The changes of the sequencers -/

theorem Group.carries_notify (x : Group) (n : NoticeKind) : x.Carries (x.notify n) := .of_window rfl (.inl ⟨rfl, rfl, rfl⟩)

theorem Group.carries_endActive (x : Group) (status : SegStatus) : x.Carries (x.endActive status) := by
  refine .of_map rfl (fun e _ => ?_) (.inl ⟨rfl, rfl, rfl⟩)
  split
  · next h => exact ⟨rfl, rfl, rfl, rfl, rfl, rfl, rfl, .inr (.inl ⟨by simpa using h, rfl⟩)⟩
  · exact .refl e

theorem Group.carries_retireWaiting (x : Group) : x.Carries x.retireWaiting := by
  refine .of_map rfl (fun e _ => ?_) (.inl ⟨rfl, rfl, rfl⟩)
  split
  · next h => exact ⟨rfl, rfl, rfl, rfl, rfl, rfl, rfl, .inr (.inr ⟨Entry.isWaiting_iff.2 (.inl h), rfl⟩)⟩
  · next h => exact ⟨rfl, rfl, rfl, rfl, rfl, rfl, rfl, .inr (.inr ⟨Entry.isWaiting_iff.2 (.inr (.inl h)), rfl⟩)⟩
  · exact .refl e

/-- Changes of flags, statuses and counts that no law of capture work reads. -/
theorem Group.carries_modSlot (x : Group) (slot : Nat) {φ : Entry → Entry} (hφ : ∀ e : Entry, e.Moves (φ e)) :
    x.Carries (x.modSlot slot φ) := by
  refine .of_map rfl (fun e _ => ?_) (.inl ⟨rfl, rfl, rfl⟩)
  split
  · exact hφ e
  · exact .refl e

theorem Entry.moves_saturate (sat : Bool) (e : Entry) : e.Moves (e.saturate sat) := ⟨rfl, rfl, rfl, rfl, rfl, rfl, rfl, .inl rfl⟩

theorem Group.carries_cancelFetch (x : Group) : x.Carries x.cancelFetch := by
  have hw := x.window_cancelFetch
  have hmem : ∀ f, f ∈ x.cancelFetch.window → f ∈ x.window := fun f hf => (mem_unfetched.1 (hw ▸ hf)).1
  have hclock : x.SameClock x.cancelFetch := .inl (by unfold Group.cancelFetch; split <;> exact ⟨rfl, rfl, rfl⟩)
  refine ⟨fun hd => ?_, fun e he hwait => ⟨e, ?_, .refl e, rfl⟩, fun k hk f hf => hk.of_moves hclock (hmem f hf) hf (.refl f),
    fun _ _ f hf => ⟨f, hmem f hf, rfl, rfl, Nat.le_refl _⟩⟩
  · rw [Group.SlotsDistinct, hw]
    exact hd.sublist (List.filter_sublist.map _)
  · rw [hw]
    refine mem_unfetched.2 ⟨he, fun h => ?_⟩
    rw [Entry.isWaiting_iff.2 (.inr (.inr h))] at hwait
    cases hwait

/-- The counter of a group without ACTIVE record. -/
theorem Group.carries_holdCounter (h : ∀ e ∈ x.window, e.st ≠ .active) : x.Carries x.holdCounter :=
  .of_window rfl (.inr h)

theorem endActive_idle (status : SegStatus) (x : Group) : ∀ e ∈ (x.endActive status).window, e.st ≠ .active :=
  Group.no_active_of_count (endActive_no_active status x)

theorem Group.carries_finishStop (x : Group) : x.Carries x.finishStop := by
  refine .of_window (finishStop_window x) (.inl ?_)
  unfold Group.finishStop
  split <;> exact ⟨rfl, rfl, rfl⟩

theorem Group.carries_discard (x : Group) : x.Carries x.discard := by
  unfold Group.discard
  dsimp only
  split <;> exact .of_window rfl (.inl ⟨rfl, rfl, rfl⟩)

/-- A record that has waited becomes ACTIVE: it has triggered nothing yet (R30, R50). -/
theorem Group.carries_beginRecord (hd : x.SlotsDistinct) (h0 : ∀ d ∈ x.window, d.st ≠ .active) (he : e ∈ x.window)
    (hr : e.st = .ready) (sat : Bool) : x.Carries (x.beginRecord e.slot sat) := by
  have hwait : e.isWaiting = true := Entry.isWaiting_iff.2 (.inl hr)
  have hcases : ∀ f ∈ (x.beginRecord e.slot sat).window, (f = e.activate sat) ∨ (f ∈ x.window) := by
    intro f hf
    obtain ⟨d, hd', rfl⟩ := List.mem_map.1 hf
    split
    · next h => exact .inl (by rw [hd.eq hd' he (by simpa using h)])
    · exact .inr hd'
  refine ⟨fun _ => ?_, fun d hd' hw => ⟨d, ?_, .refl d, rfl⟩, fun k hk f hf => ?_, fun k _ f hf => ?_⟩
  · exact hd.of_recast (beginRecord_recast e.slot sat x)
  · refine List.mem_map.2 ⟨d, hd', if_neg fun h => ?_⟩
    rw [hd.eq hd' he (by simpa using h), hwait] at hw
    cases hw
  · rcases hcases f hf with rfl | hf
    · obtain ⟨htrig, hnext, -, hzero⟩ := hk e he
      exact ⟨htrig, hnext, fun _ => (hzero hwait).1.symm ▸ Nat.zero_le _, nofun⟩
    · obtain ⟨htrig, hnext, -, hzero⟩ := hk f hf
      exact ⟨htrig, hnext, fun ha => absurd ha (h0 f hf), hzero⟩
  · rcases hcases f hf with rfl | hf
    · exact ⟨e, he, rfl, rfl, Nat.le_refl _⟩
    · exact ⟨f, hf, rfl, rfl, Nat.le_refl _⟩

/-! ## The states -/

/-- Where the path is the same, the groups alone tell what is carried over. -/
theorem preserves_of_carries (hg : ∀ m, (s.group m).Carries (t.group m)) (hq : t.captureQueue = s.captureQueue)
    (hc : t.converter = s.converter) (hw : t.writer = s.writer) : s.Preserves t := by
  have hsheds : s.Sheds t := State.sheds_of_same hq (by rw [hc]) (by rw [hc]) (by rw [hw]) (by rw [hw]) (by rw [hw])
  have hl : s.Lasting t := fun m e he hst _ => by
    obtain ⟨f, hf, hlast, howes⟩ := (hg m).kept e he (Entry.isWaiting_eq_false_iff.2 (hst.imp_right .inl))
    exact ⟨f, hf, hlast, fun _ => howes⟩
  refine ⟨fun hs => ⟨fun m => (hg m).slots (hs.slots m), hc ▸ hs.shape, hw ▸ hs.bus, ?_⟩, fun hs K hK => ?_⟩
  · refine hs.owner.of_sheds hsheds hl (.of_lasting hs.owner (by rw [hw]) (fun _ h => hw ▸ h) hl fun m e he hst _ => ?_)
    obtain ⟨f, hf, hlast, -⟩ := (hg m).kept e he (Entry.isWaiting_eq_false_iff.2 (.inr (.inr hst)))
    exact ⟨f, hf, hlast⟩
  · exact hK.of_origin hs.slots (fun m => (hg m).counts _ (hK.counts m)) (by rw [hw]) (fun _ h => hw ▸ h)
      fun m f hf => (hg m).origin _ (hK.counts m) f hf

theorem preserves_modGroup {φ : Group → Group} (h : (s.group g).Carries (φ (s.group g))) : s.Preserves (s.modGroup g φ) := by
  refine preserves_of_carries (fun m => ?_) rfl rfl rfl
  rw [State.group_modGroup]
  split
  · next hm => subst hm; exact h
  · exact .refl _

theorem preserves_of_same (hg : t.groups = s.groups) (hq : t.captureQueue = s.captureQueue) (hc : t.converter = s.converter)
    (hw : t.writer = s.writer) : s.Preserves t := by
  refine preserves_of_carries (fun m => ?_) hq hc hw
  rw [show t.group m = s.group m from congrArg (fun w => w[m]) hg]
  exact .refl _

/-- What is done stays done where no record begins to drain and the path is the same. -/
theorem State.Done.of_calm (h : s.Done) (hg : ∀ m, (s.group m).Calm (t.group m)) (hq : t.captureQueue = s.captureQueue)
    (hc : t.converter = s.converter) (hw : t.writer = s.writer) : t.Done := by
  refine ⟨⟨by rw [hc, hq]; exact h.quiet.idle, by rw [hc, hw]; exact h.quiet.holding, by rw [hw]; exact h.quiet.free⟩,
    fun m f hf hst => ?_, fun m hst => ?_⟩
  · obtain ⟨e, he, hed, hslot⟩ := (hg m).draining f hf hst
    have hb := h.draining m e he hed
    have href : f.ref m = e.ref m := by rw [Entry.ref, hslot, Entry.ref]
    rw [State.Busy, State.inHand_iff, State.inFill_iff] at hb ⊢
    rw [href, hq, hc, hw]
    exact hb
  · by_contra hall
    obtain ⟨hst', hall'⟩ := (hg m).stops hst (by simpa using hall)
    rw [h.stops m hst'] at hall'
    cases hall'

theorem State.Done.modGroup {φ : Group → Group} (h : s.Done) (hg : (s.group g).Calm (φ (s.group g))) : (s.modGroup g φ).Done := by
  refine h.of_calm (fun m => ?_) rfl rfl rfl
  rw [State.group_modGroup]
  split
  · next hm => subst hm; exact hg
  · exact ⟨fun f hf hst => ⟨f, hf, hst, rfl⟩, fun h h' => ⟨h, h'⟩⟩

theorem Group.calm_of_window (hw : y.window = x.window) (hst : y.state = .stopping → x.state = .stopping) : x.Calm y :=
  ⟨fun f hf hd => ⟨f, hw ▸ hf, hd, rfl⟩, fun hs hall => ⟨hst hs, by rw [Group.allRetiring, hw] at hall; exact hall⟩⟩

end Carrying

end Sys2Proof.Machine
end

section
/-! PROOF. The rounds of consequences come to their end (R91, R94, R104 to R106, R110): at most five results are dropped one
after the other, and two more rounds leave nothing to do. -/

namespace Sys2Proof.Machine

/-- Nothing is left to do but the end of the stops. -/
structure State.Still (s : State) : Prop where
  quiet : s.Quiet
  draining : s.DrainingBusy

/-- The results that wait: those of the result queue and the held one. -/
def State.waitingResults (s : State) : Nat := (s.writer.queue ++ s.converter.held.toList).length

section Rounds

variable {s t u : State} {ref : EntryRef} {r : ConvResult}

/-! ## Work that stays in hand -/

theorem State.Busy.offerHeld (hs : s.converter.Shape) (hb : s.Busy ref) : s.offerHeld.Busy ref := by
  by_cases hno : s.converter.state ≠ .holding ∨ s.converter.held = none ∨ 4 ≤ s.writer.queue.length
  · rw [State.offerHeld_of_not hno]
    exact hb
  · simp only [not_or, not_not, Nat.not_le] at hno
    obtain ⟨hstate, hheld, hroom⟩ := hno
    obtain ⟨r, hr⟩ := Option.ne_none_iff_exists'.1 hheld
    have hcurrent : s.converter.current = none := by simpa [hstate] using hs.converting
    rw [State.offerHeld_of_held hstate hr hroom]
    refine State.Busy.converterTake ?_ fun _ => hcurrent
    simp only [State.Busy, State.inHand_iff, State.inFill_iff, hr, List.mem_append, List.mem_singleton] at hb ⊢
    grind

theorem State.DrainingBusy.of_busy (h : s.DrainingBusy) (hg : t.groups = s.groups) (hb : ∀ r, s.Busy r → t.Busy r) :
    t.DrainingBusy := by
  have hgroup : ∀ m, t.group m = s.group m := fun m => congrArg (fun w => w[m]) hg
  exact fun m e he hst => hb _ (h m e (hgroup m ▸ he) hst)

/-! ## One round -/

/-- The round before the writer's choice. -/
abbrev State.offered (s : State) : State := s.drain.converterTake.offerHeld

theorem consequences_offered (s : State) : Consequences s s.offered :=
  (consequences_drain s).trans ((consequences_converterTake _).trans (consequences_offerHeld _))

/-- The take leaves no converter HOLDING that was not. -/
theorem State.converterTake_holding (h : s.converterTake.converter.state = .holding) : s.converter.state = .holding := by
  by_cases hc : s.isRunning = true ∧ s.converter.state = .idle
  · cases hq : s.captureQueue with
    | nil => rw [State.converterTake_of_empty hq] at h; exact h
    | cons r rest => rw [State.converterTake_of_cons hc.1 hc.2 hq] at h; cases h
  · rw [State.converterTake_of_not hc] at h
    exact h

/-- Before the writer's choice each DRAINING record has work in hand or is listed, an IDLE converter finds no request, and
a held result no room. -/
theorem State.offered_still (hs : s.Sound) (hrun : s.isRunning = true) :
    s.offered.DrainingBusy ∧ (s.offered.converter.state = .idle → s.offered.captureQueue = [])
      ∧ (s.offered.converter.state = .holding → 4 ≤ s.offered.writer.queue.length) := by
  have hdrain := (consequences_drain s).preserves.sound hs
  have hrun' : s.drain.isRunning = true := (State.isRunning_of_fixed s.fixed_drain).trans hrun
  have hbusy := State.drain_busy hs.slots
  have hidle := State.converterTake_idle hrun'
  have htake := (consequences_converterTake s.drain).preserves.sound hdrain
  have hnone : s.drain.converter.state = .idle → s.drain.converter.current = none := fun h => by
    simpa [h] using hdrain.shape.converting
  unfold State.offered
  refine ⟨?_, ?_, ?_⟩
  · refine (hbusy.of_busy s.drain.groups_converterTake fun _ h => h.converterTake hnone).of_busy (by simp) fun _ h => h.offerHeld htake.shape
  · exact State.offerHeld_idle ((State.isRunning_of_fixed s.drain.fixed_converterTake).trans hrun') hidle
  · generalize s.drain.converterTake = w at htake
    intro hholding
    by_cases hno : w.converter.state ≠ .holding ∨ w.converter.held = none ∨ 4 ≤ w.writer.queue.length
    · rw [State.offerHeld_of_not hno] at hholding ⊢
      have hsome := htake.shape.holding.1 hholding
      exact (hno.resolve_left fun h => h hholding).resolve_left fun h => by rw [h] at hsome; cases hsome
    · simp only [not_or, not_not, Nat.not_le] at hno
      obtain ⟨hstate, hheld, hroom⟩ := hno
      obtain ⟨r, hr⟩ := Option.ne_none_iff_exists'.1 hheld
      rw [State.offerHeld_of_held hstate hr hroom] at hholding
      exact absurd (State.converterTake_holding hholding) nofun

/-- A round leaves nothing to do, or leaves the writer at work, or drops one of the results that wait (R104, R105). -/
theorem State.pumpOnce_still (hs : s.Sound) (hrun : s.isRunning = true) :
    s.pumpOnce.Still
      ∨ s.pumpOnce.writer.job ≠ none
      ∨ s.pumpOnce.waitingResults < s.waitingResults := by
  obtain ⟨hbusy, hidle, hholding⟩ := State.offered_still hs hrun
  have hsound := (consequences_offered s).preserves.sound hs
  have horder := ((consequences_offered s).writerPath hs.slots).order.length_le
  rw [State.pumpOnce]
  unfold State.offered at *
  generalize s.drain.converterTake.offerHeld = v at *
  rcases v.chooseJob_cases with ⟨h, hwhy⟩ | ⟨r, rest, hj, -, hq, h⟩ | ⟨first, rest, hj, -, hf, h⟩
  · left
    rw [h]
    exact ⟨⟨hidle, hholding, fun hj => hwhy.resolve_left fun hn => hn hj⟩, hbusy⟩
  · cases hdrop : v.dropsResult r with
    | false => exact .inr (.inl (by rw [h, hdrop]; nofun))
    | true =>
      right; right
      have hlen : v.waitingResults = v.chooseJob.waitingResults + 1 := by
        rw [h, State.waitingResults, State.waitingResults, hq, List.cons_append, List.length_cons]
      have hle : v.waitingResults ≤ s.waitingResults := horder
      omega
  · obtain ⟨-, e, he, hslot, -⟩ := hsound.owner.fill.2 first (hf ▸ List.mem_cons_self)
    have hentry := State.entry?_of_mem (hsound.slots _) he
    rw [Entry.ref_of_slot hslot] at hentry
    exact .inr (.inl (by rw [h, hentry]; nofun))

/-- A round of a writer at work leaves nothing to do. -/
theorem State.pumpOnce_still_of_job (hs : s.Sound) (hrun : s.isRunning = true) (hj : s.writer.job ≠ none) : s.pumpOnce.Still := by
  have hjob : s.offered.writer.job ≠ none := by
    obtain ⟨j, hj⟩ := Option.ne_none_iff_exists'.1 hj
    rw [((consequences_offered s).writerPath hs.slots).job j hj]
    nofun
  obtain ⟨hbusy, hidle, hholding⟩ := State.offered_still hs hrun
  rw [State.pumpOnce, State.chooseJob_of_job hjob]
  exact ⟨⟨hidle, hholding, fun h => absurd h hjob⟩, hbusy⟩

/-- Two rounds after the results that can be dropped, nothing is left to do. -/
theorem State.pumpRounds_still (n : Nat) : ∀ {s : State}, s.Sound → s.isRunning = true → s.waitingResults + 2 ≤ n →
    (State.pumpRounds n s).Still := by
  have hfixed : ∀ (n : Nat) {t : State}, (∀ m, (t.group m).SlotsDistinct) → t.Still → (State.pumpRounds n t).Still :=
    fun n t hd h => by rw [State.pumpRounds_of_fixed (State.pumpOnce_of_quiet hd h.quiet h.draining)]; exact h
  induction n with
  | zero => exact fun _ _ h => absurd h (Nat.not_succ_le_zero _)
  | succ n ih =>
    intro s hs hrun hn
    have hsound := (consequences_pumpOnce s).preserves.sound hs
    have hrun' : s.pumpOnce.isRunning = true := (State.isRunning_of_fixed s.fixed_pumpOnce).trans hrun
    rw [State.pumpRounds]
    rcases State.pumpOnce_still hs hrun with h | hj | hless
    · exact hfixed n hsound.slots h
    · obtain ⟨k, rfl⟩ : ∃ k, n = k + 1 := ⟨n - 1, by omega⟩
      rw [State.pumpRounds]
      exact hfixed k ((consequences_pumpOnce _).preserves.sound hsound).slots (State.pumpOnce_still_of_job hsound hrun' hj)
    · exact ih hsound hrun' (by omega)

/-! ## The pump -/

theorem preserves_finishStops (s : State) : s.Preserves s.finishStops := by
  have hgroup := s.finishStops_group
  have heq := s.finishStops_eq
  generalize s.finishStops = t at hgroup heq
  exact preserves_of_carries (fun m => hgroup m ▸ Group.carries_finishStop _) (by rw [heq]) (by rw [heq]) (by rw [heq])

/-- The consequences of a happening keep all work with its records. -/
theorem preserves_pump (s : State) : s.Preserves s.pump := by
  cases hrun : s.isRunning with
  | false => rw [State.pump_of_not_running hrun]; exact .refl s
  | true =>
    rw [State.pump_of_running hrun]
    exact (consequences_pumpRounds 8 s).preserves.trans (preserves_finishStops _)

/-- After the pump no consequence is left undone. -/
theorem done_pump (hs : s.Sound) (hrun : s.isRunning = true) (hbound : s.writer.queue.length ≤ 4) : s.pump.Done := by
  have hheld : s.converter.held.toList.length ≤ 1 := by cases s.converter.held <;> simp
  have hstill := State.pumpRounds_still 8 hs hrun (by rw [State.waitingResults, List.length_append]; omega)
  rw [State.pump_of_running hrun]
  generalize State.pumpRounds 8 s = p at hstill
  have hgroup := p.finishStops_group
  have heq := p.finishStops_eq
  generalize p.finishStops = q at hgroup heq ⊢
  have hbusy : ∀ r, p.Busy r → q.Busy r := fun r h => by rw [heq]; exact h
  have hquiet : q.Quiet := by
    rw [heq]
    exact ⟨hstill.quiet.idle, hstill.quiet.holding, hstill.quiet.free⟩
  refine ⟨hquiet, fun m e he hst => hbusy _ (hstill.draining m e ?_ hst), fun m hst => ?_⟩
  · rwa [hgroup, finishStop_window] at he
  · rw [hgroup] at hst ⊢
    by_contra hall
    have hstop : (p.group m).state = .stopping := by
      rcases Group.finishStop_cases (p.group m) with h | ⟨-, -, h⟩
      · rwa [h] at hst
      · rw [h] at hst
        cases hst
    rw [Group.allRetiring, finishStop_window, Bool.not_eq_false] at hall
    rw [Group.finishStop, if_pos (by rw [hstop, Group.allRetiring, hall]; rfl)] at hst
    cases hst

end Rounds

end Sys2Proof.Machine
end

section
/-! PROOF. The removal of a group's capture work, and what ends a group by it: a fault, a trip, an abort; and the stops that
leave the work (R33, R36 to R42, R95, R96, R111, R121). -/

namespace Sys2Proof.Machine

section Removal

variable {s t : State} {g m : GroupId} {e : Entry} {x : Group}

/-! ## The removal -/

theorem Converter.Shape.removeGroup {c : Converter} (h : c.Shape) (g : GroupId) : (c.removeGroup g).Shape := by
  obtain ⟨hconv, hhold, hrest⟩ := h
  unfold Converter.removeGroup
  split
  · next r hst hcurrent =>
    have hheld : c.held = none := by simpa [hst] using hhold
    split
    · exact ⟨by simp, by simp [hheld], fun _ => ⟨rfl, rfl, rfl⟩⟩
    · exact ⟨hconv, hhold, hrest⟩
  · next r hst hheld =>
    have hcurrent : c.current = none := by simpa [hst] using hconv
    split
    · exact ⟨by simp [hcurrent], by simp, fun _ => hrest (by simp [hst])⟩
    · exact ⟨hconv, hhold, hrest⟩
  · exact ⟨hconv, hhold, hrest⟩

theorem Converter.current_removeGroup {c : Converter} (h : c.Shape) {q : Request} (hq : (c.removeGroup g).current = some q) :
    c.current = some q ∧ q.group ≠ g := by
  unfold Converter.removeGroup at hq
  split at hq
  · next r hst hcurrent =>
    split at hq
    · cases hq
    · next hne =>
      obtain rfl : r = q := Option.some.inj (hcurrent.symm.trans hq)
      exact ⟨hq, by simpa using hne⟩
  · next r hst hheld =>
    have hcurrent : c.current = none := by simpa [hst] using h.converting
    split at hq <;> rw [hcurrent] at hq <;> cases hq
  · next hno _ =>
    exact absurd hq (hno q (h.converting.2 (by rw [hq]; rfl)))

theorem Converter.held_removeGroup {c : Converter} (h : c.Shape) {r : ConvResult} (hr : (c.removeGroup g).held = some r) :
    c.held = some r ∧ r.group ≠ g := by
  unfold Converter.removeGroup at hr
  split at hr
  · next q hst hcurrent =>
    have hheld : c.held = none := by simpa [hst] using h.holding
    split at hr <;> rw [hheld] at hr <;> cases hr
  · next r' hst hheld =>
    split at hr
    · cases hr
    · next hne =>
      obtain rfl : r' = r := Option.some.inj (hheld.symm.trans hr)
      exact ⟨hr, by simpa using hne⟩
  · next hno =>
    exact absurd hr (hno r (h.holding.2 (by rw [hr]; rfl)))

theorem ResultWriter.job_removeGroup {w : ResultWriter} {j : Job} (hj : (w.removeGroup g).job = some j) :
    w.job = some j ∧ j.ref.group ≠ g := by
  unfold ResultWriter.removeGroup at hj
  dsimp only at hj
  split at hj
  · next j' hjob =>
    split at hj
    · cases hj
    · next hne =>
      obtain rfl := Option.some.inj hj
      exact ⟨hjob, by simpa using hne⟩
  · cases hj

theorem State.removeWork_group (s : State) (g m : GroupId) (ending : SegStatus) :
    (s.removeWork g ending).group m = if m = g then (s.group g).removed s g ending else s.group m :=
  (State.group_modGroup s g m (Group.removed s g ending)).trans (by split <;> simp_all)

/-- A removal leaves work of other groups alone (R95, R111). -/
theorem State.sheds_removeWork (hs : s.Sound) (g : GroupId) (ending : SegStatus) : s.Sheds (s.removeWork g ending) where
  requests _ h := (List.mem_filter.1 h).1
  current _ h := (Converter.current_removeGroup hs.shape h).1
  held _ h := (Converter.held_removeGroup hs.shape h).1
  results _ h := (List.mem_filter.1 h).1
  fill := List.filter_sublist
  job _ h := (ResultWriter.job_removeGroup h).1

theorem State.not_busy_removeWork (hs : s.Sound) (ending : SegStatus) {ref : EntryRef} (hb : (s.removeWork g ending).Busy ref) :
    ref.group ≠ g := by
  rw [State.Busy, State.inHand_iff, State.inFill_iff] at hb
  rcases hb with (⟨q, hq, rfl⟩ | ⟨q, hq, rfl⟩ | ⟨r, hr, rfl⟩ | ⟨r, hr, rfl⟩ | ⟨j, hj, rfl⟩) | hf
  · exact bne_iff_ne.1 (List.mem_filter.1 hq).2
  · exact (Converter.current_removeGroup hs.shape hq).2
  · exact (Converter.held_removeGroup hs.shape hr).2
  · exact bne_iff_ne.1 (List.mem_filter.1 hr).2
  · exact (ResultWriter.job_removeGroup hj).2
  · simpa using (List.mem_filter.1 hf).2

/-- An entry under a removal keeps its counts (R95). -/
theorem State.retiredByRemoval_counts (s : State) (g : GroupId) (ending : SegStatus) (e : Entry) :
    s.retiredByRemoval g ending e = { e with
      st := (s.retiredByRemoval g ending e).st
      status := (s.retiredByRemoval g ending e).status
      flags := (s.retiredByRemoval g ending e).flags } := by
  unfold State.retiredByRemoval
  split <;> rfl

theorem removed_idle (s : State) (g : GroupId) (ending : SegStatus) (x : Group) :
    ∀ e ∈ (x.removed s g ending).window, e.st ≠ .active := by
  intro f hf
  obtain ⟨e, -, rfl⟩ := List.mem_map.1 hf
  rw [State.retiredByRemoval_st]
  split
  · nofun
  · next h => exact fun ha => h (.inl ha)

/-- A removal keeps the work of the other groups with its records. -/
theorem preserves_removeWork (s : State) (g : GroupId) (ending : SegStatus) : s.Preserves (s.removeWork g ending) := by
  have hgroup := fun m => s.removeWork_group g m ending
  have hother : ∀ {m}, m ≠ g → (s.removeWork g ending).group m = s.group m := fun hm => by rw [hgroup, if_neg hm]
  have hsame : (s.removeWork g ending).group g = (s.group g).removed s g ending := by rw [hgroup, if_pos rfl]
  refine ⟨fun hs => ⟨fun m => ?_, hs.shape.removeGroup g, hs.bus, ?_⟩, fun hs K hK => ?_⟩
  · by_cases hm : m = g
    · subst hm
      rw [hsame, Group.SlotsDistinct, Group.removed, List.map_map]
      exact (List.map_congr_left fun e _ => s.retiredByRemoval_slot m ending e) ▸ hs.slots m
    · rw [hother hm]; exact hs.slots m
  · refine hs.owner.of_sheds (State.sheds_removeWork hs g ending) (fun m e he _ hb => ?_) fun w hw => ?_
    · have hm : m ≠ g := State.not_busy_removeWork hs ending hb
      exact ⟨e, (hother hm).symm ▸ he, .refl e, fun _ => rfl⟩
    · obtain ⟨e, he, hslot, hst⟩ := hs.owner.onBus w hw
      by_cases hm : w.ref.group = g
      · obtain ⟨d, hd, hdslot, hdst⟩ : ∃ d ∈ (s.group w.ref.group).window, d.slot = w.ref.slot
            ∧ (s.retiredByRemoval g ending d).st = .retiring := by
          rcases hst with hst | hst
          · exact ⟨e, he, hslot, by rw [State.retiredByRemoval_st, hst]; rfl⟩
          · obtain ⟨j, hj, href⟩ := State.hasJob_iff.1 hst
            obtain ⟨d, hd, hdslot, hdst⟩ := hs.owner.job_runs hj
            rw [href] at hd hdslot
            exact ⟨d, hd, hdslot, by rw [State.retiredByRemoval_st, if_pos hdst]⟩
        refine ⟨s.retiredByRemoval g ending d, ?_, (s.retiredByRemoval_slot g ending d).trans hdslot, .inl hdst⟩
        rw [hm, hsame]
        exact List.mem_map_of_mem (hm ▸ hd)
      · refine ⟨e, (hother hm).symm ▸ he, hslot, hst.imp_right fun h => ?_⟩
        obtain ⟨j, hj, href⟩ := State.hasJob_iff.1 h
        refine State.hasJob_iff.2 ⟨j, ?_, href⟩
        show (match s.writer.job with | some j => if j.ref.group == g then none else some j | none => none) = some j
        rw [hj]
        exact if_neg (by simpa [href] using hm)
  · refine hK.of_origin hs.slots (fun m f hf => ?_) rfl (fun _ h => (ResultWriter.job_removeGroup h).1) fun m f hf => ?_
    · by_cases hm : m = g
      · subst hm
        have hno := removed_idle s m ending (s.group m) f (hsame ▸ hf)
        rw [hsame] at hf
        obtain ⟨e, he, rfl⟩ := List.mem_map.1 hf
        obtain ⟨htrig, hnext, -, hwait⟩ := hK.counts m e he
        rw [s.retiredByRemoval_counts] at hno ⊢
        refine ⟨htrig, hnext, fun ha => absurd ha hno, fun hw => hwait ?_⟩
        have hst := s.retiredByRemoval_st m ending e
        rw [Entry.isWaiting, hst] at hw
        split at hw
        · cases hw
        · exact hw
      · have hlaw := hK.counts m f (hother hm ▸ hf)
        rw [hother hm]
        exact hlaw
    · by_cases hm : m = g
      · subst hm
        rw [hsame] at hf
        obtain ⟨e, he, rfl⟩ := List.mem_map.1 hf
        rw [s.retiredByRemoval_counts]
        exact ⟨e, he, rfl, rfl, Nat.le_refl _⟩
      · exact ⟨f, hother hm ▸ hf, rfl, rfl, Nat.le_refl _⟩

/-! ## Sets that are broken -/

theorem Group.carries_cancelRetire (x : Group) : x.Carries x.cancelFetch.retireWaiting :=
  x.carries_cancelFetch.trans (Group.carries_retireWaiting _)

theorem Group.carries_breakOut (leaves : Bool) (x : Group) : x.Carries (x.breakOut leaves) := by
  unfold Group.breakOut
  split
  · exact x.carries_cancelRetire.trans (.of_window rfl (.inl ⟨rfl, rfl, rfl⟩))
  · exact x.carries_notify _

theorem preserves_breakSet (s : State) (g : GroupId) : s.Preserves (s.breakSet g) := by
  refine preserves_of_carries (fun m => ?_) (s.breakSet_captureQueue g) (s.breakSet_converter g).1 (s.breakSet_writer g)
  rw [State.breakSet_group]
  split
  · exact Group.carries_breakOut _ _
  · exact .refl _

/-! ## What ends a group -/

theorem retireWaiting_idle (h : ∀ e ∈ x.window, e.st ≠ .active) : ∀ e ∈ x.retireWaiting.window, e.st ≠ .active :=
  Group.no_active_of_count (retireWaiting_no_active (Group.activeCount_eq_zero_iff.2 h))

theorem cancelFetch_idle (h : ∀ e ∈ x.window, e.st ≠ .active) : ∀ e ∈ x.cancelFetch.window, e.st ≠ .active := by
  rw [x.window_cancelFetch]
  exact fun e he => h e (mem_unfetched.1 he).1

/-- A group whose work has been removed is cleared out (R33, R40, R122). -/
theorem Group.carries_clearOut (h : ∀ e ∈ x.window, e.st ≠ .active) : x.Carries x.clearOut := by
  have hidle := retireWaiting_idle (cancelFetch_idle h)
  exact x.carries_cancelRetire.trans ((Group.carries_holdCounter hidle).trans (.of_window rfl (.inl ⟨rfl, rfl, rfl⟩)))

theorem preserves_clearOut (s : State) (g : GroupId) (ending : SegStatus) {φ : Group → Group}
    (hφ : ∀ x : Group, x.clearOut.Carries (φ x)) : s.Preserves ((s.removeWork g ending).modGroup g φ) := by
  refine (preserves_removeWork s g ending).trans (preserves_modGroup ?_)
  rw [State.removeWork_group, if_pos rfl]
  exact (Group.carries_clearOut (removed_idle s g ending _)).trans (hφ _)

theorem Group.carries_clearOut_to (state : GroupState) (notices : NoticeSet) (x : Group) :
    x.clearOut.Carries { x.clearOut with state := state, notices := notices } := .of_window rfl (.inl ⟨rfl, rfl, rfl⟩)

theorem preserves_faultGroup (s : State) (g : GroupId) : s.Preserves (s.faultGroup g) := by
  have hclear := preserves_clearOut s g .aborted (φ := fun x => { x.clearOut with state := .faulted }.notify .faulted)
    fun x => Group.carries_clearOut_to _ _ x
  rw [State.faultGroup_eq]
  split
  · exact hclear.trans (preserves_breakSet _ g)
  · exact hclear

theorem preserves_tripGroup (s : State) (g : GroupId) : s.Preserves (s.tripGroup g) := by
  have hclear := preserves_clearOut s g .tripped (φ := fun x => { x.clearOut with state := .tripped }.notify .tripped)
    fun x => Group.carries_clearOut_to _ _ x
  unfold State.tripGroup
  split
  · exact .refl s
  · exact .refl s
  · exact preserves_modGroup (.of_window rfl (.inl ⟨rfl, rfl, rfl⟩))
  · exact preserves_modGroup (.of_window rfl (.inl ⟨rfl, rfl, rfl⟩))
  · exact hclear.trans (preserves_breakSet _ g)
  · exact hclear
  · exact hclear
  · exact hclear

theorem preserves_abortGroup (s : State) (g : GroupId) : s.Preserves (s.abortGroup g) := by
  have hclear := preserves_clearOut s g .aborted
    (φ := fun x => { x.clearOut with state := (s.group g).state.aborted, notices := abortNotices (s.group g).state x.notices })
    fun x => Group.carries_clearOut_to _ _ x
  rw [State.abortGroup_eq]
  split
  · exact hclear.trans (preserves_breakSet _ g)
  · exact hclear

/-! ## Stops -/

theorem Group.carries_state (state : GroupState) (stop : PendingStop) (x : Group) :
    x.Carries { x with state := state, pendingStop := stop } := .of_window rfl (.inl ⟨rfl, rfl, rfl⟩)

theorem Group.carries_stopRunning (mode : StopMode) (x : Group) : x.Carries (x.stopRunning mode) := by
  cases mode with
  | periodEnd => exact x.carries_cancelFetch.trans (Group.carries_state .stopping .periodEnd _)
  | segmentEnd => exact x.carries_cancelFetch.trans (Group.carries_state .stopping .segmentEnd _)
  | now =>
    have hidle := retireWaiting_idle (endActive_idle .cut x.cancelFetch)
    exact x.carries_cancelFetch.trans ((Group.carries_endActive _ .cut).trans ((Group.carries_retireWaiting _).trans
      ((Group.carries_holdCounter hidle).trans (Group.carries_state .stopping .noStop _))))

theorem preserves_stopGroup (s : State) (g : GroupId) (mode : StopMode) : s.Preserves (s.stopGroup g mode) := by
  have hleave : ∀ state : GroupState, (s.group g).Carries { (s.group g).cancelFetch.retireWaiting with state := state } :=
    fun _ => (Group.carries_cancelRetire _).trans (.of_window rfl (.inl ⟨rfl, rfl, rfl⟩))
  unfold State.stopGroup
  split
  · exact preserves_modGroup (Group.carries_stopRunning mode _)
  · exact preserves_modGroup (hleave .stopping)
  · exact (preserves_modGroup ((hleave .stopped).trans (Group.carries_notify _ .stopped))).trans (preserves_breakSet _ g)
  · exact .refl s

end Removal

end Sys2Proof.Machine
end

section
/-! PROOF. The triggers of a tick: each joins the capture queue with a position of its ACTIVE record, and the counts stay
below the positions reached (R82 to R88). -/

namespace Sys2Proof.Machine

section Positions

variable {x y : Group} {e f : Entry} {j k : Nat}

/-! ## The positions that are reached -/

/-- Of two sets of points the larger has as many or more. -/
theorem length_filter_le {p q : Nat → Bool} (h : ∀ j, p j = true → q j = true) (l : List Nat) :
    (l.filter p).length ≤ (l.filter q).length := (List.monotone_filter_right l h).length_le

theorem length_filter_lt {p q : Nat → Bool} (h : ∀ j, p j = true → q j = true) {l : List Nat} (hj : j ∈ l) (hp : p j = false)
    (hq : q j = true) : (l.filter p).length < (l.filter q).length := by
  refine lt_of_le_of_ne (length_filter_le h l) fun heq => ?_
  have hmem : j ∈ l.filter p := (List.monotone_filter_right l h).eq_of_length heq ▸ List.mem_filter.2 ⟨hj, hq⟩
  rw [(List.mem_filter.1 hmem).2] at hp
  cases hp

theorem Group.positionsPassed_mono (h : j ≤ k) (x : Group) (e : Entry) : x.positionsPassed j e ≤ x.positionsPassed k e := by
  refine Nat.add_le_add_left (length_filter_le (fun i hi => ?_) _) _
  simp only [Bool.and_eq_true, Bool.or_eq_true, decide_eq_true_eq] at hi ⊢
  exact ⟨hi.1, hi.2.imp_left fun hlt => Nat.lt_of_lt_of_le hlt h⟩

/-- A capture point is on the falling slope of a CENTRE period. -/
abbrev fallingPoint (c : Slot64) (j : Nat) : Prop := (Seg.pointSlope c j == 1) = true

theorem Group.reached_iff {c : Slot64} : x.reached c j = true ↔
    (x.mode = .edge ∧ Seg.pointValue c j ≤ x.counter)
      ∨ (x.mode = .centre ∧ ¬fallingPoint c j ∧ (x.slope = .down ∨ Seg.pointValue c j ≤ x.counter))
      ∨ (x.mode = .centre ∧ fallingPoint c j ∧ x.slope = .down ∧ x.counter ≤ Seg.pointValue c j) := by
  unfold Group.reached fallingPoint
  cases x.mode <;> cases Seg.pointSlope c j == 1 <;> simp

theorem Group.meets_of_triggers {c : Slot64} (h : x.pointTriggers c j = true) :
    Seg.pointValue c j = x.counter ∧ (x.mode = .edge ∨ (fallingPoint c j ↔ x.slope = .down)) := by
  simp only [Group.pointTriggers, Bool.and_eq_true, beq_iff_eq, Bool.or_eq_true] at h
  obtain ⟨⟨-, hvalue⟩, hslope⟩ := h
  refine ⟨hvalue, hslope.imp_right fun h => ?_⟩
  rw [fallingPoint, h, beq_iff_eq]

/-- A point that triggers is reached (R82). -/
theorem Group.reached_of_triggers {c : Slot64} (h : x.pointTriggers c j = true) : x.reached c j = true := by
  obtain ⟨hvalue, hslope⟩ := Group.meets_of_triggers h
  rw [Group.reached_iff]
  cases hm : x.mode with
  | edge => exact .inl ⟨rfl, hvalue.le⟩
  | centre =>
    rw [hm] at hslope
    have hslope := hslope.resolve_left nofun
    by_cases hp : fallingPoint c j
    · exact .inr (.inr ⟨rfl, hp, hslope.1 hp, hvalue.ge⟩)
    · exact .inr (.inl ⟨rfl, hp, .inr hvalue.le⟩)

/-- The point that is judged counts once it has triggered (R83). -/
theorem Group.positionsPassed_triggered (h : x.pointTriggers e.copy j = true) (hj : j < 4)
    (hpos : e.periodsRun * Seg.pointCount e.copy + j < Seg.capacity e.copy) :
    x.positionsPassed j e + 1 ≤ x.positionsPassed (j + 1) e := by
  have hcount : j < Seg.pointCount e.copy := by
    simp only [Group.pointTriggers, Bool.and_eq_true, decide_eq_true_eq] at h
    exact h.1.1.2
  unfold Group.positionsPassed
  rw [Nat.add_assoc]
  refine Nat.add_le_add_left (length_filter_lt (j := j) (fun i hi => ?_) (List.mem_range.2 hj) ?_ ?_) _
  · simp only [Bool.and_eq_true, Bool.or_eq_true, decide_eq_true_eq] at hi ⊢
    exact ⟨hi.1, hi.2.imp_left Nat.lt_succ_of_lt⟩
  · simp [h]
  · simp [hcount, Group.reached_of_triggers h, hpos]

/-- What is passed in a period lies below the positions of the periods that are over at its end (R83). -/
theorem Group.positionsPassed_le (k : Nat) (x : Group) (e : Entry) : x.positionsPassed k e
    ≤ min ((e.periodsRun + 1) * Seg.pointCount e.copy) (Seg.capacity e.copy) := by
  have hle : x.positionsPassed k e ≤ min (e.periodsRun * Seg.pointCount e.copy) (Seg.capacity e.copy)
      + ((List.range 4).filter fun j => decide (j < Seg.pointCount e.copy)
        && decide (e.periodsRun * Seg.pointCount e.copy + j < Seg.capacity e.copy)).length := by
    refine Nat.add_le_add_left (length_filter_le (fun i hi => ?_) _) _
    simp only [Bool.and_eq_true] at hi ⊢
    exact ⟨hi.1.1.1, hi.1.2⟩
  refine hle.trans ?_
  rw [Nat.add_mul, Nat.one_mul]
  generalize e.periodsRun * Seg.pointCount e.copy = past
  generalize Seg.pointCount e.copy = points
  generalize Seg.capacity e.copy = capacity
  have hfilter : ((List.range 4).filter fun j => decide (j < points) && decide (past + j < capacity)).length
      ≤ min points (capacity - past) := by
    have hsub : (List.range 4).filter (fun j => decide (j < points) && decide (past + j < capacity))
        ⊆ List.range (min points (capacity - past)) := fun j hj => by
      have := (List.mem_filter.1 hj).2
      simp only [Bool.and_eq_true, decide_eq_true_eq] at this
      exact List.mem_range.2 (by omega)
    have hnodup := (List.nodup_range (n := 4)).filter fun j => decide (j < points) && decide (past + j < capacity)
    simpa using (hnodup.subperm hsub).length_le
  omega

/-- A record's positions never exceed its capacity (R83). -/
theorem Group.positionsPassed_le_capacity (k : Nat) (x : Group) (e : Entry) : x.positionsPassed k e ≤ Seg.capacity e.copy :=
  (x.positionsPassed_le k e).trans (Nat.min_le_right _ _)

/-! ### The counter -/

theorem Group.stepCounter_cases (P : Nat) (x : Group) :
    (x.mode = .edge ∧ x.stepCounter P = { x with counter := x.counter + 1 })
      ∨ (x.mode = .centre ∧ x.slope = .up ∧ x.stepCounter P = { x with counter := x.counter + 1 })
      ∨ (x.mode = .centre ∧ x.slope = .up ∧ x.stepCounter P = { x with slope := .down })
      ∨ (x.mode = .centre ∧ x.slope = .down ∧ x.stepCounter P = { x with counter := x.counter - 1 }) := by
  unfold Group.stepCounter
  split
  · next hm => exact .inl ⟨hm, rfl⟩
  · next hm hs =>
    split
    · exact .inr (.inl ⟨hm, hs, rfl⟩)
    · exact .inr (.inr (.inl ⟨hm, hs, rfl⟩))
  · next hm hs => exact .inr (.inr (.inr ⟨hm, hs, rfl⟩))

/-- The counter moves past each point once in a period (R48, R49, R82): what has been reached stays so, and does not
trigger again. -/
theorem Group.reached_stepCounter {P : Nat} (hend : x.atEnd P = false) {c : Slot64} (h : x.reached c j = true) :
    (x.stepCounter P).reached c j = true ∧ (x.stepCounter P).pointTriggers c j = false := by
  have hno : ∀ {y : Group}, ¬(Seg.pointValue c j = y.counter ∧ (y.mode = .edge ∨ (fallingPoint c j ↔ y.slope = .down))) →
      y.pointTriggers c j = false := fun hn => by
    by_contra ht
    exact hn (Group.meets_of_triggers (by simpa using ht))
  rw [Group.reached_iff] at h
  rcases x.stepCounter_cases P with ⟨hm, hx⟩ | ⟨hm, hs, hx⟩ | ⟨hm, hs, hx⟩ | ⟨hm, hs, hx⟩
  · rw [hx, Group.reached_iff]
    simp only [hm, reduceCtorEq, true_and, false_and, or_false] at h
    exact ⟨.inl ⟨hm, Nat.le_succ_of_le h⟩, hno (by simp only; omega)⟩
  all_goals
    rw [hx, Group.reached_iff]
    simp only [hm, hs, reduceCtorEq, true_and, false_and, false_or, or_false, and_false, true_or, and_true] at h
  · exact ⟨.inr (.inl ⟨hm, h.1, .inr (Nat.le_succ_of_le h.2)⟩), hno (by simp only; omega)⟩
  · exact ⟨.inr (.inl ⟨hm, h.1, .inl rfl⟩), hno (by simp [hm, h.1])⟩
  · have hpos : x.counter ≠ 0 := by simpa [Group.atEnd, hm, hs] using hend
    rcases h with h | ⟨hp, hle⟩
    · exact ⟨.inr (.inl ⟨hm, h, .inl hs⟩), hno (by simp [hm, hs, h])⟩
    · exact ⟨.inr (.inr ⟨hm, hp, hs, Nat.le_trans (Nat.sub_le _ _) hle⟩), hno (by simp only; omega)⟩

theorem Group.positionsPassed_stepCounter {P : Nat} (hend : x.atEnd P = false) (e : Entry) :
    x.positionsPassed 4 e ≤ (x.stepCounter P).positionsPassed 0 e := by
  refine Nat.add_le_add_left (length_filter_le (fun i hi => ?_) _) _
  simp only [Bool.and_eq_true] at hi ⊢
  obtain ⟨⟨⟨hi, hreached⟩, hpos⟩, -⟩ := hi
  obtain ⟨hreached, hno⟩ := Group.reached_stepCounter hend hreached
  exact ⟨⟨⟨hi, hreached⟩, hpos⟩, by simp [hno]⟩

end Positions

end Sys2Proof.Machine
end

section
/-! PROOF. The triggers of a tick keep all capture work with its records and the counts within the positions reached, and
leave no consequence undone (R82 to R88, R91). -/

namespace Sys2Proof.Machine

section Triggers

variable {s t u v : State} {g m : GroupId} {e f : Entry} {ref : EntryRef} {j k : Nat} {K : GroupId → Nat} {r : Request}

/-! ## The changes of one entry -/

theorem State.mem_modEntry {φ : Entry → Entry} (hf : f ∈ ((s.modEntry ref φ).group m).window) :
    ∃ e ∈ (s.group m).window, f = if e.ref m = ref then φ e else e := by
  rw [State.modEntry, State.group_modGroup] at hf
  split at hf
  · next hm =>
    subst hm
    obtain ⟨e, he, rfl⟩ := List.mem_map.1 hf
    refine ⟨e, he, ?_⟩
    by_cases hslot : e.slot = ref.slot
    · rw [if_pos (by simpa using hslot), if_pos (Entry.ref_of_slot hslot)]
    · rw [if_neg (by simpa using hslot), if_neg fun h => hslot (Entry.ref_eq_iff.1 h).2]
  · next hm => exact ⟨f, hf, (if_neg fun h => hm (Entry.ref_eq_iff.1 h).1).symm⟩

theorem State.modEntry_mem {φ : Entry → Entry} (he : e ∈ (s.group m).window) :
    (if e.ref m = ref then φ e else e) ∈ ((s.modEntry ref φ).group m).window := by
  rw [State.modEntry, State.group_modGroup]
  split
  · next hm =>
    subst hm
    refine List.mem_map.2 ⟨e, he, ?_⟩
    by_cases hslot : e.slot = ref.slot
    · rw [if_pos (by simpa using hslot), if_pos (Entry.ref_of_slot hslot)]
    · rw [if_neg (by simpa using hslot), if_neg fun h => hslot (Entry.ref_eq_iff.1 h).2]
  · next hm => rwa [if_neg fun h => hm (Entry.ref_eq_iff.1 h).1]

theorem State.modEntry_slots {φ : Entry → Entry} (hd : ∀ m, (s.group m).SlotsDistinct) (hφ : ∀ e, (φ e).slot = e.slot)
    (m : GroupId) : ((s.modEntry ref φ).group m).SlotsDistinct := by
  rw [State.modEntry, State.group_modGroup]
  split
  · rw [Group.SlotsDistinct, Group.modSlot, List.map_map]
    convert hd m using 2
    funext e
    rw [Function.comp_apply]
    split
    · exact hφ e
    · rfl
  · exact hd m

/-- A change of a record's counts keeps its work, where the record is not listed for a fill. -/
theorem sound_modEntry {φ : Entry → Entry} (hs : s.Sound) (hφ : ∀ e : Entry, (φ e).slot = e.slot)
    (hlasts : ∀ e ∈ (s.group ref.group).window, e.slot = ref.slot → e.Lasts (φ e)) (hfill : s.inFill ref = false) :
    (s.modEntry ref φ).Sound := by
  have hlast : ∀ m, ∀ e ∈ (s.group m).window, e.Lasts (if e.ref m = ref then φ e else e) := by
    intro m e he
    split
    · next href =>
      obtain ⟨rfl, hslot⟩ := Entry.ref_eq_iff.1 href
      exact hlasts e he hslot
    · exact .refl e
  have hl : s.Lasting (s.modEntry ref φ) := by
    refine fun m e he _ _ => ⟨_, State.modEntry_mem he, hlast m e he, fun h => ?_⟩
    rw [if_neg]
    intro href
    rw [href, hfill] at h
    cases h
  refine ⟨State.modEntry_slots hs.slots hφ, hs.shape, hs.bus, ?_⟩
  exact hs.owner.of_sheds (State.sheds_of_same rfl rfl rfl rfl rfl rfl) hl
    (.of_lasting hs.owner rfl (fun _ h => h) hl fun m e he _ _ => ⟨_, State.modEntry_mem he, hlast m e he⟩)

/-- An entry whose counts change under a law of its own. -/
theorem counted_modEntry {φ : Entry → Entry} {K' : GroupId → Nat} (hs : s.Sound) (hK : s.Counted K)
    (hφ : ∀ e : Entry, (φ e).slot = e.slot ∧ (φ e).nextPos = e.nextPos ∧ (φ e).wordsWritten = e.wordsWritten)
    (hcounts : ∀ m, ((s.modEntry ref φ).group m).CountLaw (K' m)) : (s.modEntry ref φ).Counted K' := by
  refine hK.of_origin hs.slots hcounts rfl (fun _ h => h) fun m f hf => ?_
  obtain ⟨e, he, rfl⟩ := State.mem_modEntry hf
  obtain ⟨hslot, hnext, hwords⟩ := hφ e
  split
  · exact ⟨e, he, hslot, hnext, hwords.le⟩
  · exact ⟨e, he, rfl, rfl, Nat.le_refl _⟩

theorem preserves_modEntry {φ : Entry → Entry} (hφ : ∀ e : Entry, e.Moves (φ e)) : s.Preserves (s.modEntry ref φ) :=
  preserves_modGroup (Group.carries_modSlot _ _ hφ)

/-! ## The offer of a request -/

/-- A request of a record that runs and has room joins the queue (R87, R88). -/
theorem sound_append (hs : s.Sound) (hr : s.serves r.ref r.position) (hfill : s.inFill r.ref = false) :
    { s with captureQueue := s.captureQueue ++ [r] }.Sound := by
  refine ⟨hs.slots, hs.shape, hs.bus, { hs.owner with requests := fun q hq => ?_, fill := ⟨hs.owner.fill.1, fun ref href => ?_⟩ }⟩
  · rcases List.mem_append.1 hq with hq | hq
    · exact hs.owner.requests q hq
    · exact List.mem_singleton.1 hq ▸ hr
  · refine ⟨?_, (hs.owner.fill.2 ref href).2⟩
    by_contra hb
    rw [Bool.not_eq_false, State.inHand_iff] at hb
    have hno : ¬s.inHand ref = true := by rw [(hs.owner.fill.2 ref href).1]; nofun
    rcases hb with ⟨q, hq, hqr⟩ | hb
    · rcases List.mem_append.1 hq with hq | hq
      · exact hno (State.inHand_iff.2 (.inl ⟨q, hq, hqr⟩))
      · obtain rfl := List.mem_singleton.1 hq
        have hlisted : s.inFill q.ref = true := State.inFill_iff.2 (hqr ▸ href)
        rw [hfill] at hlisted
        cases hlisted
    · exact hno (State.inHand_iff.2 (.inr hb))

/-- A lost trigger is counted with its record alone (R88). -/
theorem preserves_lost (s : State) (r : Request) : s.Preserves (s.modEntry r.ref fun e =>
    { e with capturesLost := e.capturesLost + 1, flags := { e.flags with captureLost := true } }) :=
  preserves_modEntry fun _ => ⟨rfl, rfl, rfl, rfl, rfl, rfl, rfl, .inl rfl⟩

theorem sound_offerRequest (hs : s.Sound) (hr : s.serves r.ref r.position) (hfill : s.inFill r.ref = false) :
    (s.offerRequest r).Sound := by
  unfold State.offerRequest
  split
  · exact (consequences_converterTake _).preserves.sound (sound_append hs hr hfill)
  · exact (preserves_lost s r).sound hs

theorem counted_offerRequest (hs : s.Sound) (hr : s.serves r.ref r.position) (hfill : s.inFill r.ref = false) (hK : s.Counted K) :
    (s.offerRequest r).Counted K := by
  unfold State.offerRequest
  split
  · exact (consequences_converterTake _).preserves.counted (sound_append hs hr hfill) K ⟨hK.counts, hK.words, hK.job⟩
  · exact (preserves_lost s r).counted hs K hK

/-! ## One trigger -/

theorem Group.mem_of_active? {x : Group} (h : x.active? = some e) : e ∈ x.window ∧ e.st = .active :=
  ⟨List.mem_of_find?_eq_some h, by simpa using List.find?_some h⟩

/-- An ACTIVE record is not listed for a fill (R106). -/
theorem State.Sound.not_listed (hs : s.Sound) (he : e ∈ (s.group g).window) (hst : e.st = .active) : s.inFill (e.ref g) = false := by
  by_contra hb
  obtain ⟨-, d, hd, hslot, hdst, -⟩ := hs.owner.fill.2 _ (State.inFill_iff.1 (by simpa using hb))
  obtain rfl := (hs.slots g).eq hd he hslot
  rw [hst] at hdst
  cases hdst

/-- One more position of the ACTIVE record has triggered (R83). -/
abbrev Entry.triggering (e : Entry) : Entry := { e with triggered := e.triggered + 1 }

theorem sound_counted (hs : s.Sound) (ha : (s.group g).active? = some e) : (s.modEntry ⟨g, e.slot⟩ Entry.triggering).Sound := by
  obtain ⟨he, hst⟩ := Group.mem_of_active? ha
  refine sound_modEntry hs (fun _ => rfl) (fun d hd hslot => ?_) (hs.not_listed he hst)
  obtain rfl := (hs.slots g).eq hd he hslot
  exact ⟨rfl, rfl, fun h => .inl h, fun h => absurd (hst.symm.trans h) nofun, fun h => h⟩

/-- The point that triggers is counted with the points that have been judged. -/
theorem counted_counted (hs : s.Sound) (hK : s.Counted K) (hKg : K g = j) (ha : (s.group g).active? = some e)
    (hp : (s.group g).pointTriggers e.copy j = true) (hj : j < 4)
    (hpos : e.periodsRun * Seg.pointCount e.copy + j < Seg.capacity e.copy) :
    (s.modEntry ⟨g, e.slot⟩ Entry.triggering).Counted (Function.update K g (j + 1)) := by
  obtain ⟨he, hst⟩ := Group.mem_of_active? ha
  refine counted_modEntry hs hK (fun _ => ⟨rfl, rfl, rfl⟩) fun m f hf => ?_
  have hclock : ∀ k d, Group.positionsPassed k ((s.modEntry ⟨g, e.slot⟩ Entry.triggering).group m) d
      = (s.group m).positionsPassed k d := by
    intro k d
    rw [State.modEntry, State.group_modGroup]
    split <;> exact Group.positionsPassed_congr rfl rfl rfl k d
  obtain ⟨d, hd, hfd⟩ := State.mem_modEntry hf
  obtain ⟨htrig, hnext, hactive, hwait⟩ := hK.counts m d hd
  by_cases hm : m = g
  · subst hm
    have hmono := fun d => Group.positionsPassed_mono (Nat.le_succ j) (s.group m) d
    rw [Function.update_self]
    rw [hKg] at hactive
    by_cases href : d.ref m = ⟨m, e.slot⟩
    · obtain rfl := (hs.slots m).eq hd he (Entry.ref_eq_iff.1 href).2
      rw [if_pos href] at hfd
      subst hfd
      have hone := Group.positionsPassed_triggered hp hj hpos
      have hless : d.triggered + 1 ≤ (s.group m).positionsPassed (j + 1) d :=
        (Nat.succ_le_succ (hactive hst)).trans hone
      refine ⟨hless.trans (Group.positionsPassed_le_capacity _ _ d), hnext, fun _ => ?_, fun hw => ?_⟩
      · rw [hclock]
        exact hless
      · rw [Entry.isWaiting, hst] at hw
        cases hw
    · rw [if_neg href] at hfd
      subst hfd
      exact ⟨htrig, hnext, fun h => (hclock _ f).symm ▸ (hactive h).trans (hmono f), hwait⟩
  · rw [Function.update_of_ne hm]
    rw [if_neg fun h => hm (Entry.ref_eq_iff.1 h).1] at hfd
    subst hfd
    exact ⟨htrig, hnext, fun h => (hclock _ f).symm ▸ hactive h, hwait⟩

/-- The request of a point below the capacity has its record. -/
theorem serves_counted (ha : (s.group g).active? = some e)
    (hpos : e.periodsRun * Seg.pointCount e.copy + j < Seg.capacity e.copy) :
    (s.modEntry ⟨g, e.slot⟩ Entry.triggering).serves (triggerRequest g e j).ref (triggerRequest g e j).position := by
  obtain ⟨he, hst⟩ := Group.mem_of_active? ha
  refine ⟨e.triggering, ?_, rfl, .inl hst, hpos⟩
  have hmem := State.modEntry_mem (ref := ⟨g, e.slot⟩) (φ := Entry.triggering) he
  rwa [if_pos (show e.ref g = ⟨g, e.slot⟩ from rfl)] at hmem

/-- The judging of a further point counts no position less. -/
theorem State.Counted.judged (hK : s.Counted K) (hKg : K g ≤ k) : s.Counted (Function.update K g k) := by
  refine ⟨fun m f hf => ?_, hK.words, hK.job⟩
  obtain ⟨htrig, hnext, hactive, hwait⟩ := hK.counts m f hf
  refine ⟨htrig, hnext, fun h => (hactive h).trans (Group.positionsPassed_mono ?_ _ _), hwait⟩
  by_cases hm : m = g
  · subst hm
    rwa [Function.update_self]
  · rw [Function.update_of_ne hm]

/-- The judging of point `j` of a tick (R82, R83, R86 to R88). -/
theorem triggerPoint_keeps (hs : s.Sound) (hj : j < 4) : (s.triggerPoint g j).Sound
    ∧ (s.Counted K → K g = j → (s.triggerPoint g j).Counted (Function.update K g (j + 1))) := by
  by_cases hp : ∃ e, (s.group g).active? = some e ∧ (s.group g).pointTriggers e.copy j = true
  · obtain ⟨e, ha, hp⟩ := hp
    obtain ⟨he, hst⟩ := Group.mem_of_active? ha
    by_cases hc : Seg.capacity e.copy ≤ e.periodsRun * Seg.pointCount e.copy + j
    · have hflag : s.Preserves (s.modEntry ⟨g, e.slot⟩ fun f => { f with flags := { f.flags with resultTruncated := true } }) :=
        preserves_modEntry fun _ => ⟨rfl, rfl, rfl, rfl, rfl, rfl, rfl, .inl rfl⟩
      rw [State.triggerPoint_of_full ha hp hc]
      exact ⟨hflag.sound hs, fun hK hKg => (hflag.counted hs K hK).judged (hKg ▸ Nat.le_succ _)⟩
    · have hpos := Nat.not_le.1 hc
      have hsound := sound_counted hs ha
      have hserves := serves_counted ha hpos
      have hfill : (s.modEntry ⟨g, e.slot⟩ Entry.triggering).inFill (triggerRequest g e j).ref = false := hs.not_listed he hst
      rw [State.triggerPoint_of_room ha hp hpos]
      exact ⟨sound_offerRequest hsound hserves hfill, fun hK hKg =>
        counted_offerRequest hsound hserves hfill (counted_counted hs hK hKg ha hp hj hpos)⟩
  · rw [State.triggerPoint_of_not fun e ha => by simpa using fun h => hp ⟨e, ha, h⟩]
    exact ⟨hs, fun hK hKg => hK.judged (hKg ▸ Nat.le_succ _)⟩

/-- The triggers of a tick (R82, R86). -/
theorem triggers_keeps (hs : s.Sound) : (s.triggers g).Sound
    ∧ (s.Counted (Function.update K g 0) → (s.triggers g).Counted (Function.update K g 4)) := by
  have hstep : ∀ (j : Nat) {u : State}, j < 4 → (u.Sound ∧ (s.Counted (Function.update K g 0) → u.Counted (Function.update K g j))) →
      (u.triggerPoint g j).Sound
        ∧ (s.Counted (Function.update K g 0) → (u.triggerPoint g j).Counted (Function.update K g (j + 1))) := by
    intro j u hj ⟨hu, hcount⟩
    obtain ⟨hsound, hcounted⟩ := triggerPoint_keeps (K := Function.update K g j) (g := g) hu hj
    refine ⟨hsound, fun h => ?_⟩
    have hn := hcounted (hcount h) (Function.update_self ..)
    rwa [Function.update_idem] at hn
  rw [State.triggers_eq]
  exact hstep 3 (by decide) (hstep 2 (by decide) (hstep 1 (by decide) (hstep 0 (by decide) ⟨hs, id⟩)))

/-! ## What the triggers leave done -/

theorem State.Busy.offerRequest (hb : s.Busy ref) (hnone : s.converter.state = .idle → s.converter.current = none) (r : Request) :
    (s.offerRequest r).Busy ref := by
  unfold State.offerRequest
  split
  · refine State.Busy.converterTake ?_ hnone
    simp only [State.Busy, State.inHand_iff, State.inFill_iff, List.mem_append] at hb ⊢
    exact hb.imp_left (.imp_left fun ⟨q, hq, href⟩ => ⟨q, .inl hq, href⟩)
  · exact hb

theorem State.Sound.idle_current (hs : s.Sound) (h : s.converter.state = .idle) : s.converter.current = none := by
  simpa [h] using hs.shape.converting

theorem State.Busy.triggerPoint (hs : s.Sound) (hb : s.Busy ref) (g : GroupId) (j : Nat) : (s.triggerPoint g j).Busy ref := by
  unfold State.triggerPoint
  split
  · exact hb
  · split
    · dsimp only
      split
      · exact hb
      · exact State.Busy.offerRequest (s := s.modEntry _ _) hb hs.idle_current _
    · exact hb

theorem State.Busy.triggers (hs : s.Sound) (hb : s.Busy ref) (g : GroupId) : (s.triggers g).Busy ref := by
  have hstep : ∀ (j : Nat) {u : State}, j < 4 → u.Sound ∧ u.Busy ref → (u.triggerPoint g j).Sound ∧ (u.triggerPoint g j).Busy ref :=
    fun j u hj ⟨hu, hb⟩ => ⟨(triggerPoint_keeps (K := fun _ => 0) hu hj).1, hb.triggerPoint hu g j⟩
  rw [State.triggers_eq]
  exact (hstep 3 (by decide) (hstep 2 (by decide) (hstep 1 (by decide) (hstep 0 (by decide) ⟨hs, hb⟩)))).2

theorem allRetiring_of_states {x y : Group} (h : List.Forall₂ (fun e f : Entry => f.st = e.st) x.window y.window) :
    y.allRetiring = x.allRetiring := by
  unfold Group.allRetiring
  generalize y.window = k at h ⊢
  generalize x.window = l at h ⊢
  induction h with
  | nil => rfl
  | cons hab _ ih => rw [List.all_cons, List.all_cons, ih, hab]

/-- The triggers of a tick leave no consequence undone (R91). -/
theorem done_triggers (hs : s.Sound) (hdone : s.Done) (hrun : s.ctrl = .running) (g : GroupId) : (s.triggers g).Done := by
  cases ha : (s.group g).active? with
  | none => rw [triggers_of_no_active ha]; exact hdone
  | some e =>
    have hcounts := triggers_countsAt ha
    refine ⟨hdone.quiet.triggers hrun g, fun m f hf hst => ?_, fun m hst => ?_⟩
    · by_cases hm : m = g
      · subst hm
        obtain ⟨d, hd, hfd⟩ := mem_of_forall₂ hcounts.window hf
        have hslot := Entry.slot_of_uncounted hfd.1
        have hb := hdone.draining m d hd ((Entry.st_of_uncounted hfd.1).symm.trans hst)
        have href : f.ref m = d.ref m := by rw [Entry.ref, hslot, Entry.ref]
        rw [href]
        exact hb.triggers hs m
      · rw [hcounts.others m hm] at hf
        exact (hdone.draining m f hf hst).triggers hs g
    · by_cases hm : m = g
      · subst hm
        rw [allRetiring_of_states (hcounts.window.imp fun _ _ h => Entry.st_of_uncounted h.1)]
        refine hdone.stops m ?_
        rw [← hst, hcounts.group]
      · rw [hcounts.others m hm] at hst ⊢
        exact hdone.stops m hst

end Triggers

end Sys2Proof.Machine
end

section
/-! PROOF. The ticks of a group, its boundaries, its resuming and the firing of a set keep all capture work with its records
and the counts within their bounds (R29 to R38, R77, R83, R84). -/

namespace Sys2Proof.Machine

section Ticks

variable {s t u : State} {g m : GroupId} {e d f : Entry} {x y : Group} {k : Nat} {K : GroupId → Nat}

/-! ## States of the same windows -/

/-- A state of the same windows and the same capture path. -/
structure State.SameWork (s t : State) : Prop where
  windows : ∀ m, (t.group m).window = (s.group m).window
  queue : t.captureQueue = s.captureQueue
  converter : t.converter = s.converter
  writer : t.writer = s.writer

theorem State.SameWork.sound (h : s.SameWork t) (hs : s.Sound) : t.Sound := by
  obtain ⟨hw, hq, hc, hwr⟩ := h
  have hl : s.Lasting t := fun m e he _ _ => ⟨e, (hw m).symm ▸ he, .refl e, fun _ => rfl⟩
  refine ⟨fun m => by rw [Group.SlotsDistinct, hw]; exact hs.slots m, hc ▸ hs.shape, hwr ▸ hs.bus, ?_⟩
  refine hs.owner.of_sheds (State.sheds_of_same hq (by rw [hc]) (by rw [hc]) (by rw [hwr]) (by rw [hwr]) (by rw [hwr])) hl ?_
  exact .of_lasting hs.owner (by rw [hwr]) (fun _ h => hwr ▸ h) hl fun m e he _ _ => ⟨e, (hw m).symm ▸ he, .refl e⟩

theorem State.SameWork.counted {K' : GroupId → Nat} (h : s.SameWork t) (hs : s.Sound) (hK : s.Counted K)
    (hcounts : ∀ m, (t.group m).CountLaw (K' m)) : t.Counted K' :=
  hK.of_origin hs.slots hcounts (by rw [h.writer]) (fun _ hj => h.writer ▸ hj) fun m f hf =>
    ⟨f, h.windows m ▸ hf, rfl, rfl, Nat.le_refl _⟩

theorem sameWork_modGroup {φ : Group → Group} (h : (φ (s.group g)).window = (s.group g).window) : s.SameWork (s.modGroup g φ) := by
  refine ⟨fun m => ?_, rfl, rfl, rfl⟩
  rw [State.group_modGroup]
  split
  · next hm => subst hm; exact h
  · rfl

theorem State.SameWork.of_same (h : s.SameWork t) (hg : u.groups = t.groups) (hq : u.captureQueue = t.captureQueue)
    (hc : u.converter = t.converter) (hw : u.writer = t.writer) : s.SameWork u :=
  ⟨fun m => by rw [show u.group m = t.group m from congrArg (fun w => w[m]) hg]; exact h.windows m,
    hq.trans h.queue, hc.trans h.converter, hw.trans h.writer⟩

/-- A group without ACTIVE record may be judged anew. -/
theorem State.Counted.rewound (hK : s.Counted K) (h0 : ∀ e ∈ (s.group g).window, e.st ≠ .active) (k : Nat) :
    s.Counted (Function.update K g k) := by
  refine ⟨fun m f hf => ?_, hK.words, hK.job⟩
  obtain ⟨htrig, hnext, hactive, hwait⟩ := hK.counts m f hf
  by_cases hm : m = g
  · subst hm
    exact ⟨htrig, hnext, fun h => absurd h (h0 f hf), hwait⟩
  · rw [Function.update_of_ne hm]
    exact ⟨htrig, hnext, hactive, hwait⟩

/-! ## A step inside a period -/

theorem Group.CountLaw.stepCounter {P : Nat} (h : x.CountLaw 4) (hend : x.atEnd P = false) : (x.stepCounter P).CountLaw 0 := by
  intro f hf
  rw [Group.stepCounter_window] at hf
  obtain ⟨htrig, hnext, hactive, hwait⟩ := h f hf
  exact ⟨htrig, hnext, fun ha => (hactive ha).trans (Group.positionsPassed_stepCounter hend f), hwait⟩

/-- A law of one group's counts, `k` points of its tick being judged. -/
theorem countLaw_modGroup {φ : Group → Group} (hK : ∀ m, (s.group m).CountLaw (K m)) (h : (φ (s.group g)).CountLaw k) (m : GroupId) :
    ((s.modGroup g φ).group m).CountLaw (Function.update K g k m) := by
  by_cases hm : m = g
  · subst hm
    rw [State.group_modGroup_same, Function.update_self]
    exact h
  · rw [State.group_modGroup_ne _ _ hm, Function.update_of_ne hm]
    exact hK m

/-- The counts of a finished tick of group `g`. -/
theorem State.Counted.ticked (h : s.Counted (Function.update (fun _ => 4) g 4)) : s.Counted fun _ => 4 := by
  rwa [Function.update_eq_self] at h

/-- A tick of a group inside a period (R48, R49, R82). -/
theorem preserves_stepTick (hb : (s.group g).atBoundary = false) :
    (s.Sound → (s.stepTick g).Sound) ∧ (s.Sound → s.Counted (fun _ => 4) → (s.stepTick g).Counted fun _ => 4) := by
  unfold State.stepTick
  split
  · exact ⟨id, fun _ => id⟩
  · next e ha =>
    split
    · next hp =>
      have hend : (s.group g).atEnd (Seg.period e.copy) = false := by simpa [Group.atBoundary, ha, hp] using hb
      have hsame : s.SameWork ((s.modGroup g (Group.stepCounter (Seg.period e.copy))).tickOutputs g) :=
        (sameWork_modGroup (Group.stepCounter_window (Seg.period e.copy) (s.group g))).of_same rfl rfl rfl rfl
      refine ⟨fun hs => (triggers_keeps (K := fun _ => 4) (hsame.sound hs)).1, fun hs hK => ?_⟩
      exact ((triggers_keeps (hsame.sound hs)).2
        (hsame.counted hs hK (countLaw_modGroup hK.counts ((hK.counts g).stepCounter hend)))).ticked
    · exact ⟨id, fun _ => id⟩

theorem Group.calm_stepCounter (P : Nat) (x : Group) : x.Calm (x.stepCounter P) :=
  Group.calm_of_window (Group.stepCounter_window P x) fun h => by rw [← h, Group.stepCounter_state]

theorem done_stepTick (hs : s.Sound) (hdone : s.Done) (hrun : s.ctrl = .running) (g : GroupId) : (s.stepTick g).Done := by
  unfold State.stepTick
  split
  · exact hdone
  · next e ha =>
    split
    · have hsame : s.SameWork ((s.modGroup g (Group.stepCounter (Seg.period e.copy))).tickOutputs g) :=
        (sameWork_modGroup (Group.stepCounter_window (Seg.period e.copy) (s.group g))).of_same rfl rfl rfl rfl
      have hcalm := hdone.modGroup (g := g) (Group.calm_stepCounter (Seg.period e.copy) (s.group g))
      exact done_triggers (hsame.sound hs) (hcalm.of_same rfl rfl rfl rfl rfl rfl rfl rfl) hrun g
    · exact hdone

/-! ## The end of a period -/

/-- The group whose period has been counted (R29). -/
def Group.periodCounted (slot : Nat) (x : Group) : Group :=
  (x.modSlot slot fun e => { e with periodsRun := satSucc32 e.periodsRun }).holdCounter

/-- What has been triggered lies below the positions of the periods that are over (R83): a count that stays at its top
value has long passed every capacity. -/
theorem Group.CountLaw.periodCounted (h : x.CountLaw 4) (hd : x.SlotsDistinct) (he : e ∈ x.window) (hst : e.st = .active)
    (hone : ∀ f ∈ x.window, f.st = .active → f = e) : (x.periodCounted e.slot).CountLaw 0 := by
  intro f hf
  obtain ⟨d, hmem, rfl⟩ := List.mem_map.1 hf
  obtain ⟨htrig, hnext, hactive, hwait⟩ := h d hmem
  by_cases hslot : d.slot = e.slot
  · obtain rfl := hd.eq hmem he hslot
    rw [if_pos (beq_self_eq_true _)]
    refine ⟨htrig, hnext, fun _ => ?_, fun hw => ?_⟩
    · have hle := (hactive hst).trans (Group.positionsPassed_le 4 x d)
      refine Nat.le_trans ?_ (Nat.le_add_right _ _)
      show d.triggered ≤ min (satSucc32 d.periodsRun * Seg.pointCount d.copy) (Seg.capacity d.copy)
      unfold satSucc32
      split
      · exact hle
      · have hcap : Seg.capacity d.copy < 65536 := (Seg.halfAt d.copy 0x1A).isLt
        have hfull := hle.trans (Nat.min_le_right _ _)
        refine Nat.le_min.2 ⟨?_, hfull⟩
        rcases Nat.eq_zero_or_pos (Seg.pointCount d.copy) with h0 | hpos
        · rw [h0, Nat.mul_zero] at hle ⊢
          exact hle.trans (Nat.min_le_left _ _)
        · have hmany := Nat.le_mul_of_pos_right 4294967295 hpos
          omega
    · have hwait' : d.isWaiting = true := hw
      rw [Entry.isWaiting, hst] at hwait'
      cases hwait'
  · rw [if_neg (by simpa using hslot)]
    exact ⟨htrig, hnext, fun ha => absurd (congrArg Entry.slot (hone d hmem ha)) hslot, hwait⟩

/-- The counting of a period (R29): the work stays, and no point of the new period has been judged. -/
theorem countPeriod_keeps (hs : s.Sound) (he : e ∈ (s.group g).window) (hst : e.st = .active)
    (hone : ∀ f ∈ (s.group g).window, f.st = .active → f = e) : (s.modGroup g (Group.periodCounted e.slot)).Sound
      ∧ (s.Counted (fun _ => 4) → (s.modGroup g (Group.periodCounted e.slot)).Counted (Function.update (fun _ => 4) g 0)) := by
  have hentry : s.modGroup g (Group.periodCounted e.slot) =
      (s.modEntry ⟨g, e.slot⟩ fun e => { e with periodsRun := satSucc32 e.periodsRun }).modGroup g Group.holdCounter := by
    rw [State.modEntry, State.modGroup_modGroup]
    rfl
  have hsound : (s.modEntry ⟨g, e.slot⟩ fun e => { e with periodsRun := satSucc32 e.periodsRun }).Sound :=
    sound_modEntry hs (fun _ => rfl) (fun d _ _ => ⟨rfl, rfl, fun h => .inl h, fun h => ⟨h, rfl⟩, fun h => h⟩) (hs.not_listed he hst)
  rw [hentry]
  refine ⟨(sameWork_modGroup rfl).sound hsound, fun hK => ?_⟩
  rw [← hentry]
  refine hK.of_origin hs.slots (countLaw_modGroup hK.counts ((hK.counts g).periodCounted (hs.slots g) he hst hone)) rfl
    (fun _ h => h) fun m f hf => ?_
  rw [hentry] at hf
  have hwindow := (sameWork_modGroup (s := s.modEntry ⟨g, e.slot⟩ fun e => { e with periodsRun := satSucc32 e.periodsRun })
    (g := g) (φ := Group.holdCounter) rfl).windows m
  rw [hwindow] at hf
  obtain ⟨d, hd, rfl⟩ := State.mem_modEntry hf
  refine ⟨d, hd, ?_⟩
  split <;> exact ⟨rfl, rfl, Nat.le_refl _⟩

/-! ## The boundary -/

theorem State.Preserves.of_sound (h : s.Sound → s.Preserves t) : s.Preserves t :=
  ⟨fun hs => (h hs).sound hs, fun hs => (h hs).counted hs⟩

/-- A record that is READY becomes ACTIVE where none is (R28, R30, R35). -/
theorem preserves_beginRecord (h0 : ∀ e ∈ (s.group g).window, e.st ≠ .active) (hd : d ∈ (s.group g).window) (hr : d.st = .ready)
    (sat : Bool) : s.Preserves (s.modGroup g (Group.beginRecord d.slot sat)) :=
  .of_sound fun hs => preserves_modGroup (Group.carries_beginRecord (hs.slots g) h0 hd hr sat)

theorem preserves_tokens (s : State) (tokens : Vector Nat 16) : s.Preserves { s with tokens := tokens } :=
  preserves_of_same rfl rfl rfl rfl

theorem preserves_endPost (s : State) (g : GroupId) (e : Entry) : s.Preserves (s.endPost g e) := by
  unfold State.endPost
  split
  · exact .refl s
  · exact (preserves_tokens s _).trans (preserves_modEntry (Entry.moves_saturate _))

theorem preserves_takeover (hd : (s.group g).next? = some d) (hr : d.st = .ready) (h : s.takeover g e d = some u) :
    s.Preserves u := by
  unfold State.takeover at h
  dsimp only at h
  split at h
  · cases h
  · next tokens sats _ =>
    obtain rfl := Option.some.inj h
    generalize ((sats.take (endParts e.copy).length).any id) = endSat
    generalize ((sats.drop ((endParts e.copy).length + (claimParts d.copy).length)).any id) = startSat
    have hends : s.Preserves ((State.modGroup g (Group.endActive .ok) { s with tokens := tokens }).modEntry (e.ref g)
        (Entry.saturate endSat)) :=
      (preserves_tokens s tokens).trans ((preserves_modGroup (Group.carries_endActive _ .ok)).trans
        (preserves_modEntry (Entry.moves_saturate endSat)))
    have hgroup : ((State.modGroup g (Group.endActive .ok) { s with tokens := tokens }).modEntry (e.ref g)
        (Entry.saturate endSat)).group g = ((s.group g).endActive .ok).modSlot e.slot (Entry.saturate endSat) := by
      rw [State.modEntry, Entry.ref, State.group_modGroup_same, State.group_modGroup_same]
      rfl
    obtain ⟨d', hd', hslot, hst⟩ := mem_takeover_window (Group.next?_mem hd) hr .ok e.slot endSat
    have hidle := Group.no_active_of_count (modSlot_saturate_no_active (endActive_no_active .ok (s.group g)) e.slot endSat)
    rw [← hslot]
    exact hends.trans (preserves_beginRecord (hgroup ▸ hidle) (hgroup ▸ hd') hst startSat)

theorem preserves_endAndFault (s : State) (g : GroupId) (e : Entry) : s.Preserves (s.endAndFault g e) :=
  (preserves_endPost s g e).trans ((preserves_modGroup (Group.carries_endActive _ .ok)).trans (preserves_faultGroup _ g))

theorem preserves_starve (s : State) (g : GroupId) (e : Entry) : s.Preserves (s.starve g e) := by
  refine (preserves_endPost s g e).trans (preserves_modGroup ?_)
  exact (Group.carries_endActive _ .ok).trans ((Group.carries_holdCounter (endActive_idle .ok _)).trans
    (.of_window rfl (.inl ⟨rfl, rfl, rfl⟩)))

theorem preserves_runningBoundary (s : State) (g : GroupId) (e : Entry) : s.Preserves (s.runningBoundary g e) := by
  have htake : ∀ {d : Entry} {v : State}, (s.group g).next? = some d → d.st = .ready → s.Preserves v →
      s.Preserves ((s.takeover g e d).getD v) := by
    intro d v hd hr hv
    cases h : s.takeover g e d with
    | none => exact hv
    | some u => exact preserves_takeover hd hr h
  unfold State.runningBoundary
  split
  · next d hd =>
    split
    · next hr =>
      have hr : d.st = .ready := by simpa using hr
      split
      · exact htake hd hr (.refl s)
      · split
        · exact .refl s
        · exact htake hd hr (preserves_modEntry fun _ => ⟨rfl, rfl, rfl, rfl, rfl, rfl, rfl, .inl rfl⟩)
    · split
      · exact .refl s
      · exact preserves_endAndFault s g e
  · split
    · exact .refl s
    · exact preserves_starve s g e

theorem preserves_stopEnding (s : State) (g : GroupId) (e : Entry) (status : SegStatus) :
    s.Preserves (s.stopEnding g e status) := by
  have hpost : s.Preserves (if (status == .ok) = true then s.endPost g e else s) := by
    split
    · exact preserves_endPost s g e
    · exact .refl s
  unfold State.stopEnding
  dsimp only
  generalize (if (status == .ok) = true then s.endPost g e else s) = v at hpost
  refine (hpost.trans (preserves_modGroup (g := g) (Group.carries_endActive _ status))).trans ?_
  split
  · exact preserves_faultGroup _ g
  · refine preserves_modGroup ?_
    rw [State.group_modGroup_same]
    exact (Group.carries_retireWaiting _).trans ((Group.carries_holdCounter (retireWaiting_idle (endActive_idle status _))).trans
      (.of_window rfl (.inl ⟨rfl, rfl, rfl⟩)))

theorem preserves_stoppingBoundary (s : State) (g : GroupId) (e : Entry) : s.Preserves (s.stoppingBoundary g e) := by
  unfold State.stoppingBoundary
  split
  · exact preserves_stopEnding s g e _
  · split
    · exact preserves_stopEnding s g e .ok
    · exact .refl s
  · exact .refl s

/-- A boundary up to its triggers (R29 to R38). -/
theorem boundary_keeps (hs : s.Sound) (he : e ∈ (s.group g).window) (hst : e.st = .active)
    (hone : ∀ f ∈ (s.group g).window, f.st = .active → f = e) : (s.boundary g e).Sound
      ∧ (s.Counted (fun _ => 4) → (s.boundary g e).Counted (Function.update (fun _ => 4) g 0)) := by
  obtain ⟨hsound, hcounted⟩ := countPeriod_keeps hs he hst hone
  have hdecided : (s.modGroup g (Group.periodCounted e.slot)).Preserves (s.boundary g e) := by
    unfold State.boundary
    dsimp only
    split
    · exact preserves_stoppingBoundary _ g _
    · exact preserves_runningBoundary _ g _
  exact ⟨hdecided.sound hsound, fun hK => hdecided.counted hsound _ (hcounted hK)⟩

theorem afterBoundary_keeps (hs : s.Sound) : (s.afterBoundary g).Sound
    ∧ (s.Counted (Function.update (fun _ => 4) g 0) → (s.afterBoundary g).Counted fun _ => 4) := by
  unfold State.afterBoundary
  split
  · have hsame : s.Preserves (s.tickOutputs g) := preserves_of_same rfl rfl rfl rfl
    obtain ⟨hsound, hcounted⟩ := triggers_keeps (g := g) (K := fun _ => 4) (hsame.sound hs)
    exact ⟨hsound, fun hK => (hcounted (hsame.counted hs _ hK)).ticked⟩
  · refine ⟨hs, fun hK => ?_⟩
    have h4 := hK.judged (g := g) (k := 4) (by rw [Function.update_self]; decide)
    rw [Function.update_idem] at h4
    exact h4.ticked

/-- The one ACTIVE record of a group (R10). -/
theorem Group.active_unique (h : x.activeCount ≤ 1) (ha : x.active? = some e) : ∀ f ∈ x.window, f.st = .active → f = e := by
  obtain ⟨he, hst⟩ := Group.mem_of_active? ha
  intro f hf hfst
  unfold Group.activeCount at h
  have hmem : e ∈ x.window.filter fun d => d.st == .active := List.mem_filter.2 ⟨he, by simp [hst]⟩
  have hmem' : f ∈ x.window.filter fun d => d.st == .active := List.mem_filter.2 ⟨hf, by simp [hfst]⟩
  obtain ⟨d, hd⟩ := List.length_eq_one_iff.1 (Nat.le_antisymm h (List.length_pos_of_mem hmem))
  rw [hd] at hmem hmem'
  rw [List.mem_singleton.1 hmem, List.mem_singleton.1 hmem']

theorem Group.ActiveLaw.count_le (h : x.ActiveLaw) : x.activeCount ≤ 1 := by
  obtain ⟨hrun, hstop, hother, -⟩ := h
  by_cases hr : x.state = .running
  · exact (hrun hr).le
  · by_cases hs : x.state = .stopping
    · exact hstop hs
    · exact (hother hr hs).le.trans (Nat.zero_le 1)

/-- A boundary (R29 to R38), before what it leaves on the capture path. -/
theorem periodBoundary_keeps (hs : s.Sound) (hactive : (s.group g).ActiveLaw) (ha : (s.group g).active? = some e) :
    (((s.markTick g).boundary g e).afterBoundary g).Sound
      ∧ (s.Counted (fun _ => 4) → (((s.markTick g).boundary g e).afterBoundary g).Counted fun _ => 4) := by
  obtain ⟨he, hst⟩ := Group.mem_of_active? ha
  have hsame : s.Preserves (s.markTick g) := preserves_of_same rfl rfl rfl rfl
  obtain ⟨hsound, hcounted⟩ := boundary_keeps (s := s.markTick g) (hsame.sound hs) he hst (Group.active_unique hactive.count_le ha)
  obtain ⟨hsound', hcounted'⟩ := afterBoundary_keeps (g := g) hsound
  exact ⟨hsound', fun hK => hcounted' (hcounted (hsame.counted hs _ hK))⟩

end Ticks

end Sys2Proof.Machine
end

section
/-! PROOF. The resuming of a group and the firing of a set keep all capture work with its records and leave no consequence
undone (R35, R77). -/

namespace Sys2Proof.Machine

/-- What a happening keeps that needs no consequences at its end. -/
structure State.Stays (s t : State) : Prop where
  sound : t.Sound
  counted : s.Counted (fun _ => 4) → t.Counted fun _ => 4
  done : t.Done

section Starts

variable {s t u : State} {g m : GroupId} {e d f : Entry} {x y : Group} {k : Nat} {K : GroupId → Nat}

theorem State.Preserves.stays (h : s.Preserves t) (hs : s.Sound) (hdone : t.Done) : s.Stays t :=
  ⟨h.sound hs, h.counted hs _, hdone⟩

theorem State.Stays.trans (h : s.Stays t) (h' : t.Stays u) : s.Stays u :=
  ⟨h'.sound, fun hK => h'.counted (h.counted hK), h'.done⟩

theorem State.Stays.refl (hs : s.Sound) (hdone : s.Done) : s.Stays s := ⟨hs, id, hdone⟩

theorem State.Stays.of_same (h : s.Stays t) (hg : u.groups = t.groups) (hq : u.captureQueue = t.captureQueue)
    (hc : u.converter = t.converter) (hw : u.writer = t.writer) : s.Stays u := by
  have hsame : t.Preserves u := preserves_of_same hg hq hc hw
  exact ⟨hsame.sound h.sound, fun hK => hsame.counted h.sound _ (h.counted hK),
    h.done.of_same hg hq (by rw [hc]) (by rw [hc]) (by rw [hc]) (by rw [hw]) (by rw [hw]) (by rw [hw])⟩

/-- A tick inside a period leaves no consequence undone. -/
theorem stays_stepTick (hs : s.Sound) (hdone : s.Done) (hrun : s.ctrl = .running) (hb : (s.group g).atBoundary = false) :
    s.Stays (s.stepTick g) :=
  ⟨(preserves_stepTick hb).1 hs, (preserves_stepTick hb).2 hs, done_stepTick hs hdone hrun g⟩

/-! ## A record begins -/

theorem Group.calm_beginRecord (slot : Nat) (sat : Bool) (x : Group) : x.Calm (x.beginRecord slot sat) := by
  refine ⟨fun f hf hst => ?_, nofun⟩
  obtain ⟨d, hd, rfl⟩ := List.mem_map.1 hf
  split at hst
  · cases hst
  · next h => exact ⟨d, hd, hst, by rw [if_neg h]⟩

/-- The triggers after a group without ACTIVE record has begun one. -/
theorem stays_triggers {v : State} (hs : s.Sound) (h0 : ∀ e ∈ (s.group g).window, e.st ≠ .active) (hv : s.Preserves v)
    (hdone : v.Done) (hrun : v.ctrl = .running) : s.Stays (v.triggers g) := by
  have hsound := hv.sound hs
  obtain ⟨hsound', hcounted⟩ := triggers_keeps (g := g) (K := fun _ => 4) hsound
  exact ⟨hsound', fun hK => (hcounted (hv.counted hs _ (hK.rewound h0 0))).ticked, done_triggers hsound hdone hrun g⟩

theorem stays_resume (hs : s.Sound) (hdone : s.Done) (hrun : s.ctrl = .running) (hactive : (s.group g).ActiveLaw)
    (hr : (s.group g).atResume = true) : s.Stays (s.resume g) := by
  simp only [Group.atResume, Bool.and_eq_true, beq_iff_eq] at hr
  have h0 := Group.no_active_of_count (hactive.zero (by simp [hr.1]) (by simp [hr.1]))
  unfold State.resume
  split
  · exact .refl hs hdone
  · next d hd =>
    have hready : d.st = .ready := by
      have h := hr.2
      rw [Group.nextReady, hd] at h
      simpa using h
    dsimp only
    split
    · exact .refl hs hdone
    · next tokens sats _ =>
      have hbegin : ∀ sat, State.Preserves { s with tokens := tokens }
          (State.modGroup g (Group.beginRecord d.slot sat) { s with tokens := tokens }) :=
        preserves_beginRecord h0 (Group.next?_mem hd) hready
      have hcalm : ∀ sat, (State.modGroup g (Group.beginRecord d.slot sat) { s with tokens := tokens }).Done := fun sat =>
        State.Done.modGroup (hdone.of_same rfl rfl rfl rfl rfl rfl rfl rfl) (Group.calm_beginRecord d.slot sat _)
      refine stays_triggers hs h0 ?_ ?_ hrun
      · exact ((preserves_tokens s tokens).trans (hbegin _)).trans (preserves_of_same rfl rfl rfl rfl)
      · exact (hcalm _).of_same rfl rfl rfl rfl rfl rfl rfl rfl

/-! ## The firing of a set -/

theorem Group.calm_fired (slot : Nat) (sat : Bool) (x : Group) : x.Calm (x.fired slot sat) :=
  ⟨(Group.calm_beginRecord slot sat x).draining, nofun⟩

theorem Group.carries_fired (hd : x.SlotsDistinct) (h0 : ∀ d ∈ x.window, d.st ≠ .active) (he : e ∈ x.window) (hr : e.st = .ready)
    (sat : Bool) : x.Carries (x.fired e.slot sat) :=
  (Group.carries_beginRecord hd h0 he hr sat).trans (.of_window rfl (.inl ⟨rfl, rfl, rfl⟩))

/-- A group that may fire: its oldest record is READY and none is ACTIVE (R27, R75). -/
abbrev Group.MayFire (x : Group) : Prop := (∀ e ∈ x.window, e.st ≠ .active) ∧ ∀ e, x.window.head? = some e → e.st = .ready

theorem stays_fireMember (posters : List (GroupId × Bool)) (hs : s.Sound) (hdone : s.Done) (hrun : s.ctrl = .running)
    (hfire : (s.group g).MayFire) : s.Stays (State.fireMember posters s g) := by
  obtain ⟨h0, hready⟩ := hfire
  cases hf : s.first? g with
  | none => unfold State.fireMember; rw [hf]; exact .refl hs hdone
  | some e =>
    rw [State.fireMember_of_first hf]
    generalize (posters.any fun q => q.1 == g && q.2) = sat
    have hbegin : s.Preserves (s.modGroup g (Group.fired e.slot sat)) :=
      preserves_modGroup (Group.carries_fired (hs.slots g) h0 (List.mem_of_head? hf) (hready e hf) sat)
    exact stays_triggers (v := ((s.modGroup g (Group.fired e.slot sat)).markTick g).enterOutputs g) hs h0
      (hbegin.trans (preserves_of_same rfl rfl rfl rfl))
      ((hdone.modGroup (Group.calm_fired e.slot sat _)).of_same rfl rfl rfl rfl rfl rfl rfl rfl) hrun

theorem State.fireMember_ctrl (posters : List (GroupId × Bool)) (s : State) (g : GroupId) :
    (State.fireMember posters s g).ctrl = s.ctrl := by
  cases hf : s.first? g with
  | none => unfold State.fireMember; rw [hf]
  | some e =>
    rw [State.fireMember_of_first hf, State.triggers_eq]
    simp only [State.ctrl_of_fixed (State.fixed_triggerPoint _ _ _)]
    rfl

theorem stays_fireMembers (posters : List (GroupId × Bool)) {l : List GroupId} (hl : l.Nodup) :
    ∀ {s : State}, s.Sound → s.Done → s.ctrl = .running → (∀ m ∈ l, (s.group m).MayFire) →
      s.Stays (l.foldl (State.fireMember posters) s) := by
  induction l with
  | nil => exact fun hs hdone _ _ => .refl hs hdone
  | cons m l ih =>
    intro s hs hdone hrun h
    obtain ⟨hm, hl⟩ := List.nodup_cons.1 hl
    have hfirst := stays_fireMember posters hs hdone hrun (h m (List.mem_cons_self ..))
    refine hfirst.trans (ih hl hfirst.sound hfirst.done ((State.fireMember_ctrl posters s m).trans hrun) fun k hk => ?_)
    rw [State.fireMember_group_ne posters s (m := k) fun he => hm (by rwa [he] at hk)]
    exact h k (List.mem_cons_of_mem _ hk)

/-- A set that is due fires (R75, R77). -/
theorem stays_fireSet (hs : s.Sound) (hdone : s.Done) (hactive : ActiveLaw s) (hset : SetLaw s) (hd : s.setDue g = true) :
    s.Stays (s.fireSet g) := by
  unfold State.setDue at hd
  unfold State.fireSet
  split
  · exact .refl hs hdone
  · next t ht =>
    rw [ht] at hd
    simp only [Bool.and_eq_true] at hd
    have hrun : s.ctrl = .running := by simpa [State.isRunning] using hd.1.1
    split
    · exact (State.Stays.refl hs hdone).of_same rfl rfl rfl rfl
    · next tokens sats _ =>
      have hstart : s.Stays { s with tokens := tokens, sets := s.sets.filter fun u => !u.members.getLsbD g } :=
        (State.Stays.refl hs hdone).of_same rfl rfl rfl rfl
      refine hstart.trans (stays_fireMembers _ t.groups_nodup hstart.sound hstart.done hrun fun m hm => ⟨?_, fun e he => ?_⟩)
      · have harmed := hset.armed (State.setOf_some ht).1 (StartSet.mem_groups.1 hm)
        exact Group.no_active_of_count ((hactive m).zero (by simp [harmed]) (by simp [harmed]))
      · obtain ⟨e', he', hst⟩ := State.setReady_iff.1 hd.2 m hm
        have hsame : e' = e := Option.some.inj (he'.symm.trans he)
        exact hsame ▸ hst

end Starts

end Sys2Proof.Machine
end

section
/-! PROOF. The converter's ticks, the delivery of a result and the result writer's writes keep all capture work with its records
and the counts within their bounds (R92, R93, R107, R108). -/

namespace Sys2Proof.Machine

section Path

variable {s t u v : State} {g m : GroupId} {e d f : Entry} {ref : EntryRef} {r : ConvResult} {q : Request} {K : GroupId → Nat}

/-! ## The converter -/

/-- A converter that holds what it held. -/
theorem stays_of_converter (hs : s.Sound) (hdone : s.Done) (hg : t.groups = s.groups) (hq : t.captureQueue = s.captureQueue)
    (hst : t.converter.state = s.converter.state) (hc : t.converter.current = s.converter.current)
    (hh : t.converter.held = s.converter.held)
    (hrest : t.converter.state ≠ .converting → t.converter.step = 0 ∧ t.converter.done = 0 ∧ t.converter.sum = 0)
    (hw : t.writer = s.writer) : s.Stays t := by
  have hgroup : ∀ m, t.group m = s.group m := fun m => congrArg (fun w => w[m]) hg
  have hl : s.Lasting t := fun m e he _ _ => ⟨e, (hgroup m).symm ▸ he, .refl e, fun _ => rfl⟩
  refine ⟨⟨fun m => hgroup m ▸ hs.slots m, ⟨?_, ?_, hrest⟩, hw ▸ hs.bus, ?_⟩, fun hK => ?_, ?_⟩
  · rw [hst, hc]; exact hs.shape.converting
  · rw [hst, hh]; exact hs.shape.holding
  · refine hs.owner.of_sheds (State.sheds_of_same hq hc hh (by rw [hw]) (by rw [hw]) (by rw [hw])) hl ?_
    exact .of_lasting hs.owner (by rw [hw]) (fun _ h => hw ▸ h) hl fun m e he _ _ => ⟨e, (hgroup m).symm ▸ he, .refl e⟩
  · exact hK.of_origin hs.slots (fun m => hgroup m ▸ hK.counts m) (by rw [hw]) (fun _ h => hw ▸ h)
      fun m f hf => ⟨f, hgroup m ▸ hf, rfl, rfl, Nat.le_refl _⟩
  · exact hdone.of_same hg hq hst hc hh (by rw [hw]) (by rw [hw]) (by rw [hw])

theorem stays_convTick (hs : s.Sound) (hdone : s.Done) (sample : BitVec 12) : s.Stays (s.convTick sample) := by
  unfold State.convTick
  dsimp only
  split
  · next h =>
    simp only [Bool.and_eq_true, beq_iff_eq] at h
    exact stays_of_converter hs hdone rfl rfl rfl rfl rfl (fun hn => absurd h.1 hn) rfl
  · exact (State.Stays.refl hs hdone).of_same rfl rfl rfl rfl

/-- The delivery of the result of the current request (R93). -/
theorem preserves_offerResult (hcurrent : s.converter.current = some q) (hst : s.converter.state = .converting) (sum : Nat) :
    s.Preserves (s.offerResult (q.result sum)) := by
  have hserves : s.Sound → s.serves (q.result sum).ref (q.result sum).position := fun hs => hs.owner.current q hcurrent
  have hheld : s.Sound → s.converter.held = none := fun hs => by simpa [hst] using hs.shape.holding
  have hhand : s.Sound → ∀ ref, (s.offerResult (q.result sum)).inHand ref = true → s.inHand ref = true := by
    intro hs ref hb
    have hnone := hheld hs
    have href : q.ref = (q.result sum).ref := rfl
    rcases Nat.lt_or_ge s.writer.queue.length 4 with hroom | hfull
    · rw [offerResult_of_room hroom] at hb
      simp only [State.inHand_iff, hcurrent, List.mem_append, List.mem_singleton] at hb ⊢
      grind
    · rw [offerResult_of_full hfull] at hb
      simp only [State.inHand_iff, hcurrent] at hb ⊢
      grind
  have hfill : s.Sound → s.writer.fill.Nodup ∧ ∀ ref ∈ s.writer.fill, (s.offerResult (q.result sum)).inHand ref = false ∧
      ∃ e ∈ (s.group ref.group).window, e.slot = ref.slot ∧ e.st = .draining ∧ e.owes = true := fun hs =>
    ⟨hs.owner.fill.1, fun ref href => ⟨Bool.eq_false_iff.2 fun hb =>
      Bool.eq_false_iff.1 (hs.owner.fill.2 ref href).1 (hhand hs ref hb), (hs.owner.fill.2 ref href).2⟩⟩
  rcases Nat.lt_or_ge s.writer.queue.length 4 with hroom | hfull
  · rw [offerResult_of_room hroom] at hfill ⊢
    refine ⟨fun hs => ⟨hs.slots, ⟨by simp, by simp [hheld hs], fun _ => ⟨rfl, rfl, rfl⟩⟩, hs.bus,
      { hs.owner with current := nofun, results := fun p hp => ?_, fill := hfill hs }⟩, fun _ _ hK => ⟨hK.counts, hK.words, hK.job⟩⟩
    exact (List.mem_append.1 hp).elim (hs.owner.results p) fun hp => List.mem_singleton.1 hp ▸ hserves hs
  · rw [offerResult_of_full hfull] at hfill ⊢
    refine ⟨fun hs => ⟨hs.slots, ⟨by simp, by simp, fun _ => ⟨rfl, rfl, rfl⟩⟩, hs.bus,
      { hs.owner with current := nofun, held := fun p hp => ?_, fill := hfill hs }⟩, fun _ _ hK => ⟨hK.counts, hK.words, hK.job⟩⟩
    exact Option.some.inj hp ▸ hserves hs

/-- The consequences of a part of a happening (log 6). -/
theorem State.Preserves.pumped (h : s.Preserves u) (hs : s.Sound) (hrun : u.isRunning = true) (hbound : u.writer.queue.length ≤ 4) :
    s.Stays u.pump :=
  ⟨(preserves_pump u).sound (h.sound hs), fun hK => (preserves_pump u).counted (h.sound hs) _ (h.counted hs _ hK),
    done_pump (h.sound hs) hrun hbound⟩

theorem stays_conversionEnd (hs : s.Sound) (hdone : s.Done) (hbound : s.writer.queue.length ≤ 4) (h : s.conversionAtEnd = true) :
    s.Stays s.conversionEnd := by
  simp only [State.conversionAtEnd, Bool.and_eq_true, beq_iff_eq] at h
  obtain ⟨⟨⟨hrun, hst⟩, -⟩, hsome⟩ := h
  obtain ⟨q, hq⟩ := Option.isSome_iff_exists.1 hsome
  rcases Nat.lt_or_ge (s.converter.done + 1) q.oversample with hleft | hcomplete
  · rw [conversionEnd_of_left hq hleft]
    exact stays_of_converter hs hdone rfl rfl rfl rfl rfl (fun hn => absurd hst hn) rfl
  · rw [conversionEnd_of_complete hq hcomplete]
    exact (preserves_offerResult hq hst _).pumped hs ((State.isRunning_of_fixed (offerResult_rest s _).1).trans hrun)
      ((goes_offerResult (A := True) (n := 0) s _).results hbound)

/-! ## The writer's write -/

/-- A record with work in hand is not listed for a fill (R106). -/
theorem State.Sound.not_listed_of_hand (hs : s.Sound) (h : s.inHand ref = true) : s.inFill ref = false := by
  by_contra hb
  have hno := (hs.owner.fill.2 ref (State.inFill_iff.1 (by simpa using hb))).1
  rw [h] at hno
  cases hno

theorem State.inHand_of_job {j : Job} (hj : s.writer.job = some j) : s.inHand j.ref = true :=
  State.inHand_iff.2 (.inr (.inr (.inr (.inr ⟨j, hj, rfl⟩))))

/-- The record of the current job runs or drains, and the job ends within its capacity (R105, R106). -/
theorem State.Sound.job_record (hs : s.Sound) {j : Job} (hj : s.writer.job = some j) (he : s.entry? j.ref = some e)
    (hK : s.Counted K) : (e.st = .active ∨ e.st = .draining) ∧ j.limit ≤ Seg.capacity e.copy := by
  obtain ⟨hmem, hslot⟩ := State.mem_of_entry? he
  have hsame : ∀ {d : Entry}, d ∈ (s.group j.ref.group).window → d.slot = j.ref.slot → d = e := fun hd hds =>
    (hs.slots _).eq hd hmem (hds.trans hslot.symm)
  cases j with
  | result r =>
    obtain ⟨d, hd, hdslot, hst, hpos⟩ := hs.owner.resultJob r hj
    obtain rfl := hsame hd hdslot
    exact ⟨hst, hpos⟩
  | fill ref target =>
    obtain ⟨d, hd, hdslot, hst, rfl⟩ := hs.owner.fillJob ref target hj
    obtain rfl := hsame hd hdslot
    exact ⟨.inr hst, (hK.counts _ d hd).1⟩

theorem Entry.not_waiting (h : e.st = .active ∨ e.st = .draining) : e.isWaiting = false :=
  Entry.isWaiting_eq_false_iff.2 (h.imp_right .inl)

/-- The next position rises with the issue (R107). -/
abbrev Entry.issued (e : Entry) : Entry := { e with nextPos := e.nextPos + 1 }

theorem Entry.lasts_of_counts {φ : Entry → Entry} (hφ : ∀ e : Entry, (φ e).slot = e.slot ∧ (φ e).copy = e.copy ∧ (φ e).st = e.st
    ∧ (φ e).triggered = e.triggered) (e : Entry) : e.Lasts (φ e) := by
  obtain ⟨hslot, hcopy, hst, htrig⟩ := hφ e
  exact ⟨hslot, hcopy, fun h => .inl (hst.trans h), fun h => ⟨hst.trans h, htrig⟩, fun h => hst.trans h⟩

/-- The counts where the record `ref` alone is changed, in words and next position. -/
theorem countLaw_modEntry {φ : Entry → Entry} (hK : s.Counted K)
    (hφ : ∀ e : Entry, (φ e).copy = e.copy ∧ (φ e).st = e.st ∧ (φ e).triggered = e.triggered ∧ (φ e).periodsRun = e.periodsRun)
    (hnext : ∀ e ∈ (s.group ref.group).window, e.slot = ref.slot →
      (φ e).nextPos ≤ Seg.capacity e.copy ∧ (e.isWaiting = true → (φ e).nextPos = 0)) (m : GroupId) :
    ((s.modEntry ref φ).group m).CountLaw (K m) := by
  have hclock : ∀ k d, Group.positionsPassed k ((s.modEntry ref φ).group m) d = (s.group m).positionsPassed k d := by
    intro k d
    rw [State.modEntry, State.group_modGroup]
    split <;> exact Group.positionsPassed_congr rfl rfl rfl k d
  intro f hf
  obtain ⟨e, he, rfl⟩ := State.mem_modEntry hf
  obtain ⟨htrig, hpos, hactive, hwait⟩ := hK.counts m e he
  split
  · next href =>
    obtain ⟨rfl, hslot⟩ := Entry.ref_eq_iff.1 href
    obtain ⟨hcopy, hst, htrig', hperiods⟩ := hφ e
    obtain ⟨hn, hnw⟩ := hnext e he hslot
    have hpassed : ∀ x : Group, x.positionsPassed (K ref.group) (φ e) = x.positionsPassed (K ref.group) e := fun x => by
      simp only [Group.positionsPassed, hcopy, hperiods]
    rw [hcopy, hst, htrig', hperiods, hclock, hpassed]
    refine ⟨htrig, hn, hactive, fun hw => ?_⟩
    have hw' : e.isWaiting = true := by rw [Entry.isWaiting, ← hst]; exact hw
    exact ⟨(hwait hw').1, hnw hw', (hwait hw').2.2⟩
  · rw [hclock]
    exact ⟨htrig, hpos, hactive, hwait⟩

theorem calm_modEntry_st {x : Group} {slot : Nat} {φ : Entry → Entry} (hφ : ∀ e : Entry, (φ e).slot = e.slot ∧ (φ e).st = e.st) :
    x.Calm (x.modSlot slot φ) := by
  refine ⟨fun f hf hst => ?_, fun hst hall => ⟨hst, ?_⟩⟩
  · obtain ⟨d, hd, rfl⟩ := List.mem_map.1 hf
    refine ⟨d, hd, ?_⟩
    split at hst
    · next h => rw [if_pos h]; exact ⟨(hφ d).2 ▸ hst, (hφ d).1⟩
    · next h => rw [if_neg h]; exact ⟨hst, rfl⟩
  · rw [← hall]
    refine (allRetiring_of_states (y := x.modSlot slot φ) (forall₂_map _ fun e _ => ?_)).symm
    split
    · exact (hφ e).2
    · rfl

/-- The issue of a result write (R107). -/
theorem stays_issueWord (hs : s.Sound) (hdone : s.Done) (hasks : s.writer.write = .asking) : s.Stays s.issueWord := by
  have hbus : s.writer.onBus = none := by
    by_contra hb
    have hw := hs.bus (Option.isSome_iff_ne_none.2 hb)
    rw [hasks] at hw
    cases hw
  have hoff : ∀ ref, s.writeOnBus ref = false := fun ref => by rw [State.writeOnBus, hbus]
  unfold State.issueWord
  split
  · exact .refl hs hdone
  · next j hj =>
    split
    · exact .refl hs hdone
    · next e he =>
      dsimp only
      obtain ⟨hmem, hslot⟩ := State.mem_of_entry? he
      have hlisted := hs.not_listed_of_hand (State.inHand_of_job hj)
      have hsound : (s.modEntry j.ref Entry.issued).Sound :=
        sound_modEntry hs (fun _ => rfl) (fun d _ _ => Entry.lasts_of_counts (φ := Entry.issued) (fun _ => ⟨rfl, rfl, rfl, rfl⟩) d) hlisted
      have hcalm : (s.modEntry j.ref Entry.issued).Done :=
        hdone.modGroup (calm_modEntry_st fun _ => ⟨rfl, rfl⟩)
      have hnamed : ∀ d ∈ (s.group j.ref.group).window, d.slot = j.ref.slot → d = e := fun d hd hds =>
        (hs.slots _).eq hd hmem (hds.trans hslot.symm)
      refine ⟨⟨hsound.slots, hsound.shape, fun _ => rfl, { hsound.owner with onBus := fun w hw => ?_ }⟩, fun hK => ?_,
        hcalm.of_same rfl rfl rfl rfl rfl rfl rfl rfl⟩
      · obtain rfl := Option.some.inj hw
        refine ⟨_, State.modEntry_mem (ref := j.ref) (φ := Entry.issued) hmem, ?_, .inr (State.hasJob_iff.2 ⟨j, hj, rfl⟩)⟩
        split <;> exact hslot
      · have hlimit : e.nextPos < j.limit := by
          rcases hK.job j hj e he with h | ⟨h, -⟩
          · exact h
          · rw [hoff] at h; cases h
        obtain ⟨hst, hcap⟩ := hs.job_record hj he hK
        refine ⟨countLaw_modEntry hK (fun _ => ⟨rfl, rfl, rfl, rfl⟩) fun d hd hds => ?_, fun m f hf => ?_, fun j' hj' f hf => ?_⟩
        · obtain rfl := hnamed d hd hds
          refine ⟨hlimit.trans_le hcap, fun hw => ?_⟩
          rw [Entry.not_waiting hst] at hw
          cases hw
        · obtain ⟨d, hd, hfd⟩ := State.mem_modEntry (ref := j.ref) (φ := Entry.issued) hf
          have hwords := hK.words m d hd
          rw [hoff] at hwords
          by_cases href : d.ref m = j.ref
          · rw [if_pos href] at hfd
            subst hfd
            have hle : d.wordsWritten ≤ d.nextPos := hwords
            show d.wordsWritten + _ ≤ d.nextPos + 1
            split <;> omega
          · rw [if_neg href] at hfd
            subst hfd
            rw [if_neg]
            · exact hwords
            · exact fun h => href (by
                obtain ⟨w, hw, hwr⟩ := State.writeOnBus_iff.1 h
                rw [← hwr, ← Option.some.inj hw])
        · obtain rfl : j = j' := Option.some.inj (hj.symm.trans hj')
          obtain ⟨hfm, hfslot⟩ := State.mem_of_entry? hf
          obtain ⟨d, hd, hfd⟩ := State.mem_modEntry (ref := j.ref) (φ := Entry.issued) hfm
          have href : d.ref j.ref.group = j.ref := by
            rw [hfd] at hfslot
            refine Entry.ref_of_slot ?_
            split at hfslot <;> exact hfslot
          rw [if_pos href] at hfd
          obtain rfl := hnamed d hd (Entry.ref_eq_iff.1 href).2
          subst hfd
          exact .inr ⟨State.writeOnBus_iff.2 ⟨_, rfl, rfl⟩, hlimit⟩

end Path

end Sys2Proof.Machine
end

section
/-! PROOF. The answers to a result write keep all capture work with its records and the counts within their bounds (R108). -/

namespace Sys2Proof.Machine

section Answers

variable {s t u v : State} {g m : GroupId} {e d f : Entry} {ref : EntryRef} {w : WordOnBus} {K : GroupId → Nat} {φ : Entry → Entry}

/-! ## The end of a write and of a job -/

/-- A write leaves the bus and its record's job may end with it. -/
abbrev State.offBus (s : State) (job : Option Job) : State :=
  { s with writer := { s.writer with write := .idle, onBus := none, job := job } }

theorem sound_offBus (hs : s.Sound) {job : Option Job} (hjob : job = s.writer.job ∨ job = none) : (s.offBus job).Sound := by
  have hsub : ∀ j, job = some j → s.writer.job = some j := fun j hj => by
    rcases hjob with h | h
    · exact h ▸ hj
    · rw [h] at hj; cases hj
  refine ⟨hs.slots, hs.shape, nofun, hs.owner.of_sheds ?_ (fun m e he _ _ => ⟨e, he, .refl e, fun _ => rfl⟩) nofun⟩
  exact ⟨fun _ h => h, fun _ h => h, fun _ h => h, fun _ h => h, .refl _, hsub⟩

/-- What is counted when a write leaves the bus: the record of a job that goes on has a position left to write. -/
theorem counted_offBus (hK : ∀ m, (s.group m).CountLaw (K m))
    (hwords : ∀ m, ∀ e ∈ (s.group m).window, e.wordsWritten ≤ e.nextPos) {job : Option Job}
    (hjob : ∀ j, job = some j → ∀ e, s.entry? j.ref = some e → e.nextPos < j.limit) : (s.offBus job).Counted K :=
  ⟨hK, fun m e he => hwords m e he, fun j hj e he => .inl (hjob j hj e he)⟩

theorem State.Counted.words_le (hK : s.Counted K) (he : e ∈ (s.group m).window) : e.wordsWritten ≤ e.nextPos :=
  (Nat.le_add_right _ _).trans (hK.words m e he)

/-- A write that is not counted belongs to no job (R108, R111). -/
theorem State.Sound.job_of_counted (hs : s.Sound) (hw : s.writer.onBus = some w) (hno : s.wordUncounted w.ref = false) :
    ∃ j e, s.writer.job = some j ∧ j.ref = w.ref ∧ s.entry? w.ref = some e := by
  unfold State.wordUncounted at hno
  split at hno
  · next e he =>
    obtain ⟨hmem, hslot⟩ := State.mem_of_entry? he
    obtain ⟨d, hd, hdslot, hst⟩ := hs.owner.onBus w hw
    obtain rfl := (hs.slots _).eq hd hmem (hdslot.trans hslot.symm)
    obtain ⟨j, hj, href⟩ := State.hasJob_iff.1 (hst.resolve_left fun h => by rw [h] at hno; cases hno)
    exact ⟨j, d, hj, href, he⟩
  · cases hno

theorem State.Sound.job_of_uncounted (hs : s.Sound) (hno : s.wordUncounted w.ref = true) {j : Job} (hj : s.writer.job = some j) :
    j.ref ≠ w.ref := by
  intro href
  obtain ⟨d, hd, hdslot, hst⟩ := hs.owner.job_runs hj
  rw [href] at hd hdslot
  have hentry := State.entry?_of_mem (hs.slots _) hd
  rw [Entry.ref_of_slot hdslot] at hentry
  rw [State.wordUncounted, hentry] at hno
  have hret : d.st = .retiring := by simpa using hno
  rw [hret] at hst
  rcases hst with h | h <;> cases h

/-! ## The word that leaves the bus -/

theorem wordAnswered_eq (s : State) : s.wordAnswered = (s.answered .resultWriter).offBus s.writer.job := rfl

/-- A write that is not counted leaves the bus alone (R108). -/
theorem wordAnswered_keeps (hfree : ∀ j, s.writer.job = some j → s.writeOnBus j.ref = false) :
    s.Preserves s.wordAnswered := by
  rw [wordAnswered_eq]
  have hsame : s.Preserves (s.answered .resultWriter) := preserves_of_same rfl rfl rfl rfl
  refine ⟨fun hs => sound_offBus (hsame.sound hs) (.inl rfl), fun _ K hK => ?_⟩
  refine counted_offBus (s := s.answered .resultWriter) hK.counts (fun m e he => hK.words_le he) fun j hj e he => ?_
  rcases hK.job j hj e he with h | ⟨h, -⟩
  · exact h
  · rw [hfree j hj] at h; cases h

/-- The record of the answered write is changed, and its job ends or goes on. -/
theorem answeredWord_keeps (hs : s.Sound) {j : Job} (hj : s.writer.job = some j) (href : j.ref = w.ref)
    (hw : s.writer.onBus = some w) {job : Option Job} (hjob : job = s.writer.job ∨ job = none)
    (hφ : ∀ e : Entry, (φ e).slot = e.slot ∧ (φ e).copy = e.copy ∧ (φ e).st = e.st ∧ (φ e).triggered = e.triggered
      ∧ (φ e).periodsRun = e.periodsRun ∧ (φ e).nextPos = e.nextPos ∧ (φ e).wordsWritten ≤ e.wordsWritten + 1)
    (hleft : ∀ e, s.entry? w.ref = some e → job = some j → e.nextPos < j.limit) :
    s.Preserves ((s.modEntry w.ref φ).offBus job) := by
  have hlisted : s.inFill w.ref = false := href ▸ hs.not_listed_of_hand (State.inHand_of_job hj)
  have hbus : s.writeOnBus w.ref = true := State.writeOnBus_iff.2 ⟨w, hw, rfl⟩
  refine ⟨fun hs => ?_, fun hs K hK => counted_offBus ?_ (fun m f hf => ?_) fun j' hj' f hf => ?_⟩
  · refine sound_offBus (sound_modEntry hs (fun e => (hφ e).1) (fun e _ _ => ?_) hlisted) hjob
    exact Entry.lasts_of_counts (fun e => ⟨(hφ e).1, (hφ e).2.1, (hφ e).2.2.1, (hφ e).2.2.2.1⟩) e
  · refine countLaw_modEntry hK (fun e => ⟨(hφ e).2.1, (hφ e).2.2.1, (hφ e).2.2.2.1, (hφ e).2.2.2.2.1⟩) fun e he _ => ?_
    obtain ⟨-, hnext, -, hwait⟩ := hK.counts _ e he
    rw [(hφ e).2.2.2.2.2.1]
    exact ⟨hnext, fun h => (hwait h).2.1⟩
  · obtain ⟨e, he, rfl⟩ := State.mem_modEntry hf
    have hwords := hK.words m e he
    split
    · next hr =>
      rw [hr, if_pos hbus] at hwords
      obtain ⟨-, -, -, -, -, hnext, hle⟩ := hφ e
      omega
    · exact hK.words_le he
  · have hsame : j' = j := by
      rcases hjob with h | h
      · exact Option.some.inj (hj'.symm.trans (h.trans hj))
      · rw [h] at hj'; cases hj'
    subst hsame
    obtain ⟨hfm, hfslot⟩ := State.mem_of_entry? hf
    obtain ⟨e, he, hfe⟩ := State.mem_modEntry hfm
    have hslot : f.slot = e.slot := by
      rw [hfe]
      split
      · exact (hφ e).1
      · rfl
    have hnext : f.nextPos = e.nextPos := by
      rw [hfe]
      split
      · exact (hφ e).2.2.2.2.2.1
      · rfl
    have hentry := State.entry?_of_mem (hs.slots _) he
    rw [Entry.ref_of_slot (hslot.symm.trans hfslot), href] at hentry
    rw [hnext]
    exact hleft e hentry hj'

/-- A word that is counted, and taken into the CRC (R108, R109). -/
abbrev Entry.wordCounted (w : WordOnBus) (e : Entry) : Entry :=
  { e with wordsWritten := e.wordsWritten + 1, crc := crcWord e.crc w.word }

/-- A word whose write has failed (R108). -/
abbrev Entry.wordFailed (e : Entry) : Entry := { e with flags := { e.flags with resultFault := true }, faulted := true }

theorem countWord_eq {j : Job} (hj : s.writer.job = some j) (href : j.ref = w.ref) (he : s.entry? w.ref = some e) :
    State.countWord w s.wordAnswered =
      ((s.answered .resultWriter).modEntry w.ref (Entry.wordCounted w)).offBus
        (if j.finished e.nextPos then none else s.writer.job) := by
  have hj' : s.wordAnswered.writer.job = some j := hj
  have he' : s.wordAnswered.entry? w.ref = some e := he
  have hhas : (s.wordAnswered.modEntry w.ref (Entry.wordCounted w)).hasJob w.ref = true :=
    State.hasJob_iff.2 ⟨j, hj, href⟩
  unfold State.countWord
  dsimp only
  rw [hj', he']
  dsimp only
  split
  · rw [State.endJob, if_pos hhas]
    rfl
  · rfl

theorem faultWord_eq {j : Job} (hj : s.writer.job = some j) (href : j.ref = w.ref) :
    State.faultWord w s.wordAnswered =
      ((s.answered .resultWriter).modEntry w.ref Entry.wordFailed).offBus none := by
  have hhas : (s.wordAnswered.modEntry w.ref Entry.wordFailed).hasJob w.ref = true :=
    State.hasJob_iff.2 ⟨j, hj, href⟩
  unfold State.faultWord
  rw [State.endJob, if_pos hhas]
  rfl

/-! ## The answers -/

/-- What an answer makes of a word that is counted. -/
abbrev KeepsWord (φ : WordOnBus → State → State) : Prop := ∀ (s : State) (w : WordOnBus) (j : Job) (e : Entry), s.Sound →
  s.writer.onBus = some w → s.writer.job = some j → j.ref = w.ref → s.entry? w.ref = some e → s.Preserves (φ w s.wordAnswered)

theorem keepsWord_countWord : KeepsWord State.countWord := by
  intro s w j e hs hw hj href he
  have hsame : s.Preserves (s.answered .resultWriter) := preserves_of_same rfl rfl rfl rfl
  rw [countWord_eq hj href he]
  refine hsame.trans (answeredWord_keeps (φ := Entry.wordCounted w) (hsame.sound hs) hj href hw ?_
    (fun _ => ⟨rfl, rfl, rfl, rfl, rfl, rfl, Nat.le_refl _⟩) ?_)
  · split
    · exact .inr rfl
    · exact .inl rfl
  · intro d hd hgoes
    obtain rfl : e = d := Option.some.inj (he.symm.trans hd)
    split at hgoes
    · cases hgoes
    · next h => simpa [Job.finished] using h

theorem keepsWord_faultWord : KeepsWord State.faultWord := by
  intro s w j e hs hw hj href he
  have hsame : s.Preserves (s.answered .resultWriter) := preserves_of_same rfl rfl rfl rfl
  rw [faultWord_eq hj href]
  exact hsame.trans (answeredWord_keeps (φ := Entry.wordFailed) (hsame.sound hs) hj href hw (.inr rfl)
    (fun _ => ⟨rfl, rfl, rfl, rfl, rfl, rfl, Nat.le_succ _⟩) fun _ _ hnone => absurd hnone (Option.some_ne_none _).symm)

/-- The answer to a result write (R108). -/
theorem stays_resultAnswered {φ : WordOnBus → State → State} (hφ : KeepsWord φ) (hgoes : ∀ w s, State.Goes True 0 s (φ w s))
    (hfixed : ∀ w (s : State), (φ w s).fixed = s.fixed) (hs : s.Sound) (hdone : s.Done) (hrun : s.ctrl = .running)
    (hbound : s.writer.queue.length ≤ 4) : s.Stays (s.resultAnswered φ) := by
  have hrun' : s.isRunning = true := by rw [State.isRunning, hrun]; rfl
  unfold State.resultAnswered
  split
  · next hnone =>
    have hkeeps : s.Preserves s.wordAnswered := wordAnswered_keeps fun j _ => by rw [State.writeOnBus, hnone]
    exact hkeeps.stays hs (hdone.of_same rfl rfl rfl rfl rfl rfl rfl rfl)
  · next w hw =>
    have hchanged : s.Preserves (if s.wordUncounted w.ref = true then s.wordAnswered else φ w s.wordAnswered)
        ∧ (if s.wordUncounted w.ref = true then s.wordAnswered else φ w s.wordAnswered).isRunning = true
        ∧ (if s.wordUncounted w.ref = true then s.wordAnswered else φ w s.wordAnswered).writer.queue.length ≤ 4 := by
      split
      · next hno =>
        refine ⟨wordAnswered_keeps fun j hj => ?_, hrun', hbound⟩
        by_contra hb
        obtain ⟨w', hw', href⟩ := State.writeOnBus_iff.1 (by simpa using hb)
        obtain rfl := Option.some.inj (hw.symm.trans hw')
        exact hs.job_of_uncounted hno hj href.symm
      · next hno =>
        obtain ⟨j, e, hj, href, he⟩ := hs.job_of_counted hw (by simpa using hno)
        exact ⟨hφ s w j e hs hw hj href he, (State.isRunning_of_fixed (hfixed w _)).trans hrun', (hgoes w _).results hbound⟩
    exact hchanged.1.pumped hs hchanged.2.1 hchanged.2.2

end Answers

end Sys2Proof.Machine
end

section
/-! PROOF. Reads, leaving records, the trip unit, the administrative commands and the passing of a device clock keep all
capture work with its records (R8, R16, R23, R121, R151). -/

namespace Sys2Proof.Machine

section Reads

variable {s t u v : State} {g m : GroupId} {e d f : Entry} {x y : Group} {k : Nat} {K : GroupId → Nat}

/-! ## Reads -/

/-- An entry that a read's answer settles has run nothing yet (R8, R9). -/
structure SettlesUnrun (φ : Entry → Entry) : Prop where
  slot : ∀ e, (φ e).slot = e.slot
  waits : ∀ e, (φ e).isWaiting = true
  counts : ∀ e, (φ e).triggered = 0 ∧ (φ e).nextPos = 0 ∧ (φ e).wordsWritten = 0 ∧ (φ e).periodsRun = 0

theorem settlesUnrun_fetched (slot : Slot64) (valid : Bool) : SettlesUnrun (Entry.fetched slot valid) := by
  cases valid <;> exact ⟨fun _ => rfl, fun _ => rfl, fun _ => ⟨rfl, rfl, rfl, rfl⟩⟩

theorem settlesUnrun_fetchFailed : SettlesUnrun Entry.fetchFailed := ⟨fun _ => rfl, fun _ => rfl, fun _ => ⟨rfl, rfl, rfl, rfl⟩⟩

theorem Group.mem_settleFetch {φ : Entry → Entry} (hf : f ∈ (x.settleFetch φ).window) :
    ∃ e ∈ x.window, (e.st = .fetching ∧ f = φ e) ∨ (e.st ≠ .fetching ∧ f = e) := by
  obtain ⟨e, he, rfl⟩ := List.mem_map.1 hf
  refine ⟨e, he, ?_⟩
  by_cases h : e.st = .fetching
  · exact .inl ⟨h, if_pos (by simpa using h)⟩
  · exact .inr ⟨h, if_neg (by simpa using h)⟩

theorem Group.carries_settleFetch {φ : Entry → Entry} (hφ : SettlesUnrun φ) (x : Group) : x.Carries (x.settleFetch φ) := by
  refine ⟨fun hd => ?_, fun e he hw => ⟨e, ?_, .refl e, rfl⟩, fun k hk f hf => ?_, fun k hk f hf => ?_⟩
  · rw [Group.SlotsDistinct, Group.settleFetch, List.map_map]
    convert hd using 2
    funext e
    rw [Function.comp_apply]
    split
    · exact hφ.slot e
    · rfl
  · refine List.mem_map.2 ⟨e, he, if_neg fun h => ?_⟩
    rw [Entry.isWaiting_iff.2 (.inr (.inr (by simpa using h)))] at hw
    cases hw
  · obtain ⟨e, he, ⟨-, rfl⟩ | ⟨-, rfl⟩⟩ := Group.mem_settleFetch hf
    · obtain ⟨htrig, hnext, -, hperiods⟩ := hφ.counts e
      refine ⟨htrig ▸ Nat.zero_le _, hnext ▸ Nat.zero_le _, fun _ => htrig ▸ Nat.zero_le _, fun _ => ⟨htrig, hnext, hperiods⟩⟩
    · exact hk f he
  · obtain ⟨e, he, ⟨hst, rfl⟩ | ⟨-, rfl⟩⟩ := Group.mem_settleFetch hf
    · obtain ⟨-, hnext, hwords, -⟩ := hφ.counts e
      obtain ⟨-, -, -, hwait⟩ := hk e he
      exact ⟨e, he, hφ.slot e, hnext.trans (hwait (Entry.isWaiting_iff.2 (.inr (.inr hst)))).2.1.symm, hwords ▸ Nat.zero_le _⟩
    · exact ⟨f, he, rfl, rfl, Nat.le_refl _⟩

theorem Group.calm_settleFetch {φ : Entry → Entry} (hφ : SettlesUnrun φ) (x : Group) : x.Calm (x.settleFetch φ) := by
  have hno : ∀ e, (φ e).st ≠ .draining ∧ (φ e).st ≠ .retiring := fun e => by
    have hw := Entry.isWaiting_iff.1 (hφ.waits e)
    rcases hw with h | h | h <;> rw [h] <;> exact ⟨nofun, nofun⟩
  refine ⟨fun f hf hst => ?_, fun hst hall => ⟨hst, ?_⟩⟩
  · obtain ⟨e, he, ⟨-, rfl⟩ | ⟨-, rfl⟩⟩ := Group.mem_settleFetch hf
    · exact absurd hst (hno e).1
    · exact ⟨f, he, hst, rfl⟩
  · rw [Group.allRetiring, List.all_eq_true] at hall ⊢
    intro e he
    have h := hall _ (List.mem_map_of_mem (f := fun e => if e.st == .fetching then φ e else e) he)
    split at h
    · exact absurd (by simpa using h) (hno e).2
    · exact h

/-- The answer to a group's read (R24). -/
theorem stays_readAnswered {φ : Entry → Entry} (hφ : SettlesUnrun φ) (hs : s.Sound) (hdone : s.Done) (hrun : s.ctrl = .running)
    (hbound : s.writer.queue.length ≤ 4) : s.Stays (s.readAnswered g φ) := by
  have hrun' : s.isRunning = true := by rw [State.isRunning, hrun]; rfl
  have hans : s.Stays (s.answered (.fetcher g)) := (State.Stays.refl hs hdone).of_same rfl rfl rfl rfl
  have hsettle : (s.answered (.fetcher g)).Preserves ((s.answered (.fetcher g)).modGroup g (Group.settleFetch φ)) :=
    preserves_modGroup (Group.carries_settleFetch hφ _)
  unfold State.readAnswered
  dsimp only
  split
  · split
    · next hfaults =>
      refine hans.trans ((hsettle.trans (preserves_faultGroup _ g)).pumped hans.sound
        ((State.isRunning_of_fixed (State.fixed_faultGroup _ g)).trans hrun') ?_)
      exact (goes_faultGroup (A := True) (n := 1) (Group.spansWindow_of_readFaults hfaults) fun _ => Nat.le_refl _).results hbound
    · exact hans.trans (hsettle.stays hans.sound (hans.done.modGroup (Group.calm_settleFetch hφ _)))
  · exact hans

/-- The issue of a group's read (R11, R23): the new entry has no work. -/
theorem stays_beginFetch (hs : s.Sound) (hdone : s.Done) (hring : RingLaw s) (hfetch : (s.group g).MayFetch) :
    s.Stays (s.modGroup g Group.beginFetch) := by
  have hslots : ∀ m, ((s.modGroup g Group.beginFetch).group m).SlotsDistinct := fun m => by
    rw [State.group_modGroup]
    split
    · next hm => subst hm; exact (hfetch.keeps_ring (hring m)).slotsDistinct
    · exact hs.slots m
  have hold : ∀ m, ∀ e ∈ (s.group m).window, e ∈ ((s.modGroup g Group.beginFetch).group m).window := fun m e he => by
    rw [State.group_modGroup]
    split
    · exact List.mem_append_left _ he
    · exact he
  have hcases : ∀ m, ∀ f ∈ ((s.modGroup g Group.beginFetch).group m).window, f ∈ (s.group m).window
      ∨ (f = { slot := (s.group g).ring.fetch, st := .fetching } ∧ ∀ e ∈ (s.group m).window, e.slot ≠ f.slot) := by
    intro m f hf
    have hd := hslots m
    rw [State.group_modGroup] at hf hd
    split at hf
    · next hm =>
      subst hm
      rcases List.mem_append.1 hf with hf | hf
      · exact .inl hf
      · refine .inr ⟨List.mem_singleton.1 hf, fun e he hslot => ?_⟩
        rw [if_pos rfl, Group.SlotsDistinct, Group.beginFetch, List.map_append, List.nodup_append] at hd
        exact hd.2.2 _ (List.mem_map_of_mem he) _ (List.mem_map_of_mem hf) hslot
    · exact .inl hf
  have hl : s.Lasting (s.modGroup g Group.beginFetch) := fun m e he _ _ => ⟨e, hold m e he, .refl e, fun _ => rfl⟩
  refine ⟨⟨hslots, hs.shape, hs.bus, ?_⟩, fun hK => ⟨fun m f hf => ?_, fun m f hf => ?_, fun j hj f hf => ?_⟩, ?_⟩
  · exact hs.owner.of_sheds (State.sheds_of_same rfl rfl rfl rfl rfl rfl) hl
      (.of_lasting hs.owner rfl (fun _ h => h) hl fun m e he _ _ => ⟨e, hold m e he, .refl e⟩)
  · rcases hcases m f hf with hf | ⟨rfl, -⟩
    · obtain ⟨htrig, hnext, hactive, hwait⟩ := hK.counts m f hf
      refine ⟨htrig, hnext, fun h => ?_, hwait⟩
      rw [State.group_modGroup]
      split <;> exact hactive h
    · exact ⟨Nat.zero_le _, Nat.zero_le _, nofun, fun _ => ⟨rfl, rfl, rfl⟩⟩
  · rcases hcases m f hf with hf | ⟨rfl, hnew⟩
    · exact hK.words m f hf
    · have hno : ¬ (s.modGroup g Group.beginFetch).writeOnBus
          (Entry.ref m { slot := (s.group g).ring.fetch, st := .fetching }) = true := fun hb => by
        obtain ⟨w, hw, href⟩ := State.writeOnBus_iff.1 hb
        obtain ⟨d, hd, hslot, -⟩ := hs.owner.onBus w hw
        rw [href] at hd hslot
        exact hnew d hd hslot
      rw [if_neg hno]
  · obtain ⟨hmem, hslot⟩ := State.mem_of_entry? hf
    obtain ⟨d, hd, hdslot, -⟩ := hs.owner.job_runs (j := j) hj
    obtain rfl := (hslots _).eq (hold _ d hd) hmem (hdslot.trans hslot.symm)
    have hentry := State.entry?_of_mem (hs.slots _) hd
    rw [Entry.ref_of_slot hdslot] at hentry
    exact hK.job j hj d hentry
  · refine hdone.modGroup ⟨fun f hf hst => ?_, fun _ hall => ?_⟩
    · rcases List.mem_append.1 hf with hf | hf
      · exact ⟨f, hf, hst, rfl⟩
      · rw [List.mem_singleton.1 hf] at hst
        cases hst
    · rw [Group.allRetiring, Group.beginFetch, List.all_append, Bool.and_eq_true] at hall
      cases hall.2

/-- A record leaves the window (R16): it has no work, and no write of it is on the bus. -/
theorem stays_leave (hs : s.Sound) (hdone : s.Done) (h : s.leaveDue g = true) : s.Stays (s.modGroup g (Group.leave g)) := by
  cases hw : (s.group g).window with
  | nil => unfold State.leaveDue at h; rw [hw] at h; cases h
  | cons d rest =>
    have hretire : d.st = .retiring ∧ s.writeOnBus (d.ref g) = false := by
      unfold State.leaveDue at h
      rw [hw] at h
      simp only [List.head?_cons, Bool.and_eq_true] at h
      exact (State.canRetire_iff s g d).1 h.1.2
    have hgroup : ∀ m, ((s.modGroup g (Group.leave g)).group m) = if m = g then (s.group g).leave g else s.group m := fun m => by
      rw [State.group_modGroup]
      split
      · next hm => subst hm; rfl
      · rfl
    have hleft : (((s.group g).leave g).window) = rest := by rw [Group.leave_eq hw]
    have hstays : ∀ m, ∀ e ∈ (s.group m).window, (m = g → e ≠ d) → e ∈ ((s.modGroup g (Group.leave g)).group m).window := by
      intro m e he hne
      rw [hgroup]
      split
      · next hm =>
        subst hm
        rw [hleft]
        rw [hw] at he
        exact (List.mem_cons.1 he).resolve_left (hne rfl)
      · exact he
    have hold : ∀ m, ∀ f ∈ ((s.modGroup g (Group.leave g)).group m).window, f ∈ (s.group m).window := by
      intro m f hf
      rw [hgroup] at hf
      split at hf
      · next hm =>
        subst hm
        rw [hleft] at hf
        exact hw ▸ List.mem_cons_of_mem _ hf
      · exact hf
    have hl : s.Lasting (s.modGroup g (Group.leave g)) := fun m e he hst _ => by
      refine ⟨e, hstays m e he fun _ hed => ?_, .refl e, fun _ => rfl⟩
      rw [hed, hretire.1] at hst
      rcases hst with h | h <;> cases h
    refine ⟨⟨fun m => ?_, hs.shape, hs.bus, ?_⟩, fun hK => ?_, hdone.modGroup ⟨fun f hf hst => ?_, fun hst hall => ?_⟩⟩
    · rw [hgroup]
      split
      · have hd := hs.slots g
        rw [Group.SlotsDistinct, hw, List.map_cons, List.nodup_cons] at hd
        rw [Group.SlotsDistinct, hleft]
        exact hd.2
      · exact hs.slots m
    · refine hs.owner.of_sheds (State.sheds_of_same rfl rfl rfl rfl rfl rfl) hl
        (.of_lasting hs.owner rfl (fun _ h => h) hl fun m e he _ hb => ⟨e, hstays m e he fun hm hed => ?_, .refl e⟩)
      rw [hed, hm, hretire.2] at hb
      cases hb
    · refine hK.of_origin hs.slots (fun m f hf => ?_) rfl (fun _ h => h) fun m f hf => ⟨f, hold m f hf, rfl, rfl, Nat.le_refl _⟩
      obtain ⟨htrig, hnext, hactive, hwait⟩ := hK.counts m f (hold m f hf)
      refine ⟨htrig, hnext, fun ha => ?_, hwait⟩
      rw [hgroup]
      split
      · next hm =>
        subst hm
        rw [Group.leave_eq hw]
        exact hactive ha
      · exact hactive ha
    · rw [hleft] at hf
      exact ⟨f, hw ▸ List.mem_cons_of_mem _ hf, hst, rfl⟩
    · rw [Group.allRetiring, hleft] at hall
      rw [Group.leave_eq hw] at hst
      refine ⟨hst, ?_⟩
      rw [Group.allRetiring, hw, List.all_cons, hretire.1, hall]
      rfl

end Reads

section Others

variable {s t u v : State} {g m : GroupId} {e d f : Entry} {x y : Group}

/-! ## The trip unit -/

theorem stays_levelChange (hs : s.Sound) (hdone : s.Done) (hbound : s.writer.queue.length ≤ 4) (l : LineId) :
    s.Stays (s.levelChange l) := by
  have hsame : s.Stays (s.setLine l (s.line l).change) := (State.Stays.refl hs hdone).of_same rfl rfl rfl rfl
  rw [levelChange_eq]
  split
  · have hlatched : s.Stays ((s.setLine l (s.line l).change).setEvt evtTrip) := hsame.of_same rfl rfl rfl rfl
    split
    · next hrun =>
      refine hlatched.trans ((preserves_foldl (fun t m => preserves_tripGroup t m) _ _).pumped hlatched.sound ?_ ?_)
      · refine (State.isRunning_of_fixed (foldl_keeps State.fixed _ (fun t m => State.fixed_tripGroup (s := t) m) _ _)).trans hrun
      · exact (goes_foldl (A := True) (n := 2) _ (fun t m => goes_tripGroup (Nat.le_refl 2) t m) _ _).results hbound
    · exact hlatched
  · exact hsame

theorem stays_judgeSample (hs : s.Sound) (hdone : s.Done) (hbound : s.writer.queue.length ≤ 4) (l : LineId) (level : Level) :
    s.Stays (s.judgeSample l level) := by
  unfold State.judgeSample
  split
  · exact stays_levelChange hs hdone hbound l
  · exact (State.Stays.refl hs hdone).of_same rfl rfl rfl rfl

/-- The writer's request for the bus is no capture work (R107). -/
theorem State.Stays.settle (h : s.Stays t) : s.Stays t.settle := by
  have hbus : t.settle.writer.onBus.isSome = true → t.settle.writer.write = .onBus := fun hb => by
    have hwrite := h.sound.bus hb
    show t.settledWriter = .onBus
    unfold State.settledWriter
    split
    · exact hwrite
    · rw [hwrite]; rfl
  have hl : t.Lasting t.settle := fun m e he _ _ => ⟨e, he, .refl e, fun _ => rfl⟩
  refine ⟨⟨h.sound.slots, h.sound.shape, hbus, ?_⟩, fun hK => ?_, h.done.of_same rfl rfl rfl rfl rfl rfl rfl rfl⟩
  · exact h.sound.owner.of_sheds (State.sheds_of_same rfl rfl rfl rfl rfl rfl) hl
      (.of_lasting h.sound.owner rfl (fun _ h => h) hl fun m e he _ _ => ⟨e, he, .refl e⟩)
  · exact (h.counted hK).of_origin h.sound.slots (h.counted hK).counts rfl (fun _ h => h)
      fun m f hf => ⟨f, hf, rfl, rfl, Nat.le_refl _⟩

theorem stays_finishSample (hs : s.Sound) (hdone : s.Done) (hbound : s.writer.queue.length ≤ 4) : s.Stays s.finishSample := by
  have hfold : s.Stays s.finishSample ∧ s.finishSample.writer.queue.length ≤ 4 := by
    refine foldl_inv (fun t => s.Stays t ∧ t.writer.queue.length ≤ 4) _ (fun t l ht => ?_) _ _ ⟨.refl hs hdone, hbound⟩
    obtain ⟨hstays, hb⟩ := ht
    refine ⟨?_, (shifts_lineStep (A := True) t l).results hb⟩
    unfold State.lineStep
    split
    · exact hstays
    · exact (hstays.trans (stays_judgeSample hstays.sound hstays.done hb l _)).settle
  exact hfold.1

/-! ## Administrative commands -/

/-- Groups that keep their windows and clocks, and stop no less. -/
theorem stays_of_windows (hs : s.Sound) (hdone : s.Done) (hg : ∀ m, (s.group m).Carries (t.group m) ∧ (s.group m).Calm (t.group m))
    (hq : t.captureQueue = s.captureQueue) (hc : t.converter = s.converter) (hw : t.writer = s.writer) : s.Stays t :=
  (preserves_of_carries (fun m => (hg m).1) hq hc hw).stays hs (hdone.of_calm (fun m => (hg m).2) hq hc hw)

theorem Group.Calm.refl (x : Group) : x.Calm x := Group.calm_of_window rfl id

theorem stays_modGroup {φ : Group → Group} (hs : s.Sound) (hdone : s.Done) (hc : (s.group g).Carries (φ (s.group g)))
    (hcalm : (s.group g).Calm (φ (s.group g))) : s.Stays (s.modGroup g φ) :=
  (preserves_modGroup hc).stays hs (hdone.modGroup hcalm)

theorem Group.bind_work (cmd : Slot32) (tripped : Bool) (x : Group) : x.Carries (x.bind cmd tripped) ∧ x.Calm (x.bind cmd tripped) := by
  unfold Group.bind
  dsimp only
  split
  · split
    · exact ⟨.of_window rfl (.inl ⟨rfl, rfl, rfl⟩), Group.calm_of_window rfl nofun⟩
    · exact ⟨.of_window rfl (.inl ⟨rfl, rfl, rfl⟩), Group.calm_of_window rfl nofun⟩
  · exact ⟨.of_window rfl (.inl ⟨rfl, rfl, rfl⟩), Group.calm_of_window rfl id⟩

theorem Group.clearTrip_work (x : Group) : x.Carries x.clearTrip ∧ x.Calm x.clearTrip := by
  unfold Group.clearTrip
  split
  · exact ⟨.of_window rfl (.inl ⟨rfl, rfl, rfl⟩), Group.calm_of_window rfl nofun⟩
  · exact ⟨.refl x, .refl x⟩

theorem stays_start (hs : s.Sound) (hdone : s.Done) (members : Byte) (sets : List StartSet) :
    s.Stays ((maskGroups members).foldl (fun (t : State) (m : GroupId) => t.modGroup m fun x => { x with state := .armed })
      { s with sets := sets }) := by
  refine foldl_inv s.Stays _ (fun t m ht => ?_) _ _ ((State.Stays.refl hs hdone).of_same rfl rfl rfl rfl)
  exact ht.trans (stays_modGroup ht.sound ht.done (.of_window rfl (.inl ⟨rfl, rfl, rfl⟩)) (Group.calm_of_window rfl nofun))

/-- What an accepted command leaves (R151). -/
theorem Serves.stays (h : Serves s u) (hs : s.Sound) (hdone : s.Done) (hactive : ActiveLaw s) (hrun : s.ctrl = .running)
    (hbound : s.writer.queue.length ≤ 4) : s.Stays u := by
  have hrun' : s.isRunning = true := by rw [State.isRunning, hrun]; rfl
  have same : s.Stays s := .refl hs hdone
  cases h with
  | nothing => exact same
  | setPair | setTrip | setToken => exact same.of_same rfl rfl rfl rfl
  | setConverter k => exact stays_of_converter hs hdone rfl rfl rfl rfl rfl hs.shape.rest rfl
  | bind g cmd =>
    exact stays_modGroup hs hdone (Group.bind_work cmd _ _).1 (Group.bind_work cmd _ _).2
  | unbind g => exact stays_modGroup hs hdone (.of_window rfl (.inl ⟨rfl, rfl, rfl⟩)) (Group.calm_of_window rfl nofun)
  | setGroup g d mode ticks _ hst =>
    have h0 : (s.group g).activeCount = 0 := by
      rcases hst with h | h <;> exact (hactive g).zero (by simp [h]) (by simp [h])
    have hset : s.Stays (s.modGroup g fun x => { x with d := d, mode := mode, presc := 0 }) :=
      stays_modGroup hs hdone (.of_window rfl (.inr (Group.no_active_of_count h0))) (Group.calm_of_window rfl id)
    exact hset.of_same rfl rfl rfl rfl
  | start members => exact stays_start hs hdone members _
  | stop g mode =>
    exact (preserves_stopGroup s g mode).pumped hs ((State.isRunning_of_fixed (State.fixed_stopGroup _ g mode)).trans hrun')
      ((goes_stopGroup (A := True) (n := 1) mode fun _ => Nat.le_refl _).results hbound)
  | abort g _ hst =>
    exact (preserves_abortGroup s g).pumped hs ((State.isRunning_of_fixed (State.fixed_abortGroup _ g)).trans hrun')
      ((goes_abortGroup (A := True) (n := 1) hst fun _ => Nat.le_refl _).results hbound)
  | discard g _ hst =>
    exact ((preserves_abortGroup s g).trans (preserves_modGroup (Group.carries_discard _))).pumped hs
      ((State.isRunning_of_fixed (State.fixed_abortGroup _ g)).trans hrun')
      ((goes_abortGroup (A := True) (n := 1) hst fun _ => Nat.le_refl _).results hbound)
  | clearTrip l =>
    refine foldl_inv s.Stays _ (fun t m ht => ?_) _ _ (same.of_same rfl rfl rfl rfl)
    split
    · exact ht
    · exact ht.trans (stays_modGroup ht.sound ht.done (Group.clearTrip_work _).1 (Group.clearTrip_work _).2)
  | finishSample => exact stays_finishSample hs hdone hbound

/-! ## The passing of a device clock -/

theorem stays_passClock (hs : s.Sound) (hdone : s.Done) : s.Stays s.passClock := by
  have hgroups : s.Stays { s with groups := s.passClock.groups } := by
    refine stays_of_windows hs hdone (fun m => ?_) rfl rfl rfl
    rw [show ({ s with groups := s.passClock.groups } : State).group m = (s.group m).passClock s.ctrl from s.passClock_group m]
    unfold Group.passClock
    cases s.ctrl <;> exact ⟨.of_window rfl (.inl ⟨rfl, rfl, rfl⟩), Group.calm_of_window rfl id⟩
  have hconv : (s.converter.passClock s.ctrl).state = s.converter.state ∧ (s.converter.passClock s.ctrl).current = s.converter.current
      ∧ (s.converter.passClock s.ctrl).held = s.converter.held ∧ (s.converter.passClock s.ctrl).step = s.converter.step
      ∧ (s.converter.passClock s.ctrl).done = s.converter.done ∧ (s.converter.passClock s.ctrl).sum = s.converter.sum := by
    unfold Converter.passClock
    cases s.ctrl <;> exact ⟨rfl, rfl, rfl, rfl, rfl, rfl⟩
  obtain ⟨hst, hcurrent, hheld, hstep, hdn, hsum⟩ := hconv
  refine hgroups.trans (stays_of_converter hgroups.sound hgroups.done rfl rfl hst hcurrent hheld (fun hn => ?_) rfl)
  obtain ⟨h1, h2, h3⟩ := hs.shape.rest fun h => hn (hst.trans h)
  exact ⟨hstep.trans h1, hdn.trans h2, hsum.trans h3⟩

end Others

end Sys2Proof.Machine
end

section
/-! PROOF. Every effect, and so every step, keeps all capture work with the records that own it, and the counts within
their bounds (R83, R87, R91 to R94, R104 to R110). -/

namespace Sys2Proof.Machine

section CaptureWork

variable {s t u : State} {g : GroupId} {e : Entry}

/-! ## Resets -/

/-- The state after a reset holds no capture work (R178, R182). -/
theorem stays_of_reset (hg : t.groups = State.reset.groups) (hq : t.captureQueue = State.reset.captureQueue)
    (hc : t.converter = State.reset.converter) (hw : t.writer = State.reset.writer) : s.Stays t := by
  have hsound : State.reset.Sound := captureLaw_reset.sound ownerLaw_reset fun m => (ringLaw_reset m).slotsDistinct
  have hstays := (State.Stays.refl hsound captureLaw_reset.done).of_same hg hq hc hw
  exact ⟨hstays.sound, fun _ => hstays.counted (positionLaw_iff.1 positionLaw_reset), hstays.done⟩

/-! ## Boundaries -/

theorem stays_periodBoundary (hs : s.Sound) (hdone : s.Done) (hactive : ActiveLaw s) (hbound : s.writer.queue.length ≤ 4)
    (hrun : s.ctrl = .running) (hb : (s.group g).atBoundary = true) : s.Stays (s.periodBoundary g) := by
  unfold State.periodBoundary
  split
  · exact .refl hs hdone
  · next e ha =>
    obtain ⟨hsound, hcounted⟩ := periodBoundary_keeps hs (hactive g) ha
    have hgoes : State.Goes True 2 s (((s.markTick g).boundary g e).afterBoundary g) :=
      (goes_markTick s g).trans
        ((goes_boundary (s := s.markTick g) e (Group.running_of_atBoundary hb)).trans (goes_afterBoundary _ g))
    have hfixed : (((s.markTick g).boundary g e).afterBoundary g).fixed = s.fixed := by simp
    have hrun' : s.isRunning = true := by rw [State.isRunning, hrun]; rfl
    have hpump := preserves_pump (((s.markTick g).boundary g e).afterBoundary g)
    exact ⟨hpump.sound hsound, fun hK => hpump.counted hsound _ (hcounted hK),
      done_pump hsound ((State.isRunning_of_fixed hfixed).trans hrun') (hgoes.results hbound)⟩

/-! ## Every effect -/

theorem stays_popQueue (hs : s.Sound) (hdone : s.Done) (v : Server) : s.Stays (s.popQueue v) := by
  cases v with
  | group g =>
    show s.Stays (s.modGroup g fun x => { x with queue := x.queue.tail })
    exact stays_modGroup hs hdone (.of_window rfl (.inl ⟨rfl, rfl, rfl⟩)) (Group.calm_of_window rfl id)
  | admin => exact (State.Stays.refl hs hdone).of_same rfl rfl rfl rfl

/-- Every effect leaves capture work with its records, counts within their bounds and no consequence undone, where the
windows are in ring order and the sets and ACTIVE records as their laws say. -/
theorem Effect.stays (h : Effect s u) (hs : s.Sound) (hdone : s.Done) (hring : RingLaw s) (hactive : ActiveLaw s)
    (hset : SetLaw s) (hbound : s.writer.queue.length ≤ 4) : s.Stays u := by
  have same : s.Stays s := .refl hs hdone
  have marked : ∀ g, s.Stays (s.markTick g) := fun g => same.of_same rfl rfl rfl rfl
  cases h with
  | powerOn | controllerReset => exact stays_of_reset rfl rfl rfl rfl
  | groupTail g i _ h =>
    exact stays_modGroup hs hdone (.of_window rfl (.inl ⟨rfl, rfl, rfl⟩)) (Group.calm_of_window rfl id)
  | fetch g _ h =>
    exact (stays_beginFetch hs hdone hring (Group.mayFetch_of_granted h)).of_same rfl rfl rfl rfl
  | readOk g slot valid _ h => exact stays_readAnswered (settlesUnrun_fetched slot valid) hs hdone h.running hbound
  | readError g _ h => exact stays_readAnswered settlesUnrun_fetchFailed hs hdone h.running hbound
  | tick g _ h hb =>
    exact (marked g).trans (stays_stepTick (marked g).sound (marked g).done (State.tickDue_running (s := s) h) hb)
  | boundary g _ h hb => exact stays_periodBoundary hs hdone hactive hbound (State.tickDue_running h) hb
  | resume g _ h hr =>
    exact (marked g).trans (stays_resume (marked g).sound (marked g).done (State.tickDue_running (s := s) h) (hactive g) hr)
  | fire g _ h => exact stays_fireSet hs hdone hactive hset h
  | converterTick v => exact stays_convTick hs hdone v
  | conversionEnd _ h => exact stays_conversionEnd hs hdone hbound h
  | issueWord _ h =>
    have hasks : s.asking .resultWriter = true := List.find?_some ((State.granted_iff s .resultWriter).1 h).2
    exact stays_issueWord hs hdone (by simpa [State.asking] using hasks)
  | countWord _ h =>
    exact stays_resultAnswered keepsWord_countWord (fun w s => goes_countWord s w) (fun w s => s.fixed_countWord w)
      hs hdone h.running hbound
  | faultWord _ h =>
    exact stays_resultAnswered keepsWord_faultWord (fun w s => goes_faultWord s w) (fun w s => s.fixed_faultWord w)
      hs hdone h.running hbound
  | leave g _ h => exact stays_leave hs hdone h
  | notice g => exact stays_modGroup hs hdone (.of_window rfl (.inl ⟨rfl, rfl, rfl⟩)) (Group.calm_of_window rfl id)
  | issueEntry v => exact (stays_popQueue hs hdone v).of_same rfl rfl rfl rfl
  | judge l level => exact stays_judgeSample hs hdone hbound l level
  | command cmd status value _ v h hv =>
    have hreceived : s.Stays s.received := same.of_same rfl rfl rfl rfl
    have hserved := hv.stays hreceived.sound hreceived.done hactive h.running hbound
    exact (hreceived.trans hserved).of_same rfl rfl rfl rfl
  | window | ringcfg | started | adminTail | release | expiry | commandRead | commandError | entryOk | entryError | sample =>
    exact same.of_same rfl rfl rfl rfl

/-! ## Every step -/

theorem step_stays (hs : s.Sound) (hdone : s.Done) (hring : RingLaw s) (hactive : ActiveLaw s) (hset : SetLaw s)
    (hbound : s.writer.queue.length ≤ 4) (h : step s = .next t) : s.Stays t := by
  have same : s.Stays s := .refl hs hdone
  refine step_reaches (fun v => ∃ q, v = { s with pending := q }) s.Stays ?_ ?_ ?_ ?_ ?_ ?_ ⟨s.pending, rfl⟩ h
  · rintro _ q ⟨_, rfl⟩
    exact ⟨q, rfl⟩
  · rintro _ ⟨_, rfl⟩
    exact same.of_same rfl rfl rfl rfl
  · rintro _ r ⟨_, rfl⟩
    exact same.of_same rfl rfl rfl rfl
  · rintro _ r ⟨_, rfl⟩
    exact same.of_same rfl rfl rfl rfl
  · rintro _ u ⟨q, rfl⟩ hu
    have hqueued : s.Stays { s with pending := q } := same.of_same rfl rfl rfl rfl
    exact (hqueued.trans (hu.stays hqueued.sound hqueued.done hring hactive hset hbound)).settle
  · rintro _ ⟨q, rfl⟩
    have hqueued : s.Stays { s with pending := q } := same.of_same rfl rfl rfl rfl
    exact hqueued.trans (stays_passClock hqueued.sound hqueued.done)

end CaptureWork

/-- Settles O7: the parts of every happening keep the work with its records, and the rounds of consequences end with none
undone. -/
theorem everyStepKeepsCaptureWorkOwned : Obligations.EveryStepKeepsCaptureWorkOwned := by
  unfold Obligations.EveryStepKeepsCaptureWorkOwned
  intro s t hring hactive hset _ hqueues hcapture howner h
  have hbounded : QueuesBounded t := everyStepKeepsQueuesBounded s t hqueues h
  obtain ⟨-, hresults, -⟩ := hqueues
  obtain ⟨-, hresults', -⟩ := hbounded
  have hs : s.Sound := hcapture.sound howner fun m => (hring m).slotsDistinct
  have hstays := step_stays hs hcapture.done hring hactive hset hresults h
  exact ⟨hstays.sound.captureLaw hstays.done hresults', hstays.sound.owner,
    fun hp => positionLaw_iff.2 (hstays.counted (positionLaw_iff.1 hp))⟩

end Sys2Proof.Machine
end
